-- ==== Sys2Proof/Word.lean ====
section
/-! DEFINITION. The units of the Aducto K24: link bytes, mill time and the numbers that name its instances. -/
namespace Sys2Proof

/-- One byte of the panel link or of a detector frame. -/
abbrev Byte := BitVec 8

/-- The two-byte target field of a request header (R184) and the two-byte CRC (R186). -/
abbrev Half := BitVec 16

/-- A count of mill time, in ticks of 0.1 ms; it does not wrap (00_scope, Mill time). -/
abbrev Tick := Nat

/-! Instance names (00_scope, Instance names). -/

/-- Duct segments S0 to S127. -/
abbrev SegId := Fin 128
/-- Detector channels D0 to D31. -/
abbrev ChanId := Fin 32
/-- Extinguishing stations X0 to X23. -/
abbrev StationId := Fin 24
/-- Abort gates G0 to G7. -/
abbrev GateId := Fin 8
/-- Extraction lines L0 to L7. -/
abbrev LineId := Fin 8
/-- Fans M0 to M7. -/
abbrev FanId := Fin 8
/-- Zones Z0 to Z15, each with its call point C0 to C15. -/
abbrev ZoneId := Fin 16
/-- Fire shutters H0 to H11. -/
abbrev ShutterId := Fin 12
/-- Yard sirens Y0 to Y7. -/
abbrev SirenId := Fin 8
/-- Airflow channels A0 to A15. -/
abbrev AirId := Fin 16
/-- Temperature channels T0 to T15. -/
abbrev TempId := Fin 16
/-- Slots of the Track Table, 0 to 47 (R51). -/
abbrev SlotId := Fin 48

end Sys2Proof
end

