-- ==== Sys2Proof/Syntax.lean ====
section
/-! DEFINITION. The commands of the block: one constructor per row of spec/opcode_table.json, in the table's order. -/
namespace Sys2Proof

/-- A header of even parity, and the ticks from its end until chip select rises (R185, log row 8). -/
structure BadHeader where
  bits : BitVec 32
  low : Nat
  deriving DecidableEq, Repr

/-- A command of the block, link command or event, with its operands.
A link command carries the target field and the data bytes of one whole transaction whose header parity and CRC are
good (R184 to R188).
An event carries the instance it happens at, and the level or width that the field line then shows.
RESET_LINE_HIGH with chip select low carries `low`, the ticks until chip select rises (log row 8).
`place` is a position in the track's plan, counted from 0 in plan order (R85). -/
inductive Instr where
  /-- LOAD_LIMITS, R7. -/
  | loadLimits (target : Half) (data : List Byte)
  /-- LOAD_SEGMENT, R2. -/
  | loadSegment (target : Half) (data : List Byte)
  /-- LOAD_POINT, R5. -/
  | loadPoint (target : Half) (data : List Byte)
  /-- LOAD_GATE, R6. -/
  | loadGate (target : Half) (data : List Byte)
  /-- LOAD_LINE, R133. -/
  | loadLine (target : Half) (data : List Byte)
  /-- LOAD_STATION, R100. -/
  | loadStation (target : Half) (data : List Byte)
  /-- LOAD_CHANNEL, R23. -/
  | loadChannel (target : Half) (data : List Byte)
  /-- LOAD_AIRFLOW, R38. -/
  | loadAirflow (target : Half) (data : List Byte)
  /-- LOAD_TEMPERATURE, R44. -/
  | loadTemperature (target : Half) (data : List Byte)
  /-- LOAD_SHUTTER, R159. -/
  | loadShutter (target : Half) (data : List Byte)
  /-- LOAD_SIREN, R174. -/
  | loadSiren (target : Half) (data : List Byte)
  /-- LOAD_PATTERN, R174. -/
  | loadPattern (target : Half) (data : List Byte)
  /-- COMMIT, R10. -/
  | commit (target : Half) (data : List Byte)
  /-- VALIDATION_WALK_END, R11. -/
  | validationWalkEnd
  /-- RELEASE_GUARD, R17. -/
  | releaseGuard (target : Half) (data : List Byte)
  /-- READ_STATUS, R191. -/
  | readStatus (target : Half) (data : List Byte)
  /-- LOOKUP_TRACK, R76. -/
  | lookupTrack (target : Half) (data : List Byte)
  /-- LIST_TRACKS, R77. -/
  | listTracks (target : Half) (data : List Byte)
  /-- ANNOTATE_TRACK, R73. -/
  | annotateTrack (target : Half) (data : List Byte)
  /-- RETIRE_TRACK, R72. -/
  | retireTrack (target : Half) (data : List Byte)
  /-- INJECT_TRACK, R74. -/
  | injectTrack (target : Half) (data : List Byte)
  /-- READ_ZONE, R158. -/
  | readZone (target : Half) (data : List Byte)
  /-- ACK_ZONE, R152. -/
  | ackZone (target : Half) (data : List Byte)
  /-- CALL_ZONE, R154. -/
  | callZone (target : Half) (data : List Byte)
  /-- READ_STATION, R125. -/
  | readStation (target : Half) (data : List Byte)
  /-- MANUAL_RELEASE, R117. -/
  | manualRelease (target : Half) (data : List Byte)
  /-- CANCEL_RELEASE, R118. -/
  | cancelRelease (target : Half) (data : List Byte)
  /-- LOCK_STATION, R119. -/
  | lockStation (target : Half) (data : List Byte)
  /-- UNLOCK_STATION, R120. -/
  | unlockStation (target : Half) (data : List Byte)
  /-- CLEAR_STATION, R114. -/
  | clearStation (target : Half) (data : List Byte)
  /-- READ_LINE, R144. -/
  | readLine (target : Half) (data : List Byte)
  /-- RESTART_LINE, R141. -/
  | restartLine (target : Half) (data : List Byte)
  /-- STOP_LINE, R144. -/
  | stopLine (target : Half) (data : List Byte)
  /-- READ_GATE, R132. -/
  | readGate (target : Half) (data : List Byte)
  /-- GATE_NORMAL, R130. -/
  | gateNormal (target : Half) (data : List Byte)
  /-- CLEAR_GATE, R131. -/
  | clearGate (target : Half) (data : List Byte)
  /-- READ_SHUTTER, R173. -/
  | readShutter (target : Half) (data : List Byte)
  /-- GRANT_HOLD, R169. -/
  | grantHold (target : Half) (data : List Byte)
  /-- REVOKE_HOLD, R169. -/
  | revokeHold (target : Half) (data : List Byte)
  /-- GRANT_ALL, R169. -/
  | grantAll (target : Half) (data : List Byte)
  /-- REVOKE_ALL, R169. -/
  | revokeAll (target : Half) (data : List Byte)
  /-- OPEN_SHUTTER, R170. -/
  | openShutter (target : Half) (data : List Byte)
  /-- CLEAR_SHUTTER, R171. -/
  | clearShutter (target : Half) (data : List Byte)
  /-- READ_SIREN, R183. -/
  | readSiren (target : Half) (data : List Byte)
  /-- SILENCE_SIREN, R179. -/
  | silenceSiren (target : Half) (data : List Byte)
  /-- READ_CHANNEL, R35. -/
  | readChannel (target : Half) (data : List Byte)
  /-- READ_AIRFLOW, R43. -/
  | readAirflow (target : Half) (data : List Byte)
  /-- READ_TEMPERATURE, R50. -/
  | readTemperature (target : Half) (data : List Byte)
  /-- READ_NOTICES, R194. -/
  | readNotices (target : Half) (data : List Byte)
  /-- CLEAR_NOTICES, R194. -/
  | clearNotices (target : Half) (data : List Byte)
  /-- SET_NOTICES, R194. -/
  | setNotices (target : Half) (data : List Byte)
  /-- MASK_NOTICES, R194. -/
  | maskNotices (target : Half) (data : List Byte)
  /-- PART_RESET, R195. -/
  | partReset (target : Half) (data : List Byte)
  /-- LINK_PART_RESET_TAKES_PLACE, R195. -/
  | linkPartResetTakesPlace
  /-- UNKNOWN_OP, R188. -/
  | unknownOp (opcode : BitVec 7) (target : Half) (data : List Byte)
  /-- HEADER_PARITY_ERROR, R185. -/
  | headerParityError (header : BadHeader)
  /-- ALERT_HOLD_END, R185. -/
  | alertHoldEnd
  /-- HOLD_TRANSACTION_IGNORED, R185. -/
  | holdTransactionIgnored
  /-- BAD_CRC, R186. -/
  | badCrc (header : BitVec 32) (data : List Byte) (crc : Half)
  /-- ALERT_PULSE_END, R186. -/
  | alertPulseEnd
  /-- SHORT_TRANSACTION, R187. -/
  | shortTransaction
  /-- RESET_LINE_LOW, R195. -/
  | resetLineLow
  /-- RESET_LINE_HIGH, R195; with no `low` chip select is high (R187). -/
  | resetLineHigh (low : Option Nat)
  /-- POWER_UP, R195. -/
  | powerUp
  /-- FRAME_COMPLETE, R19. -/
  | frameComplete (d : ChanId) (bit : Bool)
  /-- FRAME_ABANDONED, R19. -/
  | frameAbandoned (d : ChanId)
  /-- SURVEY_BOUNDARY, R31. -/
  | surveyBoundary
  /-- SUPERVISION_PULSE, R33. -/
  | supervisionPulse (d : ChanId)
  /-- TEST_DRIVE_END, R33. -/
  | testDriveEnd (d : ChanId)
  /-- ECHO_WINDOW_EXPIRY, R33. -/
  | echoWindowExpiry (d : ChanId)
  /-- AIRFLOW_PULSE, R39. -/
  | airflowPulse (a : AirId)
  /-- TEMPERATURE_PULSE, R45. -/
  | temperaturePulse (t : TempId) (width : Nat)
  /-- SAMPLE_GATE_BOUNDARY, R37. -/
  | sampleGateBoundary
  /-- STALL_LIMIT_EXPIRY, R62. -/
  | stallLimitExpiry (slot : SlotId)
  /-- SEGMENT_ADVANCE, R54. -/
  | segmentAdvance (slot : SlotId)
  /-- RECENT_PASS_EXPIRY, R55. -/
  | recentPassExpiry (slot : SlotId)
  /-- LINGER_EXPIRY, R70. -/
  | lingerExpiry (slot : SlotId)
  /-- STATION_EARLY_BOUND, R88. -/
  | stationEarlyBound (slot : SlotId) (place : Nat)
  /-- STATION_LATE_BOUND, R89. -/
  | stationLateBound (slot : SlotId) (place : Nat)
  /-- ENTRY_LATE_BOUND, R90. -/
  | entryLateBound (slot : SlotId) (place : Nat)
  /-- SERVED_ENTRY_OPEN, R102. -/
  | servedEntryOpen (x : StationId) (slot : SlotId)
  /-- SERVED_ENTRY_CLOSE, R102. -/
  | servedEntryClose (x : StationId) (slot : SlotId)
  /-- DEADLINE_PASSED, R108. -/
  | deadlinePassed (x : StationId) (slot : SlotId)
  /-- FLOOD_MINIMUM_RUN, R110. -/
  | floodMinimumRun (x : StationId)
  /-- PRESSURE_CONFIRM_INPUT, R113. -/
  | pressureConfirmInput (x : StationId) (shown : Bool)
  /-- CONFIRM_TIMEOUT, R113. -/
  | confirmTimeout (x : StationId)
  /-- MAX_RELEASE_CUT, R116. -/
  | maxReleaseCut (x : StationId)
  /-- MANUAL_ORDER_END, R117. -/
  | manualOrderEnd (x : StationId)
  /-- PURGE_DUE, R121. -/
  | purgeDue (x : StationId)
  /-- PURGE_END, R122. -/
  | purgeEnd (x : StationId)
  /-- GATE_LIMIT_CHANGE, R127. -/
  | gateLimitChange (g : GateId) (normalClosed abortClosed : Bool)
  /-- GATE_TRAVEL_TIMEOUT, R128. -/
  | gateTravelTimeout (g : GateId)
  /-- RUN_DOWN_END, R140. -/
  | runDownEnd (l : LineId)
  /-- START_LIST_EXPIRY, R142. -/
  | startListExpiry
  /-- FAN_FEEDBACK_CHANGE, R143. -/
  | fanFeedbackChange (m : FanId) (running : Bool)
  /-- RUN_UP_END, R143. -/
  | runUpEnd (l : LineId)
  /-- CALL_POINT_INPUT, R153. -/
  | callPointInput (z : ZoneId) (active : Bool)
  /-- CALL_POINT_FILTER, R153. -/
  | callPointFilter (z : ZoneId)
  /-- SHUTTER_LIMIT_CHANGE, R164. -/
  | shutterLimitChange (h : ShutterId) (openActive closedActive : Bool)
  /-- SHUTTER_TRAVEL_TIMEOUT, R165. -/
  | shutterTravelTimeout (h : ShutterId)
  /-- SHUTTER_OBSTRUCTION, R166. -/
  | shutterObstruction (h : ShutterId) (active : Bool)
  /-- REARM_END, R167. -/
  | rearmEnd (h : ShutterId)
  /-- PAUSE_LIMIT, R167. -/
  | pauseLimit (h : ShutterId)
  /-- SIREN_PHASE_END, R176. -/
  | sirenPhaseEnd (y : SirenId)
  /-- DETECTOR_BIT_ARRIVAL, R20. -/
  | detectorBitArrival (d : ChanId) (bit : Bool)
  deriving DecidableEq, Repr

end Sys2Proof
end

