-- ==== Sys2Proof/Decode.lean ====
section
/-! DEFINITION. What the bits of a request say: the opcodes, the header parity and the CRC-16 of the panel link, the reading
of a transaction's bytes into its command, and the decoder the host asks for. -/
namespace Sys2Proof

/-- The opcode of a link command: consecutive from its group's first opcode, in the order listed (11.3). -/
def opcodeOf : Instr → Option (BitVec 7)
  | .loadLimits _ _ => some 0x10
  | .loadSegment _ _ => some 0x11
  | .loadPoint _ _ => some 0x12
  | .loadGate _ _ => some 0x13
  | .loadLine _ _ => some 0x14
  | .loadStation _ _ => some 0x15
  | .loadChannel _ _ => some 0x16
  | .loadAirflow _ _ => some 0x17
  | .loadTemperature _ _ => some 0x18
  | .loadShutter _ _ => some 0x19
  | .loadSiren _ _ => some 0x1A
  | .loadPattern _ _ => some 0x1B
  | .commit _ _ => some 0x1C
  | .releaseGuard _ _ => some 0x20
  | .readStatus _ _ => some 0x21
  | .lookupTrack _ _ => some 0x28
  | .listTracks _ _ => some 0x29
  | .annotateTrack _ _ => some 0x2A
  | .retireTrack _ _ => some 0x2B
  | .injectTrack _ _ => some 0x2C
  | .readZone _ _ => some 0x30
  | .ackZone _ _ => some 0x31
  | .callZone _ _ => some 0x32
  | .readStation _ _ => some 0x38
  | .manualRelease _ _ => some 0x39
  | .cancelRelease _ _ => some 0x3A
  | .lockStation _ _ => some 0x3B
  | .unlockStation _ _ => some 0x3C
  | .clearStation _ _ => some 0x3D
  | .readLine _ _ => some 0x40
  | .restartLine _ _ => some 0x41
  | .stopLine _ _ => some 0x42
  | .readGate _ _ => some 0x43
  | .gateNormal _ _ => some 0x44
  | .clearGate _ _ => some 0x45
  | .readShutter _ _ => some 0x48
  | .grantHold _ _ => some 0x49
  | .revokeHold _ _ => some 0x4A
  | .grantAll _ _ => some 0x4B
  | .revokeAll _ _ => some 0x4C
  | .openShutter _ _ => some 0x4D
  | .clearShutter _ _ => some 0x4E
  | .readSiren _ _ => some 0x50
  | .silenceSiren _ _ => some 0x51
  | .readChannel _ _ => some 0x58
  | .readAirflow _ _ => some 0x59
  | .readTemperature _ _ => some 0x5A
  | .readNotices _ _ => some 0x60
  | .clearNotices _ _ => some 0x61
  | .setNotices _ _ => some 0x62
  | .maskNotices _ _ => some 0x63
  | .partReset _ _ => some 0x70
  | _ => none

/-- The groups of assigned opcodes: first opcode and number of commands (11.3). -/
def opcodeGroups : List (Nat × Nat) :=
  [(0x10, 13), (0x20, 2), (0x28, 5), (0x30, 3), (0x38, 6), (0x40, 6), (0x48, 7), (0x50, 2), (0x58, 3), (0x60, 4),
   (0x70, 1)]

/-- An opcode is assigned when a command has it (R188, step 1). -/
def opcodeAssigned (op : BitVec 7) : Bool :=
  opcodeGroups.any fun g => decide (g.1 ≤ op.toNat) && decide (op.toNat < g.1 + g.2)

/-- The number of ones in a word. -/
def onesIn {w : Nat} (v : BitVec w) : Nat :=
  (List.range w).foldl (fun n i => n + (v.getLsbD i).toNat) 0

/-- A header holds an odd number of ones when its parity is good (R185).
Its first byte on the link is its most significant byte. -/
def headerParityGood (header : BitVec 32) : Bool := onesIn header % 2 == 1

/-- One bit of the CRC-16 with the polynomial x^16 + x^12 + x^5 + 1 (R186). -/
def crcBit (crc : Half) : Half :=
  if crc.getLsbD 15 then (crc <<< 1) ^^^ 0x1021 else crc <<< 1

/-- The CRC after one more byte, taken most significant bit first (R186). -/
def crcByte (crc : Half) (b : Byte) : Half :=
  let start := crc ^^^ (b.setWidth 16 <<< 8)
  crcBit (crcBit (crcBit (crcBit (crcBit (crcBit (crcBit (crcBit start)))))))

/-- CRC-16 over a run of bytes: it starts from all ones and has no final inversion (R186). -/
def crc16 (bytes : List Byte) : Half := bytes.foldl crcByte 0xFFFF

/-- A two-byte value as the link sends it, high byte first. -/
def halfBytes (h : Half) : List Byte := [(h >>> 8).setWidth 8, h.setWidth 8]

/-- The four header bytes in the order they are sent (R184). -/
def headerBytes (header : BitVec 32) : List Byte :=
  [(header >>> 24).setWidth 8, (header >>> 16).setWidth 8, (header >>> 8).setWidth 8, header.setWidth 8]

/-- The length byte of a header (R184). -/
def headerLength (header : BitVec 32) : Nat := (header.setWidth 8).toNat

/-! ## The bytes of a transaction (R184) -/

/-- The link commands by what they carry, in the order of their opcodes (11.3). -/
def linkCommands : List (Half → List Byte → Instr) :=
  [.loadLimits, .loadSegment, .loadPoint, .loadGate, .loadLine, .loadStation, .loadChannel, .loadAirflow,
   .loadTemperature, .loadShutter, .loadSiren, .loadPattern, .commit, .releaseGuard, .readStatus, .lookupTrack,
   .listTracks, .annotateTrack, .retireTrack, .injectTrack, .readZone, .ackZone, .callZone] ++
  [.readStation, .manualRelease, .cancelRelease, .lockStation, .unlockStation, .clearStation, .readLine, .restartLine,
   .stopLine, .readGate, .gateNormal, .clearGate] ++
  [.readShutter, .grantHold, .revokeHold, .grantAll, .revokeAll, .openShutter, .clearShutter, .readSiren,
   .silenceSiren, .readChannel, .readAirflow, .readTemperature, .readNotices, .clearNotices, .setNotices,
   .maskNotices, .partReset]

/-- The command an opcode names, with its target and data; an opcode assigned to no command is a command too (R188). -/
def commandOf (op : BitVec 7) (target : Half) (data : List Byte) : Instr :=
  ((linkCommands.map fun f => f target data).find? fun c => opcodeOf c == some op).getD (.unknownOp op target data)

/-- The opcode of a header: the first byte without its parity bit (R185). -/
def headerOpcode (header : BitVec 32) : BitVec 7 := (header >>> 24).setWidth 7
/-- The target of a header, high byte first (R184). -/
def headerTarget (header : BitVec 32) : Half := (header >>> 8).setWidth 16

/-- How many bytes a request calls for after its header: its data, a CRC where there is data, two turnaround bytes (R184,
R186). -/
def bytesCalledFor (header : BitVec 32) : Nat :=
  headerLength header + (if headerLength header = 0 then 0 else 2) + 2

/-- What the bytes clocked in before chip select rises are to the part that listens: a header of even parity (R185), a
transaction cut short (R187), a request whose CRC is wrong (R186), or the command of its opcode (R184, R188). What is clocked
in after the turnaround is ignored (R184). `low` is how many ticks after the fourth byte chip select rises: after a parity
error the hold of ALERT is counted from that rise (R185). -/
def requestOf (received : List Byte) (low : Nat) : Instr :=
  match received with
  | a :: b :: c :: n :: rest =>
    let header : BitVec 32 := a ++ b ++ c ++ n
    let data := rest.take (headerLength header)
    let crc : Half := rest.getD (headerLength header) 0 ++ rest.getD (headerLength header + 1) 0
    if headerParityGood header = false then .headerParityError { bits := header, low := low }
    else if rest.length < bytesCalledFor header then .shortTransaction
    else if headerLength header ≠ 0 ∧ crc16 (headerBytes header ++ data) ≠ crc then .badCrc header data crc
    else commandOf (headerOpcode header) (headerTarget header) data
  | _ => .shortTransaction

/-- A header with its parity bit (R184, R185). -/
def headerFor (op : BitVec 7) (target : Half) (length : Byte) : BitVec 32 :=
  let plain : BitVec 32 := 0#1 ++ op ++ target ++ length
  if headerParityGood plain then plain else 1#1 ++ op ++ target ++ length

/-- The bytes a panel processor sends for a request: header, data, the CRC where there is data, and two turnaround bytes
(R184, R186). -/
def requestBytes (op : BitVec 7) (target : Half) (data : List Byte) : List Byte :=
  let header := headerFor op target (BitVec.ofNat 8 data.length)
  headerBytes header ++ data ++
    (if data.isEmpty then [] else halfBytes (crc16 (headerBytes header ++ data))) ++ [0, 0]

/-! ## The host's decoder -/

/-- The command a word spells. The opcode table gives no row any bits, so no word spells a command. -/
def decodeTableWord (_nbits _w : Nat) : Option Instr := none

end Sys2Proof
end

