-- ==== Sys2Proof/Config.lean ====
section
/-! DEFINITION. The fixed numbers of the part: none of them is loaded, and the spec states each of them. -/
namespace Sys2Proof.Config

/-- Ticks in a tenth of a second (00_scope, Units). -/
def tenth : Nat := 1000
/-- Ticks in a second. -/
def second : Nat := 10000
/-- Ticks from COMMIT to the end of the validation walk (R10). -/
def walkTicks : Nat := 200
/-- Ticks of one sample gate (R37). -/
def gateTicks : Nat := 1000
/-- Ticks of one survey interval (R31). -/
def surveyTicks : Nat := 10000
/-- Ticks after its event time at which an incomplete frame is abandoned (R19). -/
def frameTicks : Nat := 20
/-- The span within which a frame of the same sequence is a repeat (R26). -/
def repeatTicks : Nat := 50
/-- Ticks of the test drive, 1 ms (R33). -/
def driveTicks : Nat := 10
/-- Ticks an echo window stays open (R33). -/
def echoTicks : Nat := 1000
/-- Ticks a recent pass outlives its late bound (R55). -/
def passTicks : Nat := 16
/-- The plan horizon (R7, R79). -/
def horizon : Nat := 200000
/-- Most route entries of a route (R82). -/
def routeRoom : Nat := 32
/-- Most pending entries of a plan (R85). -/
def planRoom : Nat := 12
/-- Most served entries of a station (R102). -/
def servedRoom : Nat := 8
/-- Highest purge debt (R122). -/
def debtLimit : Nat := 4
/-- Ticks of the rolling start interval, 60 s (R142). -/
def startTicks : Nat := 600000
/-- Ticks of the call point span (R153). -/
def callTicks : Nat := 500
/-- Ticks from the clearing of an obstruction to the re-arm end (R167). -/
def rearmTicks : Nat := 20000
/-- Ticks of the pause limit (R167). -/
def pauseTicks : Nat := 300000
/-- Ticks of the parity hold of ALERT, 500 us from the rise of chip select (R185). -/
def holdTicks : Nat := 5
/-- Bound on the deliveries worked through in one step. The spec states none: see log row 10. -/
def deliveryFuel : Nat := 1000000

end Sys2Proof.Config
end

