-- ==== Sys2Proof/Machine/State.lean ====
section
/-! DEFINITION. The state of the part as plain data: every record the spec names, and the part right after reset. -/
namespace Sys2Proof.Machine

/-! ## Modes, levels and notices -/

/-- The three part modes (01_duct, 1.7). -/
inductive Mode where
  | config | committing | guarded
  deriving DecidableEq, Repr

/-- Zone levels, ordered by value (00_scope, Zone levels). -/
inductive Level where
  | normal | watch | alarm | fire
  deriving DecidableEq, Repr

/-- The class of a frame or track (00_scope, Terms: Class). -/
inductive Glow where
  | spark | ember
  deriving DecidableEq, Repr

/-- The violation codes in the order of R11, with the instance each names. -/
inductive Violation where
  | segLine (s : SegId) | segAirflow (s : SegId) | segNext (s : SegId) | segGate (s : SegId)
  | gateOwner (g : GateId) | gateOutlet (g : GateId) | pointPosition (s : SegId)
  | pointDetector (d : ChanId) | pointStation (x : StationId)
  | detectorPlacement (d : ChanId) | stationPlacement (x : StationId)
  | pathLong (s : SegId) | codesClose | lineFans (l : LineId)
  deriving DecidableEq, Repr

/-- The commit result (R18). -/
inductive CommitResult where
  | none | failed (v : Violation) | passed
  deriving DecidableEq, Repr

/-- The reason of the last link error (R193). -/
inductive LinkError where
  | parity | crc | short
  deriving DecidableEq, Repr

/-- The Notice Unit (R193). -/
structure Notices where
  /-- the twelve flags, bit n as 11.5 numbers them -/
  flags : BitVec 12
  mask : BitVec 12
  lastError : Option LinkError
  parity : Nat
  crc : Nat
  short : Nat
  deriving DecidableEq, Repr

/-- The ALERT output: high, held low after a parity error until a tick (R185), or in its 10-us pulse (R186). -/
inductive Alert where
  | idle
  | held (stop : Tick)
  | pulse
  deriving DecidableEq, Repr

/-- The Link Interface (R184 to R187, R195). -/
structure Link where
  alert : Alert
  /-- the rise of chip select to which the link ignores the transaction that chip select held low when the RESET line rose
  (R187) -/
  ignoring : Option Tick
  /-- PART RESET has been taken and chip select has not yet risen (R195) -/
  resetTaken : Bool
  /-- the reply of the last transaction: status, reply length, data, CRC -/
  reply : List Byte
  /-- the byte driven where no reply byte is driven -/
  fill : Byte
  deriving DecidableEq, Repr

/-! ## Topology Store -/

/-- The global limits record (R7). -/
structure Limits where
  units : Nat
  tol : Nat
  vStall : Nat
  stallLimit : Nat
  linger : Nat
  budget : Nat
  supervision : Nat
  purgeInterval : Nat
  floodMin : Nat
  sparkCode : Byte
  emberCode : Byte
  deriving DecidableEq, Repr

/-- The outlet of a segment (R4); END keeps the target byte as given, unused (R2). -/
inductive Outlet where
  | next (s : SegId) | gate (g : GateId) | ends (unused : Byte)
  deriving DecidableEq, Repr

/-- The end kind of a segment (R2). -/
inductive EndKind where
  | protectedEnd | safeEnd
  deriving DecidableEq, Repr

/-- What a point places (R5). -/
inductive Placed where
  | detector (d : ChanId) | station (x : StationId)
  deriving DecidableEq, Repr

/-- A point on a segment (R5). -/
structure Point where
  what : Placed
  position : Nat
  deriving DecidableEq, Repr

/-- A segment record (R2). `source` is `none` for FIXED. -/
structure Segment where
  inUse : Bool
  length : Nat
  source : Option AirId
  fixedVel : Nat
  zone : ZoneId
  line : LineId
  outlet : Outlet
  endKind : EndKind
  points : List Point
  deriving DecidableEq, Repr

/-! ## Detector Front End -/

/-- The type of a detector channel (R23). -/
inductive ChanType where
  | off | spark | ember | dual
  deriving DecidableEq, Repr

/-- The state of a detector channel (R24). -/
inductive ChanState where
  | off | inService | blind
  deriving DecidableEq, Repr

/-- The last accepted frame of a channel (R26). -/
structure Accepted where
  sequence : Nat
  time : Tick
  deriving DecidableEq, Repr

/-- The receiver of a detector line: hunting with its window of received bits, oldest first, or collecting the
code-byte bits of a frame (R19, R20). -/
inductive Receiver where
  | hunting (window : List Bool)
  | collecting (glow : Glow) (eventTime : Tick) (bits : List Bool)
  deriving DecidableEq, Repr

/-- A detector channel record (2.3). Latch bits in the order SPARK, EMBER, GLINT, FOREIGN, FRAME_ERR, ECHO,
HEAD_FAULT. -/
structure Channel where
  type : ChanType
  tolerant : Bool
  threshold : Byte
  state : ChanState
  missed : Nat
  errors : Nat
  lastAccepted : Option Accepted
  echoWindow : Option Tick
  latch : BitVec 7
  published : BitVec 7
  publishedErrors : Nat
  receiver : Receiver
  /-- the tick of the next supervision pulse (R33) -/
  nextPulse : Option Tick
  /-- the tick at which the test drive in progress ends (R33) -/
  testDrive : Option Tick
  deriving DecidableEq, Repr

/-! ## Flow and Temperature Unit -/

/-- The stall state of an airflow channel (R41). -/
inductive StallState where
  | none | flowing | stalled
  deriving DecidableEq, Repr

/-- The last four samples, oldest first (R40). -/
structure History where
  oldest : Nat
  second : Nat
  third : Nat
  newest : Nat
  deriving DecidableEq, Repr

/-- An airflow channel record (3.1). -/
structure Airflow where
  inUse : Bool
  scale : Nat
  count : Nat
  sample : Nat
  history : Option History
  smoothed : Option Nat
  stall : StallState
  stallChanged : Option Tick
  /-- the gate in progress gives no sample (R38) -/
  discard : Bool
  deriving DecidableEq, Repr

/-- The state of a temperature channel (R47). -/
inductive TempState where
  | none | reading | sensorFault
  deriving DecidableEq, Repr

/-- A temperature channel record (3.2); temperatures in tenths of a degree. -/
structure Temperature where
  inUse : Bool
  zone : ZoneId
  hotAt : Int
  alarmAt : Int
  fireAt : Int
  reading : Option Int
  readingTick : Option Tick
  missing : Nat
  state : TempState
  hot : Bool
  alarm : Bool
  fire : Bool
  /-- one derate flag per siren, bit n for Yn -/
  derate : BitVec 8
  /-- the width in us of the last complete pulse of the gate in progress (R45) -/
  pulse : Option Nat
  /-- the gate in progress is discarded (R45) -/
  discard : Bool
  deriving DecidableEq, Repr

/-! ## Track Table and Flight Planner -/

/-- A track handle, slot.generation (R51). -/
structure Handle where
  slot : SlotId
  gen : BitVec 8
  deriving DecidableEq, Repr

/-- The two outlets of an abort gate (R6). -/
inductive Side where
  | normal | abort
  deriving DecidableEq, Repr

/-- A condition: the gate not settled, and the outlet through which it was reached (R82). -/
structure Cond where
  gate : GateId
  side : Side
  deriving DecidableEq, Repr

/-- The kinds of route end (R83). -/
inductive EndOf where
  | protectedEnd | safeEnd | horizon | stallEnd
  deriving DecidableEq, Repr

/-- One item of a route in route order (R82): a route entry, or a point of the route.
An entry remembers the gate outlet it was entered through (R130).
A terminal is also the end it places: its last-station marker, and whether it has resolved (R83). -/
inductive Item where
  | entry (via : Option Cond)
  | station (x : StationId)
  | detector (d : ChanId)
  | gate (g : GateId)
  | terminal (kind : EndOf) (marker : Option StationId) (resolved : Bool)
  deriving DecidableEq, Repr

/-- A route item with its segment, its bounds relative to the plan base tick, and its plan entry's fields (R85).
`conds` is its chain of conditions, innermost first; `depth` is the number of gates between the base and it. -/
structure RouteItem where
  item : Item
  seg : SegId
  early : Nat
  late : Nat
  openEnd : Bool
  conds : List Cond
  depth : Nat
  /-- the item is a pending plan entry -/
  joined : Bool
  covering : Bool
  lateStart : Bool
  unserved : Bool
  /-- the entry holds the track's served entry of its station, as long as the station's list has one (R87, R91, R102) -/
  holds : Bool
  deriving DecidableEq, Repr

/-- A recently passed DETECTOR entry with its window in mill time and the tick at whose end it leaves (R55). -/
structure RecentPass where
  detector : ChanId
  opens : Tick
  closes : Tick
  leaves : Tick
  deriving DecidableEq, Repr

/-- The states of a track (R59 to R69). -/
inductive TrackState where
  | flight | stalled | spent | escaped
  deriving DecidableEq, Repr

/-- Why a STATION entry resolved UNCOVERED (R65). -/
inductive Uncovered where
  | fault | locked | stationFull | lateGrant | cut
  deriving DecidableEq, Repr

/-- Why a track escaped (R68). -/
inductive EscapeReason where
  | uncovered | stall | noStation | horizon
  deriving DecidableEq, Repr

/-- The linger end of a track (R69, R70). -/
inductive Linger where
  | absent | until (t : Tick) | expired
  deriving DecidableEq, Repr

/-- What a track counts as in its zone (R75); a track that counts as nothing has no membership. -/
inductive Membership where
  | live (z : ZoneId) | escaped (z : ZoneId)
  deriving DecidableEq, Repr

/-- A track record (4.2). Its line is that of its current segment. -/
structure Track where
  seq : BitVec 32
  birthTick : Tick
  origin : ChanId
  glow : Glow
  intensity : Byte
  state : TrackState
  current : SegId
  base : Tick
  route : List RouteItem
  passes : List RecentPass
  covered : Bool
  survived : Nat
  stationsCovered : Nat
  stationsUncovered : Nat
  lastUncovered : Option Uncovered
  injected : Bool
  diverted : Bool
  hold : Bool
  blindPass : Bool
  note : Option Byte
  escapeReason : Option EscapeReason
  stalledSince : Option Tick
  lingerEnd : Linger
  /-- the (zone, kind) pair last delivered to the Zone Evaluator (R75) -/
  member : Option Membership
  deriving DecidableEq, Repr

/-- A slot of the Track Table (R51). -/
structure Slot where
  gen : BitVec 8
  track : Option Track
  deriving DecidableEq, Repr

/-! ## Stations -/

/-- The states of a station (6.1). -/
inductive StationState where
  | idle | requesting | releasing | suspended | purging | locked | fault
  deriving DecidableEq, Repr

/-- A served entry (R102). -/
structure Served where
  handle : Handle
  opens : Tick
  closes : Tick
  deadline : Tick
  /-- the stage: ACTIVE, or else PENDING -/
  active : Bool
  /-- DEADLINE_PASSED has been taken for the present deadline -/
  noted : Bool
  /-- a plan entry that held it has resolved, so no drop withdraws it (R89, R102) -/
  resolved : Bool
  deriving DecidableEq, Repr

/-- A manual order (R117). -/
structure ManualOrder where
  orderTick : Tick
  endTick : Tick
  deriving DecidableEq, Repr

/-- The confirm field of a station (R113). -/
inductive Confirm where
  | absent | waiting (since : Tick) | confirmed
  deriving DecidableEq, Repr

/-- The fault reason of a station (R114). -/
inductive StationFault where
  | noConfirm | pressureLost
  deriving DecidableEq, Repr

/-- A station record (6.1). -/
structure Station where
  inUse : Bool
  draw : Nat
  lead : Nat
  holdSpark : Nat
  holdEmber : Nat
  confirmTime : Nat
  maxRelease : Nat
  purgeTime : Nat
  link : Option TempId
  flood : Bool
  state : StationState
  served : List Served
  manual : Option ManualOrder
  floodDemand : Bool
  requestTick : Option Tick
  releaseStart : Option Tick
  cutStart : Option Tick
  confirm : Confirm
  faultReason : Option StationFault
  debt : Nat
  accumulation : Nat
  purgeEnd : Option Tick
  /-- the tick of the minimum run still to be taken by FLOOD_MINIMUM_RUN (R110) -/
  minRunAt : Option Tick
  /-- the pressure-confirm input (R101) -/
  pressure : Bool
  deriving DecidableEq, Repr

/-! ## Gates and lines -/

/-- The states of an abort gate (7.1). -/
inductive GateState where
  | normal | toAbort | abort | toNormal | fault
  deriving DecidableEq, Repr

/-- The fault reason of a gate (R128). -/
inductive GateFault where
  | timeout | limitLost
  deriving DecidableEq, Repr

/-- A gate record: the loaded part (R6) and the runtime part (7.1). -/
structure Gate where
  inUse : Bool
  owner : SegId
  normalOut : SegId
  abortOut : SegId
  stroke : Nat
  onShutdown : Bool
  state : GateState
  timer : Option Tick
  faultReason : Option GateFault
  diversions : List Handle
  stateChanged : Option Tick
  /-- the NORMAL limit input is closed -/
  normalLimit : Bool
  /-- the ABORT limit input is closed -/
  abortLimit : Bool
  deriving DecidableEq, Repr

/-- The states of a line (7.2). -/
inductive LineState where
  | stopped | startWait | starting | running | stopping
  deriving DecidableEq, Repr

/-- The stop causes of a line (7.2). -/
inductive StopCause where
  | reset | config | escape | burst | tableFull | fire | gateFault | fanFault | link
  deriving DecidableEq, Repr

/-- A line record (7.2). -/
structure Line where
  inUse : Bool
  firstFan : FanId
  secondFan : Option FanId
  runUp : Nat
  runDown : Nat
  burstCount : Nat
  burstWindow : Nat
  zones : BitVec 16
  state : LineState
  cause : StopCause
  burst : List Tick
  runUpEnd : Option Tick
  runDownEnd : Option Tick
  deriving DecidableEq, Repr

/-! ## Zones, shutters and sirens -/

/-- A zone record (8.1). Fault bits in the order DETECTOR, STATION, PURGE_OVERDUE, SHUTTER, SENSOR. -/
structure Zone where
  level : Level
  latched : Level
  burst : Bool
  tableFull : Bool
  linkCall : Option Level
  live : Nat
  escaped : Nat
  faults : BitVec 5
  acknowledged : Bool
  levelChanged : Option Tick
  /-- the call point filter: ACTIVE, or else INACTIVE -/
  callActive : Bool
  /-- the raw call point input, and the tick of its last change (R153) -/
  callRaw : Bool
  callChanged : Tick
  deriving DecidableEq, Repr

/-- The states of a shutter (9.1). -/
inductive ShutterState where
  | closed | opening | opened | closing | paused | dropping | fault
  deriving DecidableEq, Repr

/-- The travel timer of a shutter (R165). -/
inductive Travel where
  | absent | running (expiry : Tick) | frozen (left : Nat)
  deriving DecidableEq, Repr

/-- The fault reason of a shutter (R168). -/
inductive ShutterFault where
  | dropTimeout | openTimeout
  deriving DecidableEq, Repr

/-- A shutter record (9.1). `sideB` is `none` for YARD. -/
structure Shutter where
  sideA : ZoneId
  sideB : Option ZoneId
  closeLevel : Level
  timeout : Nat
  granted : Bool
  state : ShutterState
  obstructions : Nat
  travel : Travel
  pauseStart : Option Tick
  rearmEnd : Option Tick
  faultReason : Option ShutterFault
  stateChanged : Option Tick
  openLimit : Bool
  closedLimit : Bool
  obstructed : Bool
  deriving DecidableEq, Repr

/-- A siren pattern (10.1). -/
structure Pattern where
  empty : Bool
  blast : Nat
  gap : Nat
  blasts : Nat
  groupGap : Nat
  groups : Nat
  report : Nat
  deriving DecidableEq, Repr

/-- The phases of a siren (10.1). -/
inductive Phase where
  | quiet | blast | gap | pause | done
  deriving DecidableEq, Repr

/-- A siren record (10.1). -/
structure Siren where
  zones : BitVec 16
  link : Option TempId
  derateAt : Int
  watch : Pattern
  alarm : Pattern
  fire : Pattern
  cls : Level
  sounding : Level
  pendingCls : Option Level
  silenced : Option Level
  phase : Phase
  phaseEnd : Option Tick
  blastIndex : Nat
  groupIndex : Nat
  reportCount : Nat
  groupsSounded : Nat
  derated : Bool
  /-- the PAUSE in progress opened a pattern start (R176) -/
  opening : Bool
  deriving DecidableEq, Repr

/-! ## The machine -/

/-- Everything the spec gives the part, and the queue of commands waiting. -/
structure State where
  now : Tick
  /-- the RESET line is low (R195) -/
  resetLow : Bool
  mode : Mode
  walkEnd : Option Tick
  result : CommitResult
  /-- the tick of the last GUARD entry -/
  guardEntry : Option Tick
  nextGate : Tick
  nextSurvey : Option Tick
  limits : Limits
  segments : Vector Segment 128
  gates : Vector Gate 8
  lines : Vector Line 8
  startQueue : List LineId
  startList : List Tick
  /-- the fan running-feedback inputs -/
  fanFeedback : Vector Bool 8
  channels : Vector Channel 32
  airflows : Vector Airflow 16
  temps : Vector Temperature 16
  slots : Vector Slot 48
  nextSeq : BitVec 32
  stations : Vector Station 24
  freeUnits : Nat
  zones : Vector Zone 16
  shutters : Vector Shutter 12
  sirens : Vector Siren 8
  notices : Notices
  link : Link
  pending : List Instr
  deriving DecidableEq, Repr

/-- The block never stops: no rule gives it a stop, and a fault of the mill's equipment is a state of a record. -/
inductive Fault where
  deriving DecidableEq, Repr

/-- Why a command has no meaning. -/
inductive Refusal where
  /-- Raised by an arm of `exec` whose command has no meaning yet; none is left. Safe: nothing is claimed of it. -/
  | notModelled (mnemonic : String)
  deriving DecidableEq, Repr

/-! ## Reset values -/

/-- R7: the defaults of the limits record. -/
def Limits.reset : Limits :=
  { units := 4, tol := 10, vStall := 20, stallLimit := 10, linger := 30, budget := 2, supervision := 10,
    purgeInterval := 600, floodMin := 20, sparkCode := 0xB4, emberCode := 0x2D }

/-- R1: a segment after a part reset. -/
def Segment.reset : Segment :=
  { inUse := false, length := 1, source := none, fixedVel := 600, zone := 0, line := 0, outlet := .ends 0,
    endKind := .safeEnd, points := [] }

/-- R1, R129: a gate after a part reset. The limit inputs are open by choice (log row 5). -/
def Gate.reset : Gate :=
  { inUse := false, owner := 0, normalOut := 0, abortOut := 0, stroke := 15, onShutdown := false, state := .toAbort,
    timer := none, faultReason := none, diversions := [], stateChanged := none, normalLimit := false,
    abortLimit := false }

/-- R133: a line after a part reset; its first fan has the line's own number. -/
def Line.reset (l : LineId) : Line :=
  { inUse := false, firstFan := l, secondFan := none, runUp := 10, runDown := 30, burstCount := 4, burstWindow := 20,
    zones := 0, state := .stopped, cause := .reset, burst := [], runUpEnd := none, runDownEnd := none }

/-- R23, R24: a detector channel after a part reset. -/
def Channel.reset : Channel :=
  { type := .off, tolerant := false, threshold := 0, state := .off, missed := 0, errors := 0, lastAccepted := none,
    echoWindow := none, latch := 0, published := 0, publishedErrors := 0, receiver := .hunting [], nextPulse := none,
    testDrive := none }

/-- R38: an airflow channel after a part reset. -/
def Airflow.reset : Airflow :=
  { inUse := false, scale := 64, count := 0, sample := 0, history := none, smoothed := none, stall := .none,
    stallChanged := none, discard := false }

/-- R44: a temperature channel after a part reset. -/
def Temperature.reset : Temperature :=
  { inUse := false, zone := 0, hotAt := 2500, alarmAt := 2500, fireAt := 2500, reading := none, readingTick := none,
    missing := 0, state := .none, hot := false, alarm := false, fire := false, derate := 0, pulse := none,
    discard := false }

/-- R51: a slot after a part reset. -/
def Slot.reset : Slot := { gen := 0, track := none }

/-- R100: a station after a part reset. R100 and R124 name neither its fault reason nor its confirm field, and both are absent
by choice (log row 6); the pressure input shows none by choice (log row 5). -/
def Station.reset : Station :=
  { inUse := false, draw := 1, lead := 0, holdSpark := 0, holdEmber := 0, confirmTime := 10, maxRelease := 30,
    purgeTime := 5, link := none, flood := false, state := .idle, served := [], manual := none, floodDemand := false,
    requestTick := none, releaseStart := none, cutStart := none, confirm := .absent, faultReason := none, debt := 0,
    accumulation := 0, purgeEnd := none, minRunAt := none, pressure := false }

/-- R146: a zone after a part reset. The raw call point input is inactive by choice (log rows 5 and 6). -/
def Zone.reset : Zone :=
  { level := .normal, latched := .normal, burst := false, tableFull := false, linkCall := none, live := 0,
    escaped := 0, faults := 0, acknowledged := true, levelChanged := none, callActive := false, callRaw := false,
    callChanged := 0 }

/-- R159: a shutter after a part reset whose closed limit is inactive, at reset tick 0.
The inputs are inactive by choice (log row 5). -/
def Shutter.reset : Shutter :=
  { sideA := 0, sideB := none, closeLevel := .alarm, timeout := 60, granted := false, state := .dropping,
    obstructions := 0, travel := .running 600000, pauseStart := none, rearmEnd := none, faultReason := none,
    stateChanged := none, openLimit := false, closedLimit := false, obstructed := false }

/-- R174: a pattern after a part reset. -/
def Pattern.reset : Pattern :=
  { empty := true, blast := 10, gap := 10, blasts := 1, groupGap := 50, groups := 0, report := 0 }

/-- R174, R182: a siren after a part reset. -/
def Siren.reset : Siren :=
  { zones := 0, link := none, derateAt := 2500, watch := .reset, alarm := .reset, fire := .reset, cls := .normal,
    sounding := .normal, pendingCls := none, silenced := none, phase := .quiet, phaseEnd := none, blastIndex := 0,
    groupIndex := 0, reportCount := 0, groupsSounded := 0, derated := false, opening := false }

/-- R193: the Notice Unit after a part reset. -/
def Notices.reset : Notices :=
  { flags := 0, mask := 0, lastError := none, parity := 0, crc := 0, short := 0 }

/-- R195: the link after a part reset, idle with ALERT high. -/
def Link.reset : Link :=
  { alert := .idle, ignoring := none, resetTaken := false, reply := [], fill := 0 }

/-- The part right after a part reset, with the RESET line high and every field input inactive (R1, R195). -/
def State.reset : State :=
  { now := 0, resetLow := false, mode := .config, walkEnd := none, result := .none, guardEntry := none,
    nextGate := Config.gateTicks, nextSurvey := none, limits := .reset,
    segments := Vector.replicate 128 .reset, gates := Vector.replicate 8 .reset,
    lines := Vector.ofFn Line.reset, startQueue := [], startList := [], fanFeedback := Vector.replicate 8 false,
    channels := Vector.replicate 32 .reset, airflows := Vector.replicate 16 .reset,
    temps := Vector.replicate 16 .reset, slots := Vector.replicate 48 .reset, nextSeq := 0,
    stations := Vector.replicate 24 .reset, freeUnits := 4, zones := Vector.replicate 16 .reset,
    shutters := Vector.replicate 12 .reset, sirens := Vector.replicate 8 .reset, notices := .reset, link := .reset,
    pending := [] }

end Sys2Proof.Machine
end

