-- ==== Sys2Proof/Machine/Ops.lean ====
section
/-! DEFINITION. The named operations over the records of the part, which every meaning is written with. -/
namespace Sys2Proof.Machine

/-! ## Lists and tables -/

/-- One place of a table replaced by what `f` makes of it. -/
def updAt {α : Type} {n : Nat} (v : Vector α n) (i : Fin n) (f : α → α) : Vector α n := v.set i (f v[i])

/-- Insert into a list kept in ascending order of `key`, behind those of equal key. -/
def insertAfter {α : Type} (key : α → Nat) (x : α) : List α → List α
  | [] => [x]
  | y :: ys => if key x < key y then x :: y :: ys else y :: insertAfter key x ys

/-- A list in ascending order of `key`, those of equal key in the order they stood. -/
def sortAfter {α : Type} (key : α → Nat) (l : List α) : List α := l.foldl (fun acc x => insertAfter key x acc) []

/-- The least of an optional and a given number. -/
def leastWith (n : Nat) : Option Nat → Nat
  | none => n
  | some m => min n m

/-- The least number of a list. -/
def leastOf (l : List Nat) : Option Nat := l.foldl (fun acc n => some (leastWith n acc)) none

/-- A tick that an optional field holds has been reached. -/
def reached (t : Option Tick) (now : Tick) : Bool :=
  match t with
  | none => false
  | some e => decide (e ≤ now)

/-- The bit of one number in a set. -/
def inSet {w : Nat} (set : BitVec w) (i : Nat) : Bool := set.getLsbD i

/-- The set of the numbers for which `p` holds. -/
def setOf (w : Nat) (p : Nat → Bool) : BitVec w :=
  (List.range w).foldl (fun acc i => if p i then acc ||| (1#w <<< i) else acc) 0

/-! ## Levels -/

/-- The value of a level (00_scope, Zone levels). -/
def Level.val : Level → Nat
  | .normal => 0 | .watch => 1 | .alarm => 2 | .fire => 3

/-- One level stands at or above another. -/
def Level.atLeast (a b : Level) : Bool := decide (b.val ≤ a.val)

/-- The higher of two levels. -/
def Level.sup (a b : Level) : Level := if a.atLeast b then a else b

/-! ## Records of the state -/

def State.updSegment (s : State) (i : SegId) (f : Segment → Segment) : State :=
  { s with segments := updAt s.segments i f }
def State.updGate (s : State) (i : GateId) (f : Gate → Gate) : State := { s with gates := updAt s.gates i f }
def State.updLine (s : State) (i : LineId) (f : Line → Line) : State := { s with lines := updAt s.lines i f }
def State.updChannel (s : State) (i : ChanId) (f : Channel → Channel) : State :=
  { s with channels := updAt s.channels i f }
def State.updAirflow (s : State) (i : AirId) (f : Airflow → Airflow) : State :=
  { s with airflows := updAt s.airflows i f }
def State.updTemp (s : State) (i : TempId) (f : Temperature → Temperature) : State :=
  { s with temps := updAt s.temps i f }
def State.updSlot (s : State) (i : SlotId) (f : Slot → Slot) : State := { s with slots := updAt s.slots i f }
def State.updStation (s : State) (i : StationId) (f : Station → Station) : State :=
  { s with stations := updAt s.stations i f }
def State.updZone (s : State) (i : ZoneId) (f : Zone → Zone) : State := { s with zones := updAt s.zones i f }
def State.updShutter (s : State) (i : ShutterId) (f : Shutter → Shutter) : State :=
  { s with shutters := updAt s.shutters i f }
def State.updSiren (s : State) (i : SirenId) (f : Siren → Siren) : State := { s with sirens := updAt s.sirens i f }

/-- The live track of a slot. -/
def State.track? (s : State) (i : SlotId) : Option Track := s.slots[i].track

/-- The track of a slot changed, where the slot holds one. -/
def State.updTrack (s : State) (i : SlotId) (f : Track → Track) : State :=
  s.updSlot i fun q => { q with track := q.track.map f }

/-- The handle of the track a slot holds (R51). -/
def State.handleOf (s : State) (i : SlotId) : Handle := { slot := i, gen := s.slots[i].gen }

/-- A handle refers to a live track (00_scope, Track handles). -/
def State.handleLive (s : State) (h : Handle) : Bool :=
  (s.slots[h.slot].track.isSome) && (s.slots[h.slot].gen == h.gen)

/-! ## Where the layout puts things -/

/-- The first segment in use that holds a point, with the point's position; COMMIT lets a channel or station that is
in use have exactly one (R11, checks 9 and 10). -/
def State.placeOf (s : State) (what : Placed) : Option (SegId × Nat) :=
  (List.finRange 128).findSome? fun i =>
    let g := s.segments[i]
    if g.inUse then (g.points.find? fun p => p.what == what).map fun p => (i, p.position) else none

/-- The segment on which something is placed. -/
def State.segOf (s : State) (what : Placed) : Option SegId := (s.placeOf what).map fun p => p.1

/-- The zone of something placed is the zone of its segment (R2). -/
def State.zoneOfPlaced (s : State) (what : Placed) : Option ZoneId :=
  (s.segOf what).map fun i => s.segments[i].zone

/-- The line of a gate is the line of its owning segment (R6). -/
def State.lineOfGate (s : State) (g : GateId) : LineId := s.segments[s.gates[g].owner].line

/-- The line of a track is the line of its current segment (R54). -/
def State.lineOfTrack (s : State) (t : Track) : LineId := s.segments[t.current].line

/-- The zone of a track is the zone of its current segment (R75). -/
def State.zoneOfTrack (s : State) (t : Track) : ZoneId := s.segments[t.current].zone

/-- A segment's air stands still: its source is a channel in STALLED (R42, R61). -/
def State.segStalled (s : State) (i : SegId) : Bool :=
  match s.segments[i].source with
  | none => false
  | some a => s.airflows[a].stall == .stalled

/-- The line's zones: those of its segments in use (R2, R14). -/
def State.zoneSetOf (s : State) (l : LineId) : BitVec 16 :=
  setOf 16 fun z =>
    (List.finRange 128).any fun i =>
      let g := s.segments[i]
      g.inUse && (g.line == l) && (g.zone.val == z)

/-! ## Deliveries between the blocks -/

/-- What one block hands another inside one event (00_scope, How the blocks work together).
`station` asks the Station Controller to judge a station's demand, `arbiter` asks for granting, `entered` tells the
Track Table that a track has come to its current segment. -/
inductive Delivery where
  | station (x : StationId)
  | arbiter
  | zoneLevel (z : ZoneId) (old new : Level)
  | escape (h : Handle) (l : LineId)
  | gateMoved (g : GateId)
  | gateCheck (g : GateId)
  | entered (i : SlotId)
  deriving DecidableEq, Repr

/-- An event in progress: the state so far, and the deliveries still to be acted on, first made first (log row 10). -/
structure Work where
  st : State
  out : List Delivery

/-- A request to judge something as it stands need be queued once only. -/
def Delivery.once : Delivery → Bool
  | .station _ => true
  | .arbiter => true
  | _ => false

/-- Hand something over, to be acted on after what is already queued. -/
def Work.push (w : Work) (d : Delivery) : Work :=
  if d.once && w.out.contains d then w else { w with out := w.out ++ [d] }

/-- Change the state of an event in progress. -/
def Work.mod (w : Work) (f : State → State) : Work := { w with st := f w.st }

/-- An event that begins at a state. -/
def State.begin (s : State) : Work := { st := s, out := [] }

end Sys2Proof.Machine
end

