-- ==== Sys2Proof/Machine/Flags.lean ====
section
/-! DEFINITION. The notice flags and the link error record (11.5), the outputs computed from the state, and the layout
of reply fields (R190). -/
namespace Sys2Proof.Machine

/-! ## Notices -/

/-- The twelve notices (11.5). -/
inductive Notice where
  | born | escaped | zone | line | gate | station | shutter | siren | channel | commit | linkErr | tableFull
  deriving DecidableEq, Repr

/-- The bit of a notice flag (11.5). -/
def Notice.bit : Notice → Nat
  | .born => 0 | .escaped => 1 | .zone => 2 | .line => 3 | .gate => 4 | .station => 5 | .shutter => 6 | .siren => 7
  | .channel => 8 | .commit => 9 | .linkErr => 10 | .tableFull => 11

/-- The mask of one notice flag. -/
def Notice.flag (n : Notice) : BitVec 12 := 1#12 <<< n.bit

/-- Raise a notice: the flag is set, or stays set (R193). -/
def State.raise (s : State) (n : Notice) : State :=
  { s with notices := { s.notices with flags := s.notices.flags ||| n.flag } }

/-- A count of one more, saturating. -/
def bump (limit n : Nat) : Nat := min limit (n + 1)

/-- Raise LINK_ERR with its reason: the reason is kept and its count rises, saturating at 255 (R193). -/
def State.raiseLinkError (s : State) (e : LinkError) : State :=
  let n := s.notices
  let n := { n with flags := n.flags ||| Notice.linkErr.flag, lastError := some e }
  { s with notices :=
      match e with
      | .parity => { n with parity := bump 255 n.parity }
      | .crc => { n with crc := bump 255 n.crc }
      | .short => { n with short := bump 255 n.short } }

/-- The NOTICE output is driven low while a flag is set whose mask bit is set (R193). -/
def State.noticeLow (s : State) : Bool := (s.notices.flags &&& s.notices.mask) != 0

/-- The ALERT output is low during the parity hold and the CRC pulse (R185, R186). -/
def State.alertLow (s : State) : Bool := s.link.alert != .idle

/-! ## Outputs of the field lines -/

/-- R101: the valve is energized in RELEASING. -/
def Station.valve (x : Station) : Bool := x.state == .releasing
/-- R101: the purge output is energized in PURGING. -/
def Station.purge (x : Station) : Bool := x.state == .purging
/-- R126: the drive is energized in NORMAL and TO_NORMAL; a gate not in use stands in TO_ABORT (R129). -/
def Gate.drive (g : Gate) : Bool := g.state == .normal || g.state == .toNormal
/-- R134: the fans run in STARTING, RUNNING and STOPPING. -/
def Line.fansOn (l : Line) : Bool := l.state == .starting || l.state == .running || l.state == .stopping
/-- R134: the feeder stop is released in RUNNING only. -/
def Line.feederStop (l : Line) : Bool := l.state != .running
/-- R160: the brake holds in OPEN, PAUSED and CLOSED. -/
def Shutter.brake (h : Shutter) : Bool := h.state == .opened || h.state == .paused || h.state == .closed
/-- R160: the motor drives up in OPENING. -/
def Shutter.motorUp (h : Shutter) : Bool := h.state == .opening
/-- R160: the motor drives down in CLOSING. -/
def Shutter.motorDown (h : Shutter) : Bool := h.state == .closing
/-- R175: the driver is energized in BLAST. -/
def Siren.driver (y : Siren) : Bool := y.phase == .blast
/-- R33: the test drive is pulsed until its end. -/
def Channel.driven (d : Channel) : Bool := d.testDrive.isSome

/-- The fans of a line (R133). -/
def Line.fans (l : Line) : List FanId := l.firstFan :: l.secondFan.toList

/-- Every fan of a line shows running feedback (R143). -/
def State.fansRunning (s : State) (l : LineId) : Bool := s.lines[l].fans.all fun m => s.fanFeedback[m]

/-! ## Replies -/

/-- The status codes of a reply (11.1). -/
inductive Status where
  | ok | clamped | busy | wrongMode | noSuch | stale | refused | badCrc | badLength | unknownOp
  deriving DecidableEq, Repr

/-- The code of a status (11.1). -/
def Status.code : Status → Byte
  | .ok => 0x00 | .clamped => 0x01 | .busy => 0x02 | .wrongMode => 0x03 | .noSuch => 0x04
  | .stale => 0x05 | .refused => 0x06 | .badCrc => 0x07 | .badLength => 0x08 | .unknownOp => 0x09

/-- The reasons of a REFUSED reply (R188). -/
inductive Reason where
  | pointsFull | notInUse | alreadyPlaced | badField | zoneActive | trackActive | notPlaced | tableFull
  | locked | faulted | noOrder | notFaulted | notLocked | notAbort
  | zoneFire | trackOnGate | notStopped | gateNotNormal | notClosed | noPermit | fireActive | classNormal
  deriving DecidableEq, Repr

/-- The code of a reason (R188). -/
def Reason.code : Reason → Byte
  | .pointsFull => 0x01 | .notInUse => 0x02 | .alreadyPlaced => 0x03 | .badField => 0x04
  | .zoneActive => 0x05 | .trackActive => 0x06 | .notPlaced => 0x07 | .tableFull => 0x08
  | .locked => 0x09 | .faulted => 0x0A | .noOrder => 0x0B | .notFaulted => 0x0C
  | .notLocked => 0x0D | .notAbort => 0x0E | .zoneFire => 0x11 | .trackOnGate => 0x12
  | .notStopped => 0x13 | .gateNotNormal => 0x14 | .notClosed => 0x15 | .noPermit => 0x16
  | .fireActive => 0x17 | .classNormal => 0x18

/-- A reply: its status and its data; the reply length is that of the data (R184). -/
structure Reply where
  status : Status
  data : List Byte
  deriving DecidableEq, Repr

/-- OK with reply data. -/
def Reply.ok (data : List Byte) : Reply := { status := .ok, data := data }
/-- A reply that carries its status alone. -/
def Reply.bare (st : Status) : Reply := { status := st, data := [] }
/-- A REFUSED reply carries its reason as its one byte (R188). -/
def Reply.refused (r : Reason) : Reply := { status := .refused, data := [r.code] }
/-- OK, or CLAMPED where a field was clamped (R8, step 6). -/
def Reply.loaded (clamped : Bool) : Reply := .bare (if clamped then .clamped else .ok)

/-- The bytes of a reply in the order they are driven: status, length, data, CRC (R184, R186). -/
def Reply.bytes (r : Reply) : List Byte :=
  let body := r.status.code :: BitVec.ofNat 8 r.data.length :: r.data
  body ++ halfBytes (crc16 body)

/-! ## Reply fields (R190), most significant byte first -/

def u8 (n : Nat) : List Byte := [BitVec.ofNat 8 n]
def u16 (n : Nat) : List Byte := [BitVec.ofNat 8 (n / 256), BitVec.ofNat 8 n]
def u24 (n : Nat) : List Byte := [BitVec.ofNat 8 (n / 65536), BitVec.ofNat 8 (n / 256), BitVec.ofNat 8 n]
def u32 (n : Nat) : List Byte :=
  [BitVec.ofNat 8 (n / 16777216), BitVec.ofNat 8 (n / 65536), BitVec.ofNat 8 (n / 256), BitVec.ofNat 8 n]
/-- A field whose range reaches below 0: two's complement in two bytes. -/
def i16 (n : Int) : List Byte := halfBytes (BitVec.ofInt 16 n)
/-- A tick: the low 32 bits of its count. -/
def tickField (t : Tick) : List Byte := u32 t
/-- A set-or-clear field, and the level of an input or output. -/
def boolField (b : Bool) : List Byte := u8 b.toNat
/-- A set of flags of at most eight, or a set of zones or more flags in two bytes. -/
def flags8 {w : Nat} (v : BitVec w) : List Byte := u8 v.toNat
def flags16 {w : Nat} (v : BitVec w) : List Byte := u16 v.toNat
/-- An optional field of `width` bytes: a byte telling whether it is present, and zeros where it is absent. -/
def optField {α : Type} (width : Nat) (f : α → List Byte) : Option α → List Byte
  | some v => 1 :: f v
  | none => 0 :: List.replicate width 0
/-- An instance field that may hold a word, the word carried as 0xFF. -/
def wordField (i : Option Nat) : List Byte :=
  match i with
  | some n => u8 n
  | none => [0xFF]
/-- A list: its number of items in one byte, then each item. -/
def listField {α : Type} (f : α → List Byte) (l : List α) : List Byte := u8 l.length ++ l.flatMap f
/-- A handle: slot, then generation. -/
def handleField (h : Handle) : List Byte := [BitVec.ofNat 8 h.slot.val, h.gen]
/-- A level, a siren class or a close level carries its value. -/
def levelField (l : Level) : List Byte := u8 l.val

end Sys2Proof.Machine
end

