-- ==== Sys2Proof/Machine/Operands.lean ====
section
/-! DEFINITION. The operand forms: the fields of a request's data (R190), their clamping (R8), and the order in which a
link command is judged (R8, R188, R189). -/
namespace Sys2Proof.Machine

/-! ## Raw fields -/

/-- The one-byte field at a place of the data. -/
def byteAt (data : List Byte) (i : Nat) : Byte := data.getD i 0
/-- The value of a one-byte field. -/
def natAt (data : List Byte) (i : Nat) : Nat := (byteAt data i).toNat
/-- The value of a two-byte field, most significant byte first. -/
def natAt2 (data : List Byte) (i : Nat) : Nat := natAt data i * 256 + natAt data (i + 1)
/-- The two-byte field at a place of the data. -/
def halfAt (data : List Byte) (i : Nat) : Half := BitVec.ofNat 16 (natAt2 data i)
/-- The value of a two's-complement two-byte field. -/
def intAt2 (data : List Byte) (i : Nat) : Int := (halfAt data i).toInt

/-- A number clamped into a range (R8, step 6). -/
def clamp (lo hi n : Nat) : Nat := max lo (min hi n)
/-- A signed number clamped into a range. -/
def clampInt (lo hi n : Int) : Int := max lo (min hi n)

/-! ## Judgement -/

/-- The answer of a command: its reply alone where a step of its judgement refuses it, or the state it leaves together
with its reply. -/
abbrev Judged := Except Reply (State × Reply)

/-- A step of a judgement: it answers where its condition holds. -/
def refuseIf (bad : Bool) (r : Reply) : Except Reply Unit := if bad then .error r else .ok ()

/-- A REFUSED answer with its reason. -/
def refuseFor (bad : Bool) (r : Reason) : Except Reply Unit := refuseIf bad (.refused r)

/-- The mode step of loads and COMMIT: taken in CONFIG (R8, R189). -/
def takenInConfig (s : State) : Except Reply Unit :=
  match s.mode with
  | .config => .ok ()
  | .committing => .error (.bare .busy)
  | .guarded => .error (.bare .wrongMode)

/-- The mode step of commands that are not reads: taken in GUARD (R189). -/
def takenInGuard (s : State) : Except Reply Unit :=
  match s.mode with
  | .config => .error (.bare .wrongMode)
  | .committing => .error (.bare .busy)
  | .guarded => .ok ()

/-- The mode step of reads, notice commands and PART RESET: taken in CONFIG and GUARD (R189). -/
def takenUnlessCommitting (s : State) : Except Reply Unit :=
  match s.mode with
  | .committing => .error (.bare .busy)
  | _ => .ok ()

/-- A field that names an instance, answered NO_SUCH where it names none (R8, steps 2 and 3). -/
def instOf (n v : Nat) : Except Reply (Fin n) := if h : v < n then .ok ⟨v, h⟩ else .error (.bare .noSuch)

/-- A field that names an instance or holds a word, carried as 0xFF (R190). -/
def instOrWord (n v : Nat) : Except Reply (Option (Fin n)) :=
  if v = 255 then .ok none else if h : v < n then .ok (some ⟨v, h⟩) else .error (.bare .noSuch)

/-- An enumerated field: the value at its place in the list of choices, or BAD_FIELD (R8, step 4; R190). -/
def oneOf {α : Type} (choices : List α) (v : Nat) : Except Reply α :=
  match choices[v]? with
  | some c => .ok c
  | none => .error (.refused .badField)

/-- A set-or-clear field (R190). -/
def flagOf (v : Nat) : Except Reply Bool := oneOf [false, true] v

/-- A level field limited to some levels, each carried as its value (R190). -/
def levelAmong (levels : List Level) (v : Nat) : Except Reply Level :=
  match levels.find? fun l => l.val == v with
  | some l => .ok l
  | none => .error (.refused .badField)

/-- A target naming an instance of `n` of its kind (11.3). A target whose high byte is not 0 names none and is NO_SUCH: the
model's reading, log row 50. -/
def targetOf (n : Nat) (target : Half) : Except Reply (Fin n) := instOf n target.toNat

/-- The slot and generation of a target naming a track (11.3). -/
def targetSlot (target : Half) : Nat := target.toNat / 256
def targetGen (target : Half) : BitVec 8 := target.setWidth 8

/-- The handle judgement of track commands: slot, then staleness (R53, steps 2 and 3). -/
def liveTrack (s : State) (slot : Nat) (gen : BitVec 8) : Except Reply (SlotId × Track) := do
  let i ← instOf 48 slot
  match s.slots[i].track with
  | none => .error (.bare .stale)
  | some t => if s.slots[i].gen == gen then .ok (i, t) else .error (.bare .stale)

/-- What a judged command leaves: a refused one changes nothing. -/
def State.judged (s : State) (j : Judged) : State × Reply :=
  match j with
  | .ok a => a
  | .error r => (s, r)

end Sys2Proof.Machine
end

