-- ==== Sys2Proof/Machine/Link.lean ====
section
/-! DEFINITION. The Link Interface: how a request reaches its command, and the link events (11.1, 11.2). -/
namespace Sys2Proof.Machine

/-- ALERT is held low, and the link takes no transaction (R185). -/
def Alert.holds : Alert → Bool
  | .held _ => true
  | _ => false

/-- The hold of ALERT has run its 500 us (R185). -/
def Alert.holdDue (a : Alert) (now : Tick) : Bool :=
  match a with
  | .held stop => decide (stop ≤ now)
  | _ => false

/-- The transaction in progress is the one that chip select held through the rise of the RESET line, ignored to its end (R187). -/
def Link.ignores (k : Link) (now : Tick) : Bool :=
  match k.ignoring with
  | none => false
  | some rise => decide (now < rise)

/-- Whether a command names a target (11.3). -/
inductive Names where
  | instances | nothing
  deriving DecidableEq, Repr

/-- The reply driven after a request, with 0x00 around it (R184). -/
def State.replyWith (s : State) (r : Reply) : State :=
  { s with link := { s.link with reply := r.bytes, fill := 0x00 } }

/-- A transaction in which the part drives one value throughout. -/
def State.driveOnly (s : State) (fill : Byte) : State :=
  { s with link := { s.link with reply := [], fill := fill } }

/-- A transaction from its beginning: nothing is received while RESET is low (R187), nor until the rise of chip select that
ends a transaction held through the rise of RESET (R187); one that falls in the parity hold is ignored with 0xFF (R185), and
any other is received as `f` says. -/
def State.transact (s : State) (f : State → State) : State :=
  if s.resetLow then s
  else if s.link.ignores s.now then s
  else if s.link.alert.holds then s.driveOnly 0xFF
  else f s

/-- A request whose header and CRC are good, judged in the order of R188: the length, a target where there is none,
then the command's own judgement. -/
def State.request (s : State) (length : Nat) (names : Names) (target : Half) (data : List Byte)
    (own : State → Judged) : State :=
  s.transact fun s =>
    if data.length ≠ length then s.replyWith (.bare .badLength)
    else if names = .nothing ∧ target ≠ 0 then s.replyWith (.bare .noSuch)
    else
      let a := s.judged (own s)
      a.1.replyWith a.2

/-- R188, step 1: an opcode assigned to no command.
A term whose opcode is assigned stands for no such request, and changes nothing (log row 9). -/
def execUnknownOp (opcode : BitVec 7) (_target : Half) (_data : List Byte) (s : State) :
    Host.Outcome State Fault Refusal :=
  .next <| if opcodeAssigned opcode then s else s.transact fun s => s.replyWith (.bare .unknownOp)

/-- R185: a header of even parity holds ALERT low to 500 us after chip select rises, drives 0xFF, and raises LINK_ERR with
reason PARITY. A term of odd parity stands for no such header (log row 9). -/
def execHeaderParityError (header : BadHeader) (s : State) : Host.Outcome State Fault Refusal :=
  .next <| if headerParityGood header.bits then s else
    s.transact fun s =>
      let s := s.driveOnly 0xFF
      { s with link := { s.link with alert := .held (s.now + header.low + Config.holdTicks) } }.raiseLinkError .parity

/-- R185: 500 us after chip select rises, ALERT returns high and the link takes transactions again; before that the command
changes nothing (log row 2). -/
def execAlertHoldEnd (s : State) : Host.Outcome State Fault Refusal :=
  .next <| if s.link.alert.holdDue s.now then { s with link := { s.link with alert := .idle } } else s

/-- R185: a transaction whose chip select falls during the hold is ignored to its end and reads 0xFF, even where the hold ends
before its chip select rises. The command comes when chip select falls, and stands for that transaction whole (log row 7). -/
def execHoldTransactionIgnored (s : State) : Host.Outcome State Fault Refusal :=
  .next <| if s.link.alert.holds then s.driveOnly 0xFF else s

/-- R186: a CRC mismatch discards the command, replies BAD_CRC, pulses ALERT and raises LINK_ERR with reason CRC. The last two
come when chip select rises, and the model takes the command there (log row 8).
A term in which the CRC is right, or the rest is not, stands for no such request (log row 9). -/
def execBadCrc (header : BitVec 32) (data : List Byte) (crc : Half) (s : State) :
    Host.Outcome State Fault Refusal :=
  .next <| if headerParityGood header && decide (0 < data.length) && (headerLength header == data.length)
      && (crc16 (headerBytes header ++ data) != crc) then
    s.transact fun s =>
      let s := s.replyWith (.bare .badCrc)
      { s with link := { s.link with alert := .pulse } }.raiseLinkError .crc
  else s

/-- R186: the 10-us pulse ends, in the tick in which it began (log row 8). -/
def execAlertPulseEnd (s : State) : Host.Outcome State Fault Refusal :=
  .next <| if s.link.alert = .pulse then { s with link := { s.link with alert := .idle } } else s

/-- R187: chip select rising before the request is complete takes nothing and raises LINK_ERR with reason SHORT. -/
def execShortTransaction (s : State) : Host.Outcome State Fault Refusal :=
  .next <| s.transact fun s => (s.driveOnly 0x00).raiseLinkError .short

end Sys2Proof.Machine
end

