-- ==== Sys2Proof/Machine/Zones.lean ====
section
/-! DEFINITION. The Zone Evaluator (08): causes, levels, fault flags, acknowledgement, call points. -/
namespace Sys2Proof.Machine

/-! ## Causes and level -/

/-- TEMP_ALARM is present: a channel of the zone has its ALARM flag set (R147, log row 32). -/
def State.tempAlarm (s : State) (z : ZoneId) : Bool := s.temps.any fun t => t.inUse && (t.zone == z) && t.alarm
/-- TEMP_FIRE is present: a channel of the zone has its FIRE flag set (R147, log row 32). -/
def State.tempFire (s : State) (z : ZoneId) : Bool := s.temps.any fun t => t.inUse && (t.zone == z) && t.fire

/-- The level of a zone: its latched level, or WATCH where TRACK_LIVE is present and that is higher (R150). -/
def Zone.computed (z : Zone) : Level := if z.live = 0 then z.latched else z.latched.sup .watch

/-- The level is recomputed; a change is dated, raises ZONE and is delivered (R150). -/
def Work.recompute (w : Work) (z : ZoneId) : Work :=
  let old := w.st.zones[z].level
  let new := w.st.zones[z].computed
  if old = new then w
  else
    (w.mod fun s => (s.updZone z fun q => { q with level := new, levelChanged := some s.now }).raise .zone).push
      (.zoneLevel z old new)

/-- A latching cause arrives at a level: acknowledged clears, the latched level rises to it if it lies below
(R148 to R151). -/
def Zone.latch (l : Level) (z : Zone) : Zone := { z with latched := z.latched.sup l, acknowledged := false }

/-- A latching cause arrives in a zone. -/
def Work.arrive (w : Work) (z : ZoneId) (l : Level) : Work := (w.mod fun s => s.updZone z (Zone.latch l)).recompute z

/-- The instant cause BURST arrives (R149). -/
def Work.arriveBurst (w : Work) (z : ZoneId) : Work :=
  (w.mod fun s => s.updZone z fun q => { q with burst := true }).arrive z .alarm

/-- The instant cause TABLE_FULL arrives (R149). -/
def Work.arriveTableFull (w : Work) (z : ZoneId) : Work :=
  (w.mod fun s => s.updZone z fun q => { q with tableFull := true }).arrive z .alarm

/-- The instant cause LINK_CALL arrives, keeping the higher of two levels (R149). -/
def Work.arriveCall (w : Work) (z : ZoneId) (l : Level) : Work :=
  (w.mod fun s => s.updZone z fun q => { q with linkCall := some ((q.linkCall.getD l).sup l) }).arrive z l

/-! ## Membership (R75, R148) -/

/-- The zone of a membership. -/
def Membership.zone : Membership → ZoneId
  | .live z => z
  | .escaped z => z

/-- The counts after a track has left, and after one has come. -/
def State.leave (s : State) : Membership → State
  | .live z => s.updZone z fun q => { q with live := q.live - 1 }
  | .escaped z => s.updZone z fun q => { q with escaped := q.escaped - 1 }
def State.join (s : State) : Membership → State
  | .live z => s.updZone z fun q => { q with live := q.live + 1 }
  | .escaped z => s.updZone z fun q => { q with escaped := q.escaped + 1 }

/-- A membership change: the old pair's count falls and the new pair's rises; a track that adds to the escaped count is
an arrival of TRACK_ESCAPED (R148). -/
def Work.memberMove (w : Work) (old new : Option Membership) : Work :=
  let w := w.mod fun s => old.elim s s.leave
  let w := w.mod fun s => new.elim s s.join
  let w := match new with
    | some (.escaped z) => w.mod fun s => s.updZone z (Zone.latch .alarm)
    | _ => w
  let w := match old with
    | some m => w.recompute m.zone
    | none => w
  match new with
  | some m => w.recompute m.zone
  | none => w

/-! ## Fault flags (R155) -/

/-- The kinds of fault flag in bit order (8.1). -/
inductive FaultKind where
  | detector | station | purgeOverdue | shutter | sensor
  deriving DecidableEq, Repr

def FaultKind.bit : FaultKind → Nat
  | .detector => 0 | .station => 1 | .purgeOverdue => 2 | .shutter => 3 | .sensor => 4

/-- Some station of a zone meets a condition. -/
def State.stationIn (s : State) (z : ZoneId) (p : Station → Bool) : Bool :=
  (List.finRange 24).any fun x => p s.stations[x] && s.zoneOfPlaced (.station x) == some z

/-- The condition behind a fault flag of a zone; outside GUARD every flag is clear (R155, R157). -/
def State.faultPresent (s : State) (z : ZoneId) (k : FaultKind) : Bool :=
  s.mode == .guarded &&
    match k with
    | .detector =>
      (List.finRange 32).any fun d => s.channels[d].state == .blind && s.zoneOfPlaced (.detector d) == some z
    | .station => s.stationIn z fun x => x.state == .fault
    | .purgeOverdue => s.stationIn z fun x => decide (Config.debtLimit ≤ x.debt)
    | .shutter => s.shutters.any fun h => h.state == .fault && (h.sideA == z || h.sideB == some z)
    | .sensor => s.temps.any fun t => t.inUse && t.state == .sensorFault && t.zone == z

/-- A source delivers its flag to a zone as its condition stands; a change raises ZONE (R155). -/
def State.refreshFault (s : State) (k : FaultKind) (z : ZoneId) : State :=
  let bit := 1#5 <<< k.bit
  let new := if s.faultPresent z k then s.zones[z].faults ||| bit else s.zones[z].faults &&& ~~~bit
  if new = s.zones[z].faults then s else (s.updZone z fun q => { q with faults := new }).raise .zone

/-- The flag is delivered to the zone of something placed. -/
def State.refreshPlaced (s : State) (k : FaultKind) (what : Placed) : State :=
  match s.zoneOfPlaced what with
  | none => s
  | some z => s.refreshFault k z

/-- Every flag of every zone is set from its source as it stands (R157). -/
def State.refreshAllFaults (s : State) : State :=
  (List.finRange 16).foldl (fun s z =>
    [FaultKind.detector, .station, .purgeOverdue, .shutter, .sensor].foldl (fun s k => s.refreshFault k z) s) s

/-! ## Call points (R153) -/

/-- The tick from which the span of a call point runs: its last change, or GUARD entry if that is later. -/
def State.callSince (s : State) (z : ZoneId) : Tick := max s.zones[z].callChanged (s.guardEntry.getD 0)

/-- The raw input has stood for the span at the level the filter does not have. -/
def State.callDue (s : State) (z : ZoneId) : Bool :=
  s.mode == .guarded && s.zones[z].callRaw != s.zones[z].callActive
    && decide (s.callSince z + Config.callTicks ≤ s.now)

/-- The filter takes the level of the raw input: CALL_POINT appears, or goes (R153). -/
def State.callFilter (s : State) (z : ZoneId) : Work :=
  let w := s.begin.mod fun s => s.updZone z fun q => { q with callActive := q.callRaw }
  if s.zones[z].callRaw then w.arrive z .fire else w

/-- A change of the raw input, which restarts the span (R153). -/
def State.callInput (s : State) (z : ZoneId) (active : Bool) : State :=
  if s.zones[z].callRaw = active then s
  else s.updZone z fun q => { q with callRaw := active, callChanged := s.now }

def execCallPointInput (z : ZoneId) (active : Bool) (s : State) : Host.Outcome State Fault Refusal :=
  .next (s.callInput z active)

/-! ## Commands -/

/-- The highest level among the latching standing causes present (R152). -/
def State.standingLevel (s : State) (z : ZoneId) : Level :=
  if s.tempFire z || s.zones[z].callActive then .fire
  else if s.tempAlarm z || s.zones[z].escaped != 0 then .alarm
  else .normal

/-- An acknowledgement (R152, steps 1 to 4). -/
def State.acknowledge (s : State) (z : ZoneId) : Work :=
  (s.begin.mod fun s => s.updZone z fun q =>
    { q with burst := false, tableFull := false, linkCall := none, latched := s.standingLevel z,
             acknowledged := true }).recompute z

/-- The eight causes present in the order of R147, and the level of LINK_CALL. -/
def State.causesField (s : State) (z : ZoneId) : List Byte :=
  let q := s.zones[z]
  let present := [decide (q.live ≠ 0), decide (q.escaped ≠ 0), s.tempAlarm z, s.tempFire z, q.callActive, q.burst,
    q.tableFull, q.linkCall.isSome]
  flags8 (setOf 8 fun i => present.getD i false) ++ optField 1 levelField q.linkCall

/-- The reply data of READ ZONE (R158). -/
def State.zoneRecord (s : State) (z : ZoneId) : List Byte :=
  let q := s.zones[z]
  levelField q.level ++ levelField q.latched ++ s.causesField z ++ u8 q.live ++ u8 q.escaped ++ flags8 q.faults
    ++ boolField q.acknowledged ++ optField 4 tickField q.levelChanged ++ boolField q.callActive
    ++ tickField q.callChanged ++ boolField q.callRaw

def State.readZone (target : Half) (s : State) : Judged := do
  takenUnlessCommitting s
  let z ← targetOf 16 target
  return (s, .ok (s.zoneRecord z))

def execReadZone (target : Half) (data : List Byte) (s : State) : Host.Outcome State Fault Refusal :=
  .next <| s.request 0 .instances target data (State.readZone target)

end Sys2Proof.Machine
end

