-- ==== Sys2Proof/Machine/Shutters.lean ====
section
/-! DEFINITION. The Shutter Controller (09): demand, travel, obstruction, faults, and the shutter commands. -/
namespace Sys2Proof.Machine

/-! ## One shutter record -/

/-- A fresh travel timer (R165). -/
def Shutter.fresh (h : Shutter) (now : Tick) : Travel := .running (now + h.timeout * Config.second)

/-- The ticks remaining of a travel timer (R165). -/
def Travel.left (t : Travel) (now : Tick) : Nat :=
  match t with
  | .absent => 0
  | .running e => e - now
  | .frozen n => n

/-- Entering CLOSED (R164). -/
def Shutter.toClosed (h : Shutter) (now : Tick) : Shutter :=
  { h with state := .closed, travel := .absent, pauseStart := none, rearmEnd := none, obstructions := 0,
           stateChanged := some now }

/-- Entering OPEN (R164). -/
def Shutter.toOpen (h : Shutter) (now : Tick) : Shutter :=
  { h with state := .opened, travel := .absent, stateChanged := some now }

/-- Entering DROPPING with a fresh timer; the obstruction count is kept (R163, R166, R167). -/
def Shutter.toDropping (h : Shutter) (now : Tick) : Shutter :=
  { h with state := .dropping, travel := h.fresh now, pauseStart := none, rearmEnd := none, stateChanged := some now }

/-- Entering FAULT with its reason (R168). -/
def Shutter.toFault (h : Shutter) (r : ShutterFault) (now : Tick) : Shutter :=
  { h with state := .fault, travel := .absent, pauseStart := none, rearmEnd := none, faultReason := some r,
           stateChanged := some now }

/-- Entering OPENING (R170). -/
def Shutter.toOpening (h : Shutter) (now : Tick) : Shutter :=
  { h with state := .opening, travel := h.fresh now, obstructions := 0, stateChanged := some now }

/-- An obstruction in CLOSING (R166): the count rises; below 3 the shutter pauses, at 3 it drops. -/
def Shutter.obstruct (h : Shutter) (now : Tick) : Shutter :=
  let h := { h with obstructions := h.obstructions + 1 }
  if h.obstructions < 3 then
    { h with state := .paused, travel := .frozen (h.travel.left now), pauseStart := some now, rearmEnd := none,
             stateChanged := some now }
  else h.toDropping now

/-- Entering CLOSING from OPEN or OPENING: with the obstruction input active, at once as if it arrived then (R162). -/
def Shutter.toClosing (h : Shutter) (now : Tick) : Shutter :=
  let h := { h with state := .closing, travel := h.fresh now, stateChanged := some now }
  if h.obstructed then h.obstruct now else h

/-- A paused shutter resumes CLOSING; a timer with nothing left expires at the resumption (R167). -/
def Shutter.resume (h : Shutter) (now : Tick) : Shutter :=
  let left := h.travel.left now
  let h := { h with state := .closing, travel := .running (now + left), pauseStart := none, rearmEnd := none,
                    stateChanged := some now }
  if left = 0 then h.toDropping now else h

/-- The limit inputs act by the state (R164): a change of the closed limit, then of the open limit. -/
def Shutter.closedLimitChange (h : Shutter) (active : Bool) (now : Tick) : Shutter :=
  let g := { h with closedLimit := active }
  match h.state, active with
  | .closing, true => g.toClosed now
  | .paused, true => g.toClosed now
  | .dropping, true => g.toClosed now
  | .closed, false => g.toDropping now
  | _, _ => g
def Shutter.openLimitChange (h : Shutter) (active : Bool) (now : Tick) : Shutter :=
  let g := { h with openLimit := active }
  match h.state, active with
  | .opening, true => g.toOpen now
  | .opened, false => g.toDropping now
  | _, _ => g

/-- The levels of both limits as one event shows them; an unchanged limit is no event. Where both change, the open limit acts
first: the model's choice, log row 43. -/
def Shutter.limits (h : Shutter) (openActive closedActive : Bool) (now : Tick) : Shutter :=
  let h := if h.openLimit = openActive then h else h.openLimitChange openActive now
  if h.closedLimit = closedActive then h else h.closedLimitChange closedActive now

/-- A running travel timer has reached its expiry. -/
def Shutter.travelDue (h : Shutter) (now : Tick) : Bool :=
  match h.travel with
  | .running e => decide (e ≤ now)
  | _ => false

/-- A running travel timer expires (R165). -/
def Shutter.expire (h : Shutter) (now : Tick) : Shutter :=
  match h.state with
  | .closing => h.toDropping now
  | .dropping => h.toFault .dropTimeout now
  | .opening => h.toFault .openTimeout now
  | _ => { h with travel := .absent }

/-- A change of the obstruction input (R166, R167). -/
def Shutter.obstruction (h : Shutter) (active : Bool) (now : Tick) : Shutter :=
  if h.obstructed = active then h else
    let h := { h with obstructed := active }
    match h.state with
    | .closing => if active then h.obstruct now else h
    | .paused => { h with rearmEnd := if active then none else some (now + Config.rearmTicks) }
    | _ => h

/-- The pause limit has been reached (R167). -/
def Shutter.pauseDue (h : Shutter) (now : Tick) : Bool :=
  reached (h.pauseStart.map fun t => t + Config.pauseTicks) now

/-- The state that a part reset takes from the closed limit (R159). -/
def Shutter.take (h : Shutter) (now : Tick) : Shutter :=
  if h.closedLimit then { h with state := .closed, travel := .absent }
  else { h with state := .dropping, travel := h.fresh now }

/-! ## The shutters of the part -/

/-- Entries into CLOSED, OPEN, DROPPING and FAULT raise SHUTTER (R160). -/
def ShutterState.announced : ShutterState → Bool
  | .closed => true | .opened => true | .dropping => true | .fault => true | _ => false

/-- Two records show an entry that is announced: another state, or the same state entered anew. -/
def Shutter.entered (before after : Shutter) : Bool :=
  after.state.announced && decide (after.state ≠ before.state)

/-- One shutter moves: the SHUTTER notice of an announced entry (R160), and the SHUTTER flag of its side zones where it
enters or leaves FAULT in GUARD (R168, R171). -/
def State.moveShutter (s : State) (i : ShutterId) (f : Shutter → Shutter) : State :=
  let before := s.shutters[i]
  let after := f before
  let s := s.updShutter i fun _ => after
  let s := if before.entered after then s.raise .shutter else s
  if (before.state == .fault) == (after.state == .fault) || s.mode != .guarded then s
  else
    let s := s.refreshFault .shutter after.sideA
    after.sideB.elim s (s.refreshFault .shutter)

/-- A side zone stands at or above the close level (R161). -/
def State.sideHigh (s : State) (h : Shutter) : Bool :=
  s.zones[h.sideA].level.atLeast h.closeLevel || h.sideB.elim false fun z => s.zones[z].level.atLeast h.closeLevel

/-- A shutter has demand (R161). -/
def State.shutterDemand (s : State) (h : Shutter) : Bool := s.mode != .guarded || !h.granted || s.sideHigh h

/-- Demand judged afresh: one that stands takes an OPEN or OPENING shutter into CLOSING (R161, R162). -/
def State.judgeShutter (s : State) (i : ShutterId) : State :=
  let h := s.shutters[i]
  if s.shutterDemand h && (h.state == .opened || h.state == .opening) then
    s.moveShutter i fun h => h.toClosing s.now
  else s

/-- A side zone changes to FIRE (R163). -/
def State.dropShutter (s : State) (i : ShutterId) : State :=
  match s.shutters[i].state with
  | .opened | .opening | .closing | .paused => s.moveShutter i fun h => h.toDropping s.now
  | _ => s

/-- A side zone stands at FIRE. -/
def State.sideBurns (s : State) (h : Shutter) : Bool :=
  s.zones[h.sideA].level == .fire || h.sideB.elim false fun z => s.zones[z].level == .fire

/-- A zone's change of level reaches the shutters with a side in the zone (R156, R161). Where a side has changed to FIRE, in
this delivery or in another of the same event, R163 governs, not R162. -/
def State.shuttersSee (s : State) (z : ZoneId) (new : Level) : State :=
  (List.finRange 12).foldl (fun s i =>
    let h := s.shutters[i]
    if h.sideA = z ∨ h.sideB = some z then
      (if new = .fire ∨ s.sideBurns h = true then s.dropShutter i else s.judgeShutter i)
    else s) s

/-- Demand of every shutter judged afresh, as at a change of part mode (R161, R172). -/
def State.judgeShutters (s : State) : State := (List.finRange 12).foldl State.judgeShutter s

/-- An event at a shutter, which nothing runs while the RESET line is low (R195). -/
def State.shutterEvent (s : State) (i : ShutterId) (due : Shutter → Bool) (f : Shutter → Shutter) : State :=
  if !s.resetLow && due s.shutters[i] then s.moveShutter i f else s

/-- SHUTTER_LIMIT_CHANGE; while RESET is low only the levels are seen (R164, R195). -/
def execShutterLimitChange (h : ShutterId) (openActive closedActive : Bool) (s : State) :
    Host.Outcome State Fault Refusal :=
  .next <| if s.resetLow then s.updShutter h fun q => { q with openLimit := openActive, closedLimit := closedActive }
    else s.moveShutter h fun q => q.limits openActive closedActive s.now

def execShutterTravelTimeout (h : ShutterId) (s : State) : Host.Outcome State Fault Refusal :=
  .next <| s.shutterEvent h (fun q => q.travelDue s.now) fun q => q.expire s.now

/-- SHUTTER_OBSTRUCTION; while RESET is low only the level is seen (R166, R167, R195). -/
def execShutterObstruction (h : ShutterId) (active : Bool) (s : State) : Host.Outcome State Fault Refusal :=
  .next <| if s.resetLow then s.updShutter h fun q => { q with obstructed := active }
    else s.moveShutter h fun q => q.obstruction active s.now

def execRearmEnd (h : ShutterId) (s : State) : Host.Outcome State Fault Refusal :=
  .next <| s.shutterEvent h (fun q => q.state == .paused && reached q.rearmEnd s.now) fun q => q.resume s.now

def execPauseLimit (h : ShutterId) (s : State) : Host.Outcome State Fault Refusal :=
  .next <| s.shutterEvent h (fun q => q.state == .paused && q.pauseDue s.now) fun q => q.toDropping s.now

/-! ## Commands -/

/-- R159: the sides, the close level and the travel timeout; a load changes no runtime field. -/
def State.loadShutter (target : Half) (data : List Byte) (s : State) : Judged := do
  takenInConfig s
  let i ← targetOf 12 target
  let a ← instOrWord 16 (natAt data 0)
  let b ← instOrWord 16 (natAt data 1)
  match a with
  | none => .error (.refused .badField)
  | some a =>
    let level ← levelAmong [.alarm, .fire] (natAt data 2)
    let timeout := clamp 1 120 (natAt data 3)
    return (s.updShutter i fun h => { h with sideA := a, sideB := b, closeLevel := level, timeout := timeout },
      .loaded (timeout != natAt data 3))

def execLoadShutter (target : Half) (data : List Byte) (s : State) : Host.Outcome State Fault Refusal :=
  .next <| s.request 4 .instances target data (State.loadShutter target data)

/-- A permit set: a grant moves no shutter, and a revoke closes an OPEN or OPENING one (R162, R169). -/
def State.setPermit (s : State) (i : ShutterId) (granted : Bool) : State :=
  let s := s.updShutter i fun h => { h with granted := granted }
  if granted then s else s.judgeShutter i

/-- The place of a state in its list (9.1). -/
def ShutterState.code : ShutterState → Nat
  | .closed => 0 | .opening => 1 | .opened => 2 | .closing => 3 | .paused => 4 | .dropping => 5 | .fault => 6

/-- A permit in its list, GRANTED before REVOKED (9.1). -/
def permitField (granted : Bool) : List Byte := u8 (if granted then 0 else 1)

/-- GRANT HOLD and REVOKE HOLD: the reply carries the permit and state after the command (R169). -/
def State.permitOne (granted : Bool) (target : Half) (s : State) : Judged := do
  takenInGuard s
  let i ← targetOf 12 target
  let t := s.setPermit i granted
  return (t, .ok (permitField t.shutters[i].granted ++ u8 t.shutters[i].state.code))

/-- GRANT ALL and REVOKE ALL act on all twelve shutters in one event (R169). -/
def State.permitAll (granted : Bool) (s : State) : Judged := do
  takenInGuard s
  return ((List.finRange 12).foldl (fun s i => s.setPermit i granted) s, .ok [])

def execGrantHold (target : Half) (data : List Byte) (s : State) : Host.Outcome State Fault Refusal :=
  .next <| s.request 0 .instances target data (State.permitOne true target)
def execRevokeHold (target : Half) (data : List Byte) (s : State) : Host.Outcome State Fault Refusal :=
  .next <| s.request 0 .instances target data (State.permitOne false target)
def execGrantAll (target : Half) (data : List Byte) (s : State) : Host.Outcome State Fault Refusal :=
  .next <| s.request 0 .nothing target data (State.permitAll true)
def execRevokeAll (target : Half) (data : List Byte) (s : State) : Host.Outcome State Fault Refusal :=
  .next <| s.request 0 .nothing target data (State.permitAll false)

/-- R170: a CLOSED shutter with its permit and quiet sides enters OPENING, or OPEN at once. -/
def State.openShutter (target : Half) (s : State) : Judged := do
  takenInGuard s
  let i ← targetOf 12 target
  refuseFor (s.shutters[i].state != .closed) .notClosed
  refuseFor (!s.shutters[i].granted) .noPermit
  refuseFor (s.sideHigh s.shutters[i]) .zoneActive
  return (s.moveShutter i fun h =>
    let h := h.toOpening s.now
    if h.openLimit then h.toOpen s.now else h, .ok [])

def execOpenShutter (target : Half) (data : List Byte) (s : State) : Host.Outcome State Fault Refusal :=
  .next <| s.request 0 .instances target data (State.openShutter target)

/-- R171: a shutter in FAULT is cleared into CLOSED or DROPPING by its closed limit. -/
def State.clearShutter (target : Half) (s : State) : Judged := do
  takenInGuard s
  let i ← targetOf 12 target
  refuseFor (s.shutters[i].state != .fault) .notFaulted
  return (s.moveShutter i fun h =>
    let h := { h with faultReason := none }
    if h.closedLimit then h.toClosed s.now else h.toDropping s.now, .ok [])

def execClearShutter (target : Half) (data : List Byte) (s : State) : Host.Outcome State Fault Refusal :=
  .next <| s.request 0 .instances target data (State.clearShutter target)

/-- A travel timer: absent, running with its expiry, or frozen with the ticks remaining (log row 20). -/
def travelField : Travel → List Byte
  | .absent => u8 0 ++ u32 0
  | .running e => u8 1 ++ tickField e
  | .frozen n => u8 2 ++ u32 n

/-- The place of a fault reason among the reasons (9.1), 'absent' not counted: the model's choice, log row 20. -/
def ShutterFault.code : ShutterFault → Nat
  | .dropTimeout => 0 | .openTimeout => 1

/-- The reply data of READ SHUTTER (R173). That the level of side A is sent bare and that of side B as an optional field is
the model's choice: log row 20. -/
def State.shutterRecord (s : State) (i : ShutterId) : List Byte :=
  let h := s.shutters[i]
  u8 h.sideA.val ++ wordField (h.sideB.map Fin.val) ++ levelField h.closeLevel ++ u8 h.timeout
    ++ permitField h.granted ++ u8 h.state.code ++ optField 1 (fun r => u8 r.code) h.faultReason
    ++ boolField (s.shutterDemand h) ++ levelField s.zones[h.sideA].level
    ++ optField 1 levelField (h.sideB.map fun z => s.zones[z].level)
    ++ u8 h.obstructions ++ travelField h.travel ++ optField 4 tickField h.pauseStart
    ++ optField 4 tickField h.rearmEnd ++ optField 4 tickField h.stateChanged
    ++ boolField h.brake ++ boolField h.motorUp ++ boolField h.motorDown
    ++ boolField h.openLimit ++ boolField h.closedLimit ++ boolField h.obstructed

def State.readShutter (target : Half) (s : State) : Judged := do
  takenUnlessCommitting s
  let i ← targetOf 12 target
  return (s, .ok (s.shutterRecord i))

def execReadShutter (target : Half) (data : List Byte) (s : State) : Host.Outcome State Fault Refusal :=
  .next <| s.request 0 .instances target data (State.readShutter target)

end Sys2Proof.Machine
end

