-- ==== Sys2Proof/Machine/Sirens.lean ====
section
/-! DEFINITION. The Siren Sequencer (10): patterns, class changes, silence, and the siren commands. -/
namespace Sys2Proof.Machine

/-! ## Sequencing, on one siren record -/

/-- The pattern of a class; NORMAL has none (R176). -/
def Siren.pattern (y : Siren) : Level → Option Pattern
  | .normal => none
  | .watch => some y.watch
  | .alarm => some y.alarm
  | .fire => some y.fire

/-- The pattern a class sounds: none for NORMAL or an empty pattern (R176). -/
def Siren.sounds (y : Siren) (c : Level) : Option Pattern :=
  match y.pattern c with
  | some p => if p.empty then none else some p
  | none => none

/-- QUIET, with phase end absent. -/
def Siren.quiet (y : Siren) : Siren := { y with phase := .quiet, phaseEnd := none, opening := false }

/-- The length of a blast in tenths: half, but at least one, where it starts derated (R181). -/
def blastLength (blast : Nat) (derated : Bool) : Nat := if derated then max 1 (blast / 2) else blast

/-- A BLAST begins: it reads the derate flag and sets its phase end (R181). -/
def Siren.beginBlast (y : Siren) (p : Pattern) (derate : Bool) (now : Tick) : Siren :=
  { y with phase := .blast, derated := derate, opening := false,
           phaseEnd := some (now + blastLength p.blast derate * Config.tenth) }

/-- A PAUSE begins with the pattern's group gap (R176). -/
def Siren.beginPause (y : Siren) (p : Pattern) (opening : Bool) (now : Tick) : Siren :=
  { y with phase := .pause, opening := opening, phaseEnd := some (now + p.groupGap * Config.tenth) }

/-- The counts at a pattern start (R176). -/
def Siren.startCounts (y : Siren) : Siren := { y with groupIndex := 0, blastIndex := 0, reportCount := 0 }

/-- A rise to a class: its pattern starts with a blast at once; an empty one gives QUIET (R178). -/
def Siren.rise (y : Siren) (c : Level) (derate : Bool) (now : Tick) : Siren :=
  let y := { y with sounding := c, pendingCls := none }
  match y.sounds c with
  | none => y.quiet
  | some p => y.startCounts.beginBlast p derate now

/-- A fall to a class takes effect: its pattern starts with a pause; NORMAL or an empty one gives QUIET (R178). -/
def Siren.fall (y : Siren) (c : Level) (now : Tick) : Siren :=
  let y := { y with sounding := c, pendingCls := none }
  match y.sounds c with
  | none => y.quiet
  | some p => y.startCounts.beginPause p true now

/-- A change of class on a siren that is not silenced (R178). -/
def Siren.judgeClass (y : Siren) (c : Level) (derate : Bool) (now : Tick) : Siren :=
  if y.sounding.val < c.val then y.rise c derate now
  else if y.sounding = c then { y with pendingCls := none }
  else if y.phase = .blast ∨ y.phase = .gap then { y with pendingCls := some c }
  else y.fall c now

/-- A change of class (R175): judged by R180 while silenced, by R178 otherwise. -/
def Siren.changeClass (y : Siren) (c : Level) (derate : Bool) (now : Tick) : Siren :=
  if y.cls = c then y else
    let y := { y with cls := c }
    match y.silenced with
    | none => y.judgeClass c derate now
    | some l =>
      if l.val < c.val then { y with silenced := none }.rise c derate now
      else if c = .normal then { y with silenced := none, sounding := .normal }
      else y

/-- A group completes (R177): the siren, and whether the SIREN notice is raised. -/
def Siren.completeGroup (y : Siren) (p : Pattern) (now : Tick) : Siren × Bool :=
  let y := { y with groupsSounded := bump 65535 y.groupsSounded }
  let due := p.report ≠ 0 ∧ y.reportCount + 1 = p.report
  let y := if p.report = 0 then y else { y with reportCount := if due then 0 else y.reportCount + 1 }
  let after :=
    match y.pendingCls with
    | some c => y.fall c now
    | none =>
      if p.groups ≠ 0 ∧ y.groupIndex + 1 = p.groups then { y with phase := .done, phaseEnd := none }
      else y.beginPause p false now
  (after, decide due)

/-- The end of a BLAST, GAP or PAUSE (R176, R177): the siren, and whether the SIREN notice is raised. -/
def Siren.phaseDone (y : Siren) (p : Pattern) (derate : Bool) (now : Tick) : Siren × Bool :=
  match y.phase with
  | .blast =>
    if y.blastIndex + 1 < p.blasts then
      ({ y with phase := .gap, phaseEnd := some (now + p.gap * Config.tenth) }, false)
    else y.completeGroup p now
  | .gap => ({ y with blastIndex := y.blastIndex + 1 }.beginBlast p derate now, false)
  | .pause =>
    let group := if y.opening then y.groupIndex else bump 65535 y.groupIndex
    ({ y with groupIndex := group, blastIndex := 0 }.beginBlast p derate now, false)
  | _ => ({ y with phaseEnd := none }, false)

/-! ## The sirens of the part -/

/-- The derate flag that a siren finds: clear without a link, or with a link to a channel not in use (R181). -/
def State.derateOf (s : State) (i : SirenId) : Bool :=
  match s.sirens[i].link with
  | none => false
  | some t => s.temps[t].inUse && inSet s.temps[t].derate i.val

/-- The class of a siren: the highest level among its zones (R175). -/
def State.classOf (s : State) (i : SirenId) : Level :=
  (List.finRange 16).foldl (fun c z => if inSet s.sirens[i].zones z.val then c.sup s.zones[z].level else c) .normal

/-- A zone's change of level reaches the sirens that hold the zone (R156, R175). -/
def State.sirensSee (s : State) (z : ZoneId) : State :=
  { s with sirens := Vector.ofFn fun i =>
      if inSet s.sirens[i].zones z.val then s.sirens[i].changeClass (s.classOf i) (s.derateOf i) s.now
      else s.sirens[i] }

/-- A siren's phase has reached its end. -/
def State.phaseDue (s : State) (i : SirenId) : Bool := reached s.sirens[i].phaseEnd s.now

/-- SIREN_PHASE_END: the sequence moves to its next phase (R176, R177). -/
def State.sirenPhaseEnd (s : State) (i : SirenId) : State :=
  if !s.resetLow && s.phaseDue i then
    match s.sirens[i].sounds s.sirens[i].sounding with
    | none => s.updSiren i Siren.quiet
    | some p =>
      let r := s.sirens[i].phaseDone p (s.derateOf i) s.now
      let s := s.updSiren i fun _ => r.1
      if r.2 then s.raise .siren else s
  else s

def execSirenPhaseEnd (y : SirenId) (s : State) : Host.Outcome State Fault Refusal := .next (s.sirenPhaseEnd y)

/-! ## Commands -/

/-- R174: the zone set, the temperature link and the derate threshold. -/
def State.loadSiren (target : Half) (data : List Byte) (s : State) : Judged := do
  takenInConfig s
  let i ← targetOf 8 target
  let link ← instOrWord 16 (natAt data 2)
  let at' := clampInt (-400) 2500 (intAt2 data 3)
  return (s.updSiren i fun y => { y with zones := halfAt data 0, link := link, derateAt := at' },
    .loaded (at' != intAt2 data 3))

def execLoadSiren (target : Half) (data : List Byte) (s : State) : Host.Outcome State Fault Refusal :=
  .next <| s.request 5 .instances target data (State.loadSiren target data)

/-- The pattern that a request's data gives, each field clamped on its own (R174). -/
def patternOf (empty : Bool) (data : List Byte) : Pattern :=
  { empty := empty, blast := clamp 1 100 (natAt data 2), gap := clamp 1 100 (natAt data 3),
    blasts := clamp 1 16 (natAt data 4), groupGap := clamp 1 600 (natAt2 data 5), groups := natAt data 7,
    report := natAt data 8 }

/-- R174: one pattern of a siren, written whole. -/
def State.loadPattern (target : Half) (data : List Byte) (s : State) : Judged := do
  takenInConfig s
  let i ← targetOf 8 target
  let cls ← levelAmong [.watch, .alarm, .fire] (natAt data 0)
  let empty ← flagOf (natAt data 1)
  let p := patternOf empty data
  let t := s.updSiren i fun y =>
    match cls with
    | .watch => { y with watch := p }
    | .alarm => { y with alarm := p }
    | _ => { y with fire := p }
  return (t, .loaded (p.blast != natAt data 2 || p.gap != natAt data 3 || p.blasts != natAt data 4
    || p.groupGap != natAt2 data 5))

def execLoadPattern (target : Half) (data : List Byte) (s : State) : Host.Outcome State Fault Refusal :=
  .next <| s.request 9 .instances target data (State.loadPattern target data)

/-- A pattern's fields in a reply. -/
def patternField (p : Pattern) : List Byte :=
  boolField p.empty ++ u8 p.blast ++ u8 p.gap ++ u8 p.blasts ++ u16 p.groupGap ++ u8 p.groups ++ u8 p.report

/-- The place of a phase in its list (10.1). -/
def Phase.code : Phase → Nat
  | .quiet => 0 | .blast => 1 | .gap => 2 | .pause => 3 | .done => 4

/-- The reply data of READ SIREN (R183). -/
def State.sirenRecord (s : State) (i : SirenId) : List Byte :=
  let y := s.sirens[i]
  flags16 y.zones ++ wordField (y.link.map Fin.val) ++ i16 y.derateAt
    ++ patternField y.watch ++ patternField y.alarm ++ patternField y.fire
    ++ levelField y.cls ++ levelField y.sounding ++ optField 1 levelField y.pendingCls
    ++ optField 1 levelField y.silenced ++ u8 y.phase.code ++ optField 4 tickField y.phaseEnd
    ++ u8 y.blastIndex ++ u16 y.groupIndex ++ u8 y.reportCount ++ u16 y.groupsSounded
    ++ boolField y.derated ++ boolField (s.derateOf i) ++ boolField y.driver

def State.readSiren (target : Half) (s : State) : Judged := do
  takenUnlessCommitting s
  let i ← targetOf 8 target
  return (s, .ok (s.sirenRecord i))

def execReadSiren (target : Half) (data : List Byte) (s : State) : Host.Outcome State Fault Refusal :=
  .next <| s.request 0 .instances target data (State.readSiren target)

/-- A siren silenced at its class; silenced there already, it stays as it is (R179, R180). -/
def Siren.silence (y : Siren) : Siren :=
  if y.silenced = some y.cls then y
  else { y with silenced := some y.cls, sounding := y.cls, pendingCls := none }.quiet

/-- R179: SILENCE SIREN is judged by the class as it stands. -/
def State.silenceSiren (target : Half) (s : State) : Judged := do
  takenInGuard s
  let i ← targetOf 8 target
  refuseFor (s.sirens[i].cls == .fire) .fireActive
  refuseFor (s.sirens[i].cls == .normal) .classNormal
  return (s.updSiren i Siren.silence, .ok [])

def execSilenceSiren (target : Half) (data : List Byte) (s : State) : Host.Outcome State Fault Refusal :=
  .next <| s.request 0 .instances target data (State.silenceSiren target)

end Sys2Proof.Machine
end

