-- ==== Sys2Proof/Machine/Walk.lean ====
section
/-! DEFINITION. The Flight Planner's arithmetic and walk (05, 5.1 and 5.2): pieces, bounds, and routes. -/
namespace Sys2Proof.Machine

/-! ## Pieces and bounds -/

/-- The early piece over a distance (R78). -/
def earlyPiece (tol v d : Nat) : Nat := d * 100000 / (v * (100 + tol))

/-- The late piece over a distance, rounded up (R78). -/
def latePiece (tol v d : Nat) : Nat :=
  let den := v * (100 - tol)
  (d * 100000 + (den - 1)) / den

/-- Bounds relative to the plan base tick (R79). -/
structure Bounds where
  early : Nat
  late : Nat
  openEnd : Bool
  deriving DecidableEq, Repr

/-- The bounds of a base point. -/
def Bounds.base : Bounds := { early := 0, late := 0, openEnd := false }

/-- Bounds after a further piece: each sum saturates at the horizon, and a late sum beyond it sets OPEN_END
(R79, log row 12). -/
def Bounds.add (b : Bounds) (early late : Nat) : Bounds :=
  { early := min Config.horizon (b.early + early), late := min Config.horizon (b.late + late),
    openEnd := b.openEnd || decide (Config.horizon < b.late + late) }

/-- The bounds of a HORIZON terminal (R81). -/
def Bounds.atHorizon : Bounds := { early := Config.horizon, late := Config.horizon, openEnd := true }

/-- The velocity of a segment as the walk reads it (R42, R78). -/
def State.velocity (s : State) (i : SegId) : Nat :=
  match s.segments[i].source with
  | none => s.segments[i].fixedVel
  | some a => s.airflows[a].smoothed.getD 0

/-- Bounds a distance further along a segment. -/
def State.along (s : State) (i : SegId) (b : Bounds) (d : Nat) : Bounds :=
  b.add (earlyPiece s.limits.tol (s.velocity i) d) (latePiece s.limits.tol (s.velocity i) d)

/-! ## Route items -/

/-- An item as the walk places it, not yet in the plan. -/
def mkItem (item : Item) (seg : SegId) (b : Bounds) (conds : List Cond) (depth : Nat) : RouteItem :=
  { item := item, seg := seg, early := b.early, late := b.late, openEnd := b.openEnd, conds := conds, depth := depth,
    joined := false, covering := false, lateStart := false, unserved := false, holds := false }

/-- The item of a placed point. -/
def Placed.item : Placed → Item
  | .detector d => .detector d
  | .station x => .station x

def Item.isEntry : Item → Bool
  | .entry _ => true
  | _ => false

/-- The number of route entries among items (R82). -/
def entriesOf (l : List RouteItem) : Nat := l.countP fun r => r.item.isEntry

/-- The outlet segment of a gate (R6). -/
def Gate.outlet (g : Gate) : Side → SegId
  | .normal => g.normalOut
  | .abort => g.abortOut

/-- The settled outlet of a gate, if its position is settled (R81). -/
def GateState.settled : GateState → Option Side
  | .normal => some .normal
  | .abort => some .abort
  | _ => none

/-- What the walk of a stretch places, and the room that is left for route entries. -/
abbrev Walked := List RouteItem × Nat

/-- How the walk goes on into a segment: the segment, the gate outlet it is entered through, its entry bounds, its
conditions and depth, the segment before it, and the room. -/
abbrev WalkOn := SegId → Option Cond → Bounds → List Cond → Nat → SegId → Nat → Walked

/-- The points of a segment up to the first whose early bound reaches the horizon, and whether one did (R79). -/
def walkPoints (seg : SegId) (at' : Nat → Bounds) (conds : List Cond) (depth : Nat) :
    List Point → List RouteItem × Bool
  | [] => ([], false)
  | p :: ps =>
    let b := at' p.position
    if Config.horizon ≤ b.early then ([], true)
    else
      let r := walkPoints seg at' conds depth ps
      (mkItem p.what.item seg b conds depth :: r.1, r.2)

/-- Both outlets of a gate whose position is not settled: the whole NORMAL branch, then the ABORT branch with the room
left (R82). -/
def State.walkBoth (s : State) (go : WalkOn) (g : GateId) (seg : SegId) (b : Bounds) (conds : List Cond)
    (depth room : Nat) : Walked :=
  let branch (side : Side) (room : Nat) : Walked :=
    let c : Cond := { gate := g, side := side }
    go (s.gates[g].outlet side) (some c) b (c :: conds) (depth + 1) seg room
  let n := branch .normal room
  let a := branch .abort n.2
  (n.1 ++ a.1, a.2)

/-- Beyond a gate's point: its settled outlet, or both (R81, R82). -/
def State.walkGate (s : State) (go : WalkOn) (g : GateId) (seg : SegId) (b : Bounds) (conds : List Cond)
    (depth room : Nat) : Walked :=
  match s.gates[g].state.settled with
  | some side => go (s.gates[g].outlet side) (some { gate := g, side := side }) b conds (depth + 1) seg room
  | none => s.walkBoth go g seg b conds depth room

/-- The rest of a segment, from some of its points to its exit and on through its outlet (R79, R81). -/
def State.walkSegment (s : State) (go : WalkOn) (seg : SegId) (at' : Nat → Bounds) (points : List Point)
    (conds : List Cond) (depth room : Nat) : Walked :=
  let p := walkPoints seg at' conds depth points
  let exit := at' s.segments[seg].length
  if p.2 || decide (Config.horizon ≤ exit.early) then
    (p.1 ++ [mkItem (.terminal .horizon none false) seg .atHorizon conds depth], room)
  else
    match s.segments[seg].outlet with
    | .ends _ =>
      let kind := if s.segments[seg].endKind = .protectedEnd then EndOf.protectedEnd else .safeEnd
      (p.1 ++ [mkItem (.terminal kind none false) seg exit conds depth], room)
    | .next j =>
      let r := go j none exit conds depth seg room
      (p.1 ++ r.1, r.2)
    | .gate g =>
      let r := s.walkGate go g seg exit conds depth room
      (p.1 ++ mkItem (.gate g) seg exit conds depth :: r.1, r.2)

/-- The walk into a segment other than the base segment (R81, R82): without room the branch ends HORIZON at the exit
before it; in stalled air it ends STALL_END at its entry. The first argument bounds the length of a path (R12). -/
def State.walkInto (s : State) : Nat → WalkOn
  | 0, _, _, _, _, _, _, room => ([], room)
  | n + 1, seg, via, b, conds, depth, prev, room =>
    if room = 0 then ([mkItem (.terminal .horizon none false) prev b conds depth], 0)
    else
      let head := mkItem (.entry via) seg b conds depth
      if s.segStalled seg then
        ([head, mkItem (.terminal .stallEnd none false) seg b conds depth], room - 1)
      else
        let r := s.walkSegment (s.walkInto n) seg (s.along seg b) s.segments[seg].points conds depth (room - 1)
        (head :: r.1, r.2)

/-- The walk on from anywhere: a committed path is at most 32 segments long (R12). -/
def State.walkOn (s : State) : WalkOn := s.walkInto (Config.routeRoom + 1)

/-! ## Whole walks (R80) -/

/-- The entry of a base segment. -/
def baseEntry (seg : SegId) : RouteItem := mkItem (.entry none) seg .base [] 0

/-- The points of a list behind a given one. -/
def pointsAfter (what : Placed) : List Point → List Point
  | [] => []
  | p :: ps => if p.what = what then ps else pointsAfter what ps

/-- Birth and correlation: from a detector's point (R80, R93); in stalled air the base segment alone (R81). -/
def State.walkFromDetector (s : State) (seg : SegId) (position : Nat) (d : ChanId) : List RouteItem :=
  if s.segStalled seg then [baseEntry seg]
  else
    baseEntry seg ::
      (s.walkSegment s.walkOn seg (fun q => s.along seg .base (q - position))
        (pointsAfter (.detector d) s.segments[seg].points) [] 0 (Config.routeRoom - 1)).1

/-- The bounds of stall recovery on the current segment: early 0, late measured from its entry (R97). -/
def State.recoveryBounds (s : State) (seg : SegId) (q : Nat) : Bounds :=
  Bounds.base.add 0 (latePiece s.limits.tol (s.velocity seg) q)

/-- Stall recovery: from anywhere on the current segment (R80, R97). -/
def State.walkFromStall (s : State) (seg : SegId) : List RouteItem :=
  baseEntry seg ::
    (s.walkSegment s.walkOn seg (s.recoveryBounds seg) s.segments[seg].points [] 0 (Config.routeRoom - 1)).1

/-! ## Markers (R83) -/

/-- One chain of conditions lies on the way to another. -/
def onTheWay (a b : List Cond) : Bool := a.isSuffixOf b

/-- The last unresolved STATION among earlier items on the path to an item. -/
def lastStation (before : List RouteItem) (conds : List Cond) : Option StationId :=
  before.foldl (fun m r =>
    match r.item with
    | .station x => if onTheWay r.conds conds then some x else m
    | _ => m) none

/-- The last-station markers of all the ends, the resolved ones too, set where a route has been built or re-planned (R83,
R92, log row 13). -/
def markAll : List RouteItem → List RouteItem → List RouteItem
  | _, [] => []
  | before, r :: rs =>
    let r' :=
      match r.item with
      | .terminal k _ resolved => { r with item := .terminal k (lastStation before r.conds) resolved }
      | _ => r
    r' :: markAll (before ++ [r']) rs

/-- A route with its markers set. -/
def marked (route : List RouteItem) : List RouteItem := markAll [] route

/-! ## Point sequence and plan (R83, R85) -/

/-- An item is a point of the route that has not resolved. -/
def RouteItem.isPoint (r : RouteItem) : Bool :=
  match r.item with
  | .entry _ => false
  | .terminal _ _ resolved => !resolved
  | _ => true

/-- The point sequence: the places in the route of the unresolved points, by early bound, ties in route order. -/
def pointSequence (route : List RouteItem) : List (Nat × RouteItem) :=
  sortAfter (fun p => p.2.early) ((route.zipIdx.map fun p => (p.2, p.1)).filter fun p => p.2.isPoint)

/-- The plan: the pending entries in sequence order, each with its place in the route. -/
def planOf (route : List RouteItem) : List (Nat × RouteItem) := (pointSequence route).filter fun p => p.2.joined

/-- The current segment of a route: its last unconditional entry that is due (R84). -/
def currentOf (route : List RouteItem) (base now : Tick) : Option SegId :=
  (route.filter fun r => r.item.isEntry && r.conds.isEmpty && decide (base + r.early ≤ now)).getLast?.map
    fun r => r.seg

end Sys2Proof.Machine
end

