-- ==== Sys2Proof/Machine/Tracks.lean ====
section
/-! DEFINITION. What happens to one track (04, 05): membership, served entries, joining, resolution, escape, stalls,
re-plans, settlement and retirement. -/
namespace Sys2Proof.Machine

/-! ## Membership and escape -/

/-- What a track counts as (R75). -/
def State.membershipOf (s : State) (t : Track) : Option Membership :=
  match t.state with
  | .flight => some (.live (s.zoneOfTrack t))
  | .stalled => some (.live (s.zoneOfTrack t))
  | .escaped => some (.escaped (s.zoneOfTrack t))
  | .spent => none

/-- Deliver a track's membership where the pair has changed (R75). -/
def Work.syncMember (w : Work) (i : SlotId) : Work :=
  match w.st.track? i with
  | none => w
  | some t =>
    let new := w.st.membershipOf t
    if new = t.member then w
    else (w.mod fun s => s.updTrack i fun t => { t with member := new }).memberMove t.member new

/-- A track in FLIGHT or STALLED becomes ESCAPED (R68). -/
def Work.escapeTrack (w : Work) (i : SlotId) (r : EscapeReason) : Work :=
  match w.st.track? i with
  | none => w
  | some t =>
    if t.state = .flight ∨ t.state = .stalled then
      let w := w.mod fun s =>
        (s.updTrack i fun t => { t with state := .escaped, escapeReason := some r }).raise .escaped
      let w := w.syncMember i
      if t.injected then w else w.push (.escape (w.st.handleOf i) (w.st.lineOfTrack t))
    else w

/-! ## Served entries (R87, R102, R103) -/

/-- The deadlines of the pending STATION entries for a station that hold its served entry for the track. -/
def Track.holders (t : Track) (x : StationId) : List Tick :=
  t.route.filterMap fun r =>
    if r.joined && r.holds && r.item == .station x then some (t.base + r.early) else none

/-- One served entry of a track as its holders leave it: without a holder it is withdrawn, unless it is open or a plan entry
that held it has resolved; with holders its deadline is the earliest of theirs (R89, R92, R102, log row 38). -/
def Served.held (e : Served) (holders : List Tick) : Option Served :=
  match leastOf holders with
  | none => if e.active || e.resolved then some e else none
  | some d => some (if e.deadline = d then e else { e with deadline := d, noted := false })

/-- A served list after one track's holders have changed. -/
def servedAfter (h : Handle) (holders : List Tick) (l : List Served) : List Served :=
  l.filterMap fun e => if e.handle = h then e.held holders else some e

/-- Served lists revised; a station whose list changes is judged (R103). -/
def Work.reviseServed (w : Work) (f : StationId → List Served → List Served) : Work :=
  (List.finRange 24).foldl (fun w x =>
    let after := f x w.st.stations[x].served
    if after = w.st.stations[x].served then w
    else (w.mod fun s => s.updStation x fun q => { q with served := after }).push (.station x)) w

/-- The served lists follow a track's pending entries (R102, R103). -/
def Work.refreshServed (w : Work) (i : SlotId) : Work :=
  match w.st.track? i with
  | none => w
  | some t => w.reviseServed fun x => servedAfter (w.st.handleOf i) (t.holders x)

/-- Every served entry of a track whose window has not opened is withdrawn (R61). -/
def Work.withdrawUnopened (w : Work) (i : SlotId) : Work :=
  w.reviseServed fun _ l => l.filter fun e => e.handle != w.st.handleOf i || e.active

/-- A served list after a plan entry that held a track's entry has resolved: the entry stays (R89, R102). -/
def servedOutlives (h : Handle) (l : List Served) : List Served :=
  l.map fun e => if e.handle = h then { e with resolved := true } else e

/-- A route item of a track changed at its place. -/
def State.updItem (s : State) (i : SlotId) (k : Nat) (f : RouteItem → RouteItem) : State :=
  s.updTrack i fun t => { t with route := t.route.modify k f }

/-- A station's list has no served entry for a track: whichever plan entry of the track held one holds none now (R102). -/
def State.letGo (s : State) (i : SlotId) (x : StationId) : State :=
  s.updTrack i fun t =>
    { t with route := t.route.map fun r => if r.item = .station x then { r with holds := false } else r }

/-- A route item removed. -/
def State.dropItem (s : State) (i : SlotId) (k : Nat) : State :=
  s.updTrack i fun t => { t with route := t.route.eraseIdx k }

/-- The hold of a station for a class (R87). -/
def Station.holdFor (x : Station) : Glow → Nat
  | .spark => x.holdSpark
  | .ember => x.holdEmber

/-- A served list in which an entry is taken over or shared: its close and deadline are replaced, and one whose close
has passed leaves (R87, R103). -/
def servedMoved (h : Handle) (now closes deadline : Tick) (resolved : Bool) (l : List Served) : List Served :=
  l.filterMap fun e =>
    if e.handle = h then
      if closes < now then none
      else some { e with closes := closes, deadline := deadline, noted := false, resolved := resolved }
    else some e

/-- A STATION entry, at its joining, gives its track a window at the station (R87). It holds the served entry it makes, takes
over or shares, unless that one leaves the list at once (R87, R102). -/
def Work.handOver (w : Work) (i : SlotId) (k : Nat) (x : StationId) : Work :=
  match w.st.track? i, (w.st.track? i).bind fun t => t.route[k]? with
  | some t, some r =>
    let now := w.st.now
    let q := w.st.stations[x]
    let h := w.st.handleOf i
    let early := t.base + r.early
    let lateStart := decide (early < now + q.lead)
    let opens := if lateStart then now else early - q.lead
    let closes := t.base + r.late + q.holdFor t.glow
    let w := if lateStart then w.mod fun s => s.updItem i k fun r => { r with lateStart := true } else w
    let listed (w : Work) (l : List Served) : Work :=
      (w.mod fun s => s.updStation x fun q => { q with served := l }).push (.station x)
    let holding (w : Work) : Work := w.mod fun s => s.updItem i k fun r => { r with holds := true }
    match q.served.find? fun e => e.handle == h with
    | some e =>
      let others : Track := { t with route := t.route.eraseIdx k }
      if (others.holders x).isEmpty then
        let w := listed w (servedMoved h now closes early false q.served)
        if closes < now then w else holding w
      else holding (listed w (servedMoved h 0 (max e.closes closes) (min e.deadline early) e.resolved q.served))
    | none =>
      if Config.servedRoom ≤ q.served.length then w.mod fun s => s.updItem i k fun r => { r with unserved := true }
      else if closes ≤ opens then w
      else
        holding (listed (w.mod fun s => s.letGo i x) (insertAfter Served.opens
          { handle := h, opens := opens, closes := closes, deadline := early, active := decide (opens ≤ now),
            noted := false, resolved := false } q.served))
  | _, _ => w

/-! ## Resolution (R65, R66, R88 to R91) -/

/-- An end calls for escape when an uncovered track reaches it (R66). -/
def EndOf.calls : EndOf → Bool
  | .safeEnd => false
  | _ => true

/-- The ends whose marker is a station entry under some conditions call for escape (R66, R83). -/
def markedCalls (route : List RouteItem) (x : StationId) (conds : List Cond) : Bool :=
  route.any fun r =>
    match r.item with
    | .terminal kind (some m) _ => m == x && onTheWay conds r.conds && kind.calls
    | _ => false

/-- A track after a coverage outcome: COVERED, or UNCOVERED with its reason (R65). -/
def Track.outcome (t : Track) : Option Uncovered → Track
  | none => { t with covered := true, stationsCovered := bump 255 t.stationsCovered }
  | some r => { t with stationsUncovered := bump 255 t.stationsUncovered, lastUncovered := some r }

/-- A STATION entry resolves, and the served entry it holds stays to its close; a marker that resolves on an uncovered FLIGHT track
decides its escape (R65, R66, R89). -/
def Work.resolveStation (w : Work) (i : SlotId) (k : Nat) (x : StationId) (reason : Option Uncovered) : Work :=
  match (w.st.track? i).bind fun t => t.route[k]? with
  | none => w
  | some r =>
    let w := if !r.holds then w else w.mod fun s =>
      s.updStation x fun q => { q with served := servedOutlives (s.handleOf i) q.served }
    let w := (w.mod fun s => (s.dropItem i k).updTrack i fun t => t.outcome reason).refreshServed i
    match w.st.track? i with
    | none => w
    | some t =>
      if t.state = .flight ∧ t.covered = false ∧ markedCalls t.route x r.conds = true then
        w.escapeTrack i .uncovered
      else w

/-- What the early-bound test finds at a station: covering, or the reason of UNCOVERED (R88). -/
def Station.earlyTest (q : Station) (unserved : Bool) : Option Uncovered :=
  match q.state with
  | .releasing => none
  | .fault => some .fault
  | .locked => some .locked
  | _ => some (if unserved then .stationFull else .lateGrant)

/-- The early-bound test of a STATION entry (R88). -/
def Work.earlyBound (w : Work) (i : SlotId) (k : Nat) (x : StationId) : Work :=
  match (w.st.track? i).bind fun t => t.route[k]? with
  | none => w
  | some r =>
    match w.st.stations[x].earlyTest r.unserved with
    | none => w.mod fun s => s.updItem i k fun r => { r with covering := true }
    | some reason => w.resolveStation i k x (some reason)

/-- A route's ends have all resolved (R69). -/
def endsResolved (route : List RouteItem) : Bool :=
  (route.any fun r => match r.item with | .terminal _ _ _ => true | _ => false)
    && route.all fun r => match r.item with | .terminal _ _ resolved => resolved | _ => true

/-- The items a SPENT track keeps: its entries and its ends (R69, R83, log row 15). -/
def RouteItem.lasting (r : RouteItem) : Bool :=
  match r.item with
  | .entry _ => true
  | .terminal _ _ _ => true
  | _ => false

/-- A FLIGHT track whose last TERMINAL has resolved or been dropped becomes SPENT; it holds no pending entry and no recent
pass (R56, R69, R95, log rows 15 and 39). -/
def Work.spentCheck (w : Work) (i : SlotId) : Work :=
  match w.st.track? i with
  | none => w
  | some t =>
    if t.state = .flight ∧ endsResolved t.route = true then
      ((w.mod fun s => s.updTrack i fun t =>
        { t with state := .spent, route := t.route.filter RouteItem.lasting, passes := [],
                 lingerEnd := .until (s.now + s.limits.linger * Config.second) }).refreshServed i).syncMember i
    else w

/-- An unconditional STALL_END: it leaves the plan by the advance into its segment, never at its late bound (R64, log
row 37). -/
def RouteItem.endsInStall (r : RouteItem) : Bool :=
  match r.item with
  | .terminal .stallEnd _ _ => r.conds.isEmpty
  | _ => false

/-- A DETECTOR, GATE or TERMINAL entry resolves at its late bound (R90). -/
def Work.resolvePoint (w : Work) (i : SlotId) (k : Nat) : Work :=
  match w.st.track? i, (w.st.track? i).bind fun t => t.route[k]? with
  | some t, some r =>
    match r.item with
    | .detector d =>
      let blind := w.st.channels[d].state == .blind
      let pass : RecentPass :=
        { detector := d, opens := t.base + r.early, closes := t.base + r.late,
          leaves := max (t.base + r.late + Config.passTicks) w.st.now }
      w.mod fun s => (s.dropItem i k).updTrack i fun t =>
        { t with passes := t.passes ++ [pass], blindPass := t.blindPass || blind }
    | .gate _ => w.mod fun s => s.dropItem i k
    | .terminal kind marker _ =>
      w.mod fun s => s.updItem i k fun r => { r with item := .terminal kind marker true, joined := false }
    | _ => w
  | _, _ => w

/-! ## Joining and extension (R86) -/

/-- One point joins the plan: the hand-over of a STATION entry, then the tests already due (R86). -/
def Work.joinPoint (w : Work) (i : SlotId) (k : Nat) (r : RouteItem) (t : Track) : Work :=
  let now := w.st.now
  let earlyDue := decide (t.base + r.early ≤ now)
  let lateDue := decide (t.base + r.late ≤ now)
  let w := w.mod fun s => s.updItem i k fun r => { r with joined := true }
  match r.item with
  | .station x =>
    let w := w.handOver i k x
    if !earlyDue then w
    else if w.st.stations[x].state = .releasing ∧ lateDue = true then
      (w.earlyBound i k x).resolveStation i k x none
    else w.earlyBound i k x
  | _ => if lateDue && !r.endsInStall then w.resolvePoint i k else w

/-- A track that holds pending entries: in FLIGHT or ESCAPED, and not stalled (R85). -/
def Track.plans (t : Track) : Bool := (t.state == .flight || t.state == .escaped) && t.stalledSince.isNone

/-- Points join as long as the plan has room, in sequence order, each followed by `after` (R85, R86). -/
def Work.fillUp (i : SlotId) (after : Work → Work) : Nat → Work → Work
  | 0, w => w
  | n + 1, w =>
    match w.st.track? i with
    | none => w
    | some t =>
      if !t.plans || decide (Config.planRoom ≤ (planOf t.route).length) then w
      else
        match (pointSequence t.route).find? fun p => !p.2.joined with
        | none => w
        | some p => Work.fillUp i after n (after (w.joinPoint i p.1 p.2 t))

/-- The plan refilled: every point joins at most once, so a route's length bounds the joinings. -/
def Work.refill (w : Work) (i : SlotId) (after : Work → Work) : Work :=
  match w.st.track? i with
  | none => w
  | some t => Work.fillUp i after t.route.length w

/-- The plan of a walk: what its ends make of the track is decided once the points have joined (R67, R86, log row 37). -/
def Work.fill (w : Work) (i : SlotId) : Work := w.refill i id

/-- Extension: a TERMINAL that resolves at its joining acts on the track at once (R69, R86). -/
def Work.extend (w : Work) (i : SlotId) : Work := w.refill i fun w => w.spentCheck i

/-! ## Walks taken up (R84, R67, R92) -/

/-- The current segment moves to where the route puts it at the present tick (R84). -/
def Work.placeTrack (w : Work) (i : SlotId) : Work :=
  match w.st.track? i with
  | none => w
  | some t =>
    match currentOf t.route t.base w.st.now with
    | none => w
    | some seg => (w.mod fun s => s.updTrack i fun t => { t with current := seg }).syncMember i

/-- The reason a planned route gives for escape at planning time; an end that resolved at its joining counts (R67, R83). -/
def planningReason (route : List RouteItem) : Option EscapeReason :=
  route.findSome? fun r =>
    match r.item with
    | .terminal .protectedEnd none _ => some .noStation
    | .terminal .horizon none _ => some .horizon
    | _ => none

/-- The planning-time decision on an uncovered FLIGHT track (R67). -/
def Work.planningEscape (w : Work) (i : SlotId) : Work :=
  match w.st.track? i with
  | none => w
  | some t =>
    if t.state = .flight ∧ t.covered = false then
      match planningReason t.route with
      | some r => w.escapeTrack i r
      | none => w
    else w

/-- A new route is taken up: what it drops is withdrawn, the track is placed, the plan is filled, the escape decision
is taken, a track whose ends have all resolved is SPENT, and the Track Table looks at the segment the track has come to
(R67, R69, R84, R86, R92).
The order of the joinings, R67, R69 and the stall of R61 inside this one event is the model's choice: log row 37. -/
def Work.takeRoute (w : Work) (i : SlotId) (route : List RouteItem) : Work :=
  let w := (w.mod fun s => s.updTrack i fun t => { t with route := marked route }).refreshServed i
  ((((w.placeTrack i).fill i).planningEscape i).spentCheck i).push (.entered i)

/-! ## Stalls (R61, R63, R64, R97, R98) -/

/-- The one entry a stalled route is cut back to. -/
def cutBack (route : List RouteItem) (current : SegId) : List RouteItem :=
  match route.find? fun r => r.item.isEntry && r.seg == current && r.conds.isEmpty with
  | some r => [r]
  | none => [baseEntry current]

/-- A track enters a stall (R61). -/
def Work.enterStall (w : Work) (i : SlotId) : Work :=
  match w.st.track? i with
  | none => w
  | some t =>
    if t.plans then
      (w.mod fun s => s.updTrack i fun t =>
        { t with state := if t.state = .flight then .stalled else t.state, route := cutBack t.route t.current,
                 passes := [], stalledSince := some s.now }).withdrawUnopened i
    else w

/-- A stalled track's air returns: it is planned afresh from anywhere on its current segment (R63, R97). -/
def Work.recover (w : Work) (i : SlotId) : Work :=
  match w.st.track? i with
  | none => w
  | some t =>
    if t.stalledSince.isSome then
      (w.mod fun s => s.updTrack i fun t =>
        { t with state := if t.state = .stalled then .flight else t.state, stalledSince := none, base := s.now }).takeRoute
        i (w.st.walkFromStall t.current)
    else w

/-- A route re-planned from the entry of a STALL_END segment: the terminal is replaced by what the walk finds (R98). -/
def State.replanStallEnd (s : State) (seg : SegId) (route : List RouteItem) : Option (List RouteItem) :=
  match route.findIdx? fun r => r.seg == seg && r.endsInStall with
  | none => none
  | some k =>
    match route[k]? with
    | none => none
    | some r =>
      let b : Bounds := { early := r.early, late := r.late, openEnd := r.openEnd }
      let tail := (s.walkSegment s.walkOn seg (s.along seg b) s.segments[seg].points r.conds r.depth
        (Config.routeRoom - entriesOf route)).1
      some (route.take k ++ tail ++ route.drop (k + 1))

/-- A track has come to its current segment: R61 where its air stands still, R64 where its route ended STALL_END there
and the air has returned. -/
def Work.entered (w : Work) (i : SlotId) : Work :=
  match w.st.track? i with
  | none => w
  | some t =>
    if !t.plans then w
    else if w.st.segStalled t.current then w.enterStall i
    else
      match w.st.replanStallEnd t.current t.route with
      | none => w
      | some route => w.takeRoute i route

/-- The current segment advances where the route says so, and the Track Table looks at the segment entered (R54, R61,
R64). A SPENT track's stays, but where its route is settled (R95, log row 47). -/
def Work.advance (w : Work) (i : SlotId) : Work :=
  match w.st.track? i with
  | none => w
  | some t =>
    if !t.plans || (currentOf t.route t.base w.st.now).all (fun seg => seg == t.current) then w
    else (w.placeTrack i).entered i

/-! ## Gates moving and settling (R94, R95) -/

/-- A route without what lies beyond its points for a gate. -/
def cutBeyond (g : GateId) (route : List RouteItem) : List RouteItem :=
  (route.foldl (fun (acc : List RouteItem × Option Nat) r =>
    let beyond := match acc.2 with
      | some d => decide (d < r.depth)
      | none => false
    if beyond then acc
    else (acc.1 ++ [r], if r.item = .gate g then some r.depth else none)) ([], none)).1

/-- A route re-planned from each of its unresolved points for a gate, both outlets walked anew (R94). -/
def State.replanGate (s : State) (g : GateId) (route : List RouteItem) : List RouteItem :=
  let kept := cutBeyond g route
  (kept.foldl (fun (acc : Walked) r =>
    if r.item = .gate g then
      let b : Bounds := { early := r.early, late := r.late, openEnd := r.openEnd }
      let beyond := s.walkBoth s.walkOn g r.seg b r.conds r.depth acc.2
      (acc.1 ++ r :: beyond.1, beyond.2)
    else (acc.1 ++ [r], acc.2)) ([], Config.routeRoom - entriesOf kept)).1

/-- Every track whose route reaches a gate at a point not yet passed is re-planned (R94). That they are taken by slot, where
several may compete for the last served place of a station, is the model's choice: log row 48. -/
def Work.gateMoved (w : Work) (g : GateId) : Work :=
  (List.finRange 48).foldl (fun w i =>
    match w.st.track? i with
    | none => w
    | some t =>
      if t.route.any fun r => r.item == .gate g then w.takeRoute i (w.st.replanGate g t.route) else w) w

/-- A route after a gate is confirmed: the losing branch is gone, the winning one loses the gate's condition (R95). -/
def settleRoute (g : GateId) (side : Side) (route : List RouteItem) : List RouteItem :=
  (route.filter fun r => r.conds.all fun c => c.gate != g || c.side == side).map fun r =>
    { r with conds := r.conds.filter fun c => c.gate != g }

/-- The advance of a settlement: a SPENT track is live, so its current segment advances too, and R61 and R64 are none of its
business (R51, R61, R95, log row 47). -/
def Work.advanceSettled (w : Work) (i : SlotId) : Work :=
  match w.st.track? i with
  | none => w
  | some t => if t.state = .spent then w.placeTrack i else w.advance i

/-- One track settled: it may come to a STALL_END segment, and only then is it looked at for SPENT (R95, R98). -/
def Work.settleTrack (w : Work) (g : GateId) (side : Side) (i : SlotId) : Work :=
  ((((w.mod fun s => s.updTrack i fun t => { t with route := settleRoute g side t.route }).refreshServed i).extend
    i).advanceSettled i).spentCheck i

/-- Every track whose route forks at a gate is settled (R95), by slot: the model's choice, log row 48. -/
def Work.settle (w : Work) (g : GateId) (side : Side) : Work :=
  (List.finRange 48).foldl (fun w i =>
    match w.st.track? i with
    | none => w
    | some t =>
      if t.route.any fun r => r.conds.any fun c => c.gate == g then w.settleTrack g side i else w) w

/-- A route crosses a gate: an entry entered through it, or an unresolved point for it (R130, R136). -/
def crosses (g : GateId) (route : List RouteItem) : Bool :=
  route.any fun r =>
    match r.item with
    | .entry (some c) => c.gate == g
    | .gate k => k == g
    | _ => false

/-! ## What a station does to plan entries (R89, R91) -/

/-- The place of a track's pending entry for a station that meets a condition. -/
def Track.entryAt (t : Track) (x : StationId) (p : RouteItem → Bool) : Option Nat :=
  t.route.findIdx? fun r => r.joined && r.item == .station x && p r

/-- Every pending entry of a track for a station that meets a condition resolves UNCOVERED; the bound is the plan's. -/
def Work.resolveAll (x : StationId) (p : RouteItem → Bool) (reason : Uncovered) (i : SlotId) : Nat → Work → Work
  | 0, w => w
  | n + 1, w =>
    match (w.st.track? i).bind fun t => t.entryAt x p with
    | none => w
    | some k => Work.resolveAll x p reason i n (w.resolveStation i k x (some reason))

/-- The pending entries of a track for a station resolve, and the plan is refilled (R86, R89, R91). -/
def Work.stopEntries (w : Work) (x : StationId) (p : RouteItem → Bool) (reason : Uncovered) (i : SlotId) : Work :=
  match (w.st.track? i).bind fun t => t.entryAt x p with
  | none => w
  | some _ => (Work.resolveAll x p reason i Config.planRoom w).extend i

/-- A station stops releasing: its COVERING entries resolve UNCOVERED (R89), by slot: the model's choice, log row 48. -/
def Work.stopCovering (w : Work) (x : StationId) (reason : Uncovered) : Work :=
  (List.finRange 48).foldl (fun w i => w.stopEntries x (fun r => r.covering) reason i) w

/-! ## Retirement (R71) -/

/-- A served list without a track's entries. -/
def servedWithout (h : Handle) (l : List Served) : List Served := l.filter fun e => e.handle != h

/-- A live track is removed from its slot (R71, R136). -/
def Work.retire (w : Work) (i : SlotId) : Work :=
  match w.st.track? i with
  | none => w
  | some t =>
    let h := w.st.handleOf i
    let w := w.mod fun s =>
      { s with slots := updAt s.slots i fun q => { gen := q.gen + 1, track := none },
               gates := s.gates.map fun g => { g with diversions := g.diversions.filter fun d => d != h } }
    let w := (List.finRange 24).foldl (fun w x =>
      if w.st.stations[x].served.any fun e => e.handle == h then
        (w.mod fun s => s.updStation x fun q => { q with served := servedWithout h q.served }).push (.station x)
      else w) w
    match t.member with
    | none => w
    | some m => w.memberMove (some m) none

end Sys2Proof.Machine
end

