-- ==== Sys2Proof/Machine/Lines.lean ====
section
/-! DEFINITION. The Line Controller's shared operations (07): gates at runtime, diversion, bursts, shutdown, starts. -/
namespace Sys2Proof.Machine

/-! ## Gates (R126 to R131) -/

/-- The travel timeout of a gate: twice its stroke time (R6). -/
def Gate.timeout (g : Gate) : Nat := 2 * g.stroke * Config.tenth

/-- The levels that confirm a gate in ABORT, and in NORMAL (R127). -/
def Gate.pairAbort (g : Gate) : Bool := g.abortLimit && !g.normalLimit
def Gate.pairNormal (g : Gate) : Bool := g.normalLimit && !g.abortLimit

/-- The confirming limit of a settled gate is open (R128). -/
def Gate.limitLost (g : Gate) : Bool :=
  match g.state with
  | .normal => !g.normalLimit
  | .abort => !g.abortLimit
  | _ => false

/-- A gate changes into a travelling state; its timer runs in GUARD only (R126, R129). -/
def Work.travelGate (w : Work) (g : GateId) (state : GateState) : Work :=
  ((w.mod fun s => s.updGate g fun q =>
    { q with state := state, stateChanged := some s.now,
             timer := if s.mode = .guarded then some (s.now + q.timeout) else none }).push (.gateMoved g)).push
    (.gateCheck g)

/-- A request to ABORT acts on a gate in NORMAL or TO_NORMAL (R126). -/
def Work.driveAbort (w : Work) (g : GateId) : Work :=
  match w.st.gates[g].state with
  | .normal | .toNormal => w.travelGate g .toAbort
  | _ => w

/-- The listed tracks that are live and whose routes cross the gate are marked DIVERTED (R136). -/
def State.markDiverted (s : State) (g : GateId) (listed : List Handle) : State :=
  listed.foldl (fun s h =>
    if s.handleLive h then
      s.updTrack h.slot fun t => if crosses g t.route then { t with diverted := true } else t
    else s) s

/-- A gate is confirmed (R127): it settles, its tracks are settled, its diversion list is served. -/
def Work.confirmGate (w : Work) (g : GateId) (side : Side) : Work :=
  let w := w.mod fun s =>
    (s.updGate g fun q =>
      { q with state := (match side with | .normal => .normal | .abort => .abort), timer := none,
               stateChanged := some s.now }).raise .gate
  let w := w.settle g side
  match side with
  | .normal => w
  | .abort => w.mod fun s =>
      (s.markDiverted g s.gates[g].diversions).updGate g fun q => { q with diversions := [] }

/-- A travelling gate whose limits stand as its travel asks for is confirmed (R127, R129). -/
def Work.checkGate (w : Work) (g : GateId) : Work :=
  let q := w.st.gates[g]
  if !q.inUse then w
  else
    match q.state with
    | .toAbort => if q.pairAbort then w.confirmGate g .abort else w
    | .toNormal => if q.pairNormal then w.confirmGate g .normal else w
    | _ => w

/-! ## The start queue (R142, R143) -/

/-- The entries of the start list within the last 60 s (R142). -/
def State.recentStarts (s : State) : List Tick := s.startList.filter fun t => decide (s.now - t < Config.startTicks)

/-- A line enters a state, which raises LINE where it is another one (R134). -/
def State.lineTo (s : State) (l : LineId) (f : Line → Line) : State :=
  let t := s.updLine l f
  if t.lines[l].state = s.lines[l].state then t else t.raise .line

/-- A line becomes RUNNING (R143). -/
def Line.run (l : Line) : Line := { l with state := .running, runUpEnd := none }

/-- A STARTING line whose fans all show feedback becomes RUNNING (R143). -/
def State.checkRunning (s : State) (l : LineId) : State :=
  if s.lines[l].state = .starting ∧ s.fansRunning l = true then s.lineTo l Line.run else s

/-- The head of the start queue starts (R142, R143). -/
def State.startLine (s : State) (l : LineId) : State :=
  let s := { s with startQueue := s.startQueue.erase l, startList := s.recentStarts ++ [s.now] }
  (s.lineTo l fun q =>
    { q with state := .starting, runUpEnd := some (s.now + q.runUp * Config.second) }).checkRunning l

/-- Heads start as long as the budget allows (R142); the first argument bounds the queue's length. -/
def State.startHeads : Nat → State → State
  | 0, s => s
  | n + 1, s =>
    match s.startQueue with
    | [] => s
    | l :: _ => if s.recentStarts.length < s.limits.budget then State.startHeads n (s.startLine l) else s

/-- The start queue tested (R142). -/
def State.testStarts (s : State) : State := s.startHeads s.startQueue.length

/-! ## Shutdown (R139, R140) -/

/-- The gates of a line with abort-on-shutdown set are driven to ABORT (R139). That they are taken by number, and their
re-plans and checks in the same order, is the model's choice: log row 54. -/
def Work.driveLineGates (w : Work) (l : LineId) : Work :=
  (List.finRange 8).foldl (fun w g =>
    let q := w.st.gates[g]
    if q.inUse && q.onShutdown && w.st.lineOfGate g == l then w.driveAbort g else w) w

/-- A line becomes STOPPED with its fans off (R140). -/
def Line.halt (l : Line) : Line := { l with state := .stopped, runDownEnd := none, runUpEnd := none }

/-- A STARTING or RUNNING line runs down, ending at once for FIRE or without a run-down (R139). That the run-up end of a
STARTING line becomes absent is the model's reading, log row 52. -/
def Line.coast (l : Line) (cause : StopCause) (now : Tick) : Line :=
  let l := { l with cause := cause, state := .stopping, runUpEnd := none,
                    runDownEnd := some (now + l.runDown * Config.second) }
  if cause = .fire ∨ l.runDown = 0 then l.halt else l

/-- A cause reaching a STOPPING or STOPPED line: FIRE becomes its cause and stops its fans (R139, R140). -/
def Line.coldCause (l : Line) (cause : StopCause) : Line :=
  if cause = .fire then { l with cause := .fire }.halt else l

/-- A shutdown cause acts by the state of a line in use (R138, R139). -/
def Work.shutdown (w : Work) (l : LineId) (cause : StopCause) : Work :=
  if !w.st.lines[l].inUse then w
  else
    match w.st.lines[l].state with
    | .running | .starting => (w.mod fun s => s.lineTo l fun q => q.coast cause s.now).driveLineGates l
    | .startWait =>
      let wasHead := w.st.startQueue.head? == some l
      let w := (w.mod fun s =>
        { s with startQueue := s.startQueue.erase l }.lineTo l fun q => { q with cause := cause }.halt).driveLineGates l
      if wasHead && w.st.mode == .guarded then w.mod State.testStarts else w
    | _ => w.mod fun s => s.lineTo l fun q => q.coldCause cause

/-- A gate enters FAULT (R128): its list is emptied, its tracks are re-planned, its line gets GATE_FAULT. -/
def Work.faultGate (w : Work) (g : GateId) (reason : GateFault) : Work :=
  let w := w.mod fun s =>
    (s.updGate g fun q =>
      { q with state := .fault, timer := none, faultReason := some reason, diversions := [],
               stateChanged := some s.now }).raise .gate
  (w.push (.gateMoved g)).shutdown (w.st.lineOfGate g) .gateFault

/-! ## Diversion (R135) -/

/-- A GATE point serves to divert: its gate is of the line, the earliest arrival lies beyond the stroke, and the gate
can still be moved (R135). -/
def State.divertsAt (s : State) (t : Track) (l : LineId) (r : RouteItem) : Option GateId :=
  match r.item with
  | .gate g =>
    let q := s.gates[g]
    if s.lineOfGate g = l ∧ s.now + q.stroke * Config.tenth < t.base + r.early ∧ q.state ≠ .abort ∧ q.state ≠ .fault
    then some g else none
  | _ => none

/-- The diversion gate of an escaped track: the first of its GATE points that serves (R135). -/
def State.diversionGate (s : State) (t : Track) (l : LineId) : Option GateId :=
  (pointSequence t.route).findSome? fun p => s.divertsAt t l p.2

/-- An escape is handed to the Line Controller: a gate is driven for the track, or the line is shut down (R135). -/
def Work.escaped (w : Work) (h : Handle) (l : LineId) : Work :=
  match w.st.slots[h.slot].track with
  | none => w
  | some t =>
    match w.st.diversionGate t l with
    | some g =>
      (w.mod fun s => s.updGate g fun q =>
        { q with diversions := if q.diversions.contains h then q.diversions else q.diversions ++ [h] }).driveAbort g
    | none => w.shutdown l .escape

/-! ## Bursts (R137) -/

/-- A burst list with one more birth tick, in tick order; a full list loses its oldest entry first (R137). -/
def Line.addBirth (l : Line) (t : Tick) : Line :=
  let kept := if l.burstCount ≤ l.burst.length then l.burst.tail else l.burst
  { l with burst := insertAfter id t kept }

/-- A burst: the list is full, and its span is within the window (R137). -/
def Line.isBurst (l : Line) : Bool :=
  decide (l.burst.length = l.burstCount) &&
    match l.burst.head?, l.burst.getLast? with
    | some first, some last => decide (last - first ≤ l.burstWindow * Config.tenth)
    | _, _ => false

/-- A birth is handed to its line, and a burst is declared where it completes one (R137). -/
def Work.lineBirth (w : Work) (l : LineId) (t : Tick) : Work :=
  if !w.st.lines[l].inUse then w
  else
    let w := w.mod fun s => s.updLine l fun q => q.addBirth t
    if w.st.lines[l].isBurst then
      let w := (List.finRange 16).foldl (fun w z => if inSet w.st.lines[l].zones z.val then w.arriveBurst z else w) w
      (w.mod fun s => s.updLine l fun q => { q with burst := [] }).shutdown l .burst
    else w

/-! ## A zone's level reaches the lines (R138, R156) -/

/-- A change to FIRE shuts down every line whose zone set holds the zone. Where several lines see the one change, that they are
taken by number, and the start queue is judged after each (R142), is the model's choice: log row 49. -/
def Work.linesSee (w : Work) (z : ZoneId) (new : Level) : Work :=
  if new = .fire then
    (List.finRange 8).foldl (fun w l => if inSet w.st.lines[l].zones z.val then w.shutdown l .fire else w) w
  else w

/-! ## Births and correlation (R56 to R60) -/

/-- The age of a track: births since its own (R52). -/
def State.ageOf (s : State) (t : Track) : Nat := (s.nextSeq - t.seq).toNat

/-- The oldest of the slots whose tracks meet a condition. -/
def State.oldest (s : State) (p : Track → Bool) : Option SlotId :=
  let older (best : Option (SlotId × Nat)) (i : SlotId) : Option (SlotId × Nat) :=
    match s.track? i with
    | none => best
    | some t =>
      if !p t then best
      else
        match best with
        | none => some (i, s.ageOf t)
        | some b => if b.2 < s.ageOf t then some (i, s.ageOf t) else best
  ((List.finRange 48).foldl older none).map fun b => b.1

/-- A track is a candidate for an event at a detector and time (R56). -/
def Track.candidate (t : Track) (d : ChanId) (time : Tick) : Bool :=
  (t.state == .flight || t.state == .escaped) && !t.injected &&
    ((t.route.any fun r => r.joined && r.item == .detector d && decide (t.base + r.early ≤ time)
        && decide (time ≤ t.base + r.late))
      || t.passes.any fun p => p.detector == d && decide (p.opens ≤ time) && decide (time ≤ p.closes))

/-- The event confirms a track, which is re-planned from the detector (R57, R93). -/
def Work.correlate (w : Work) (i : SlotId) (d : ChanId) (glow : Glow) (intensity : Byte) (time : Tick) : Work :=
  match w.st.placeOf (.detector d) with
  | none => w
  | some (seg, position) =>
    (w.mod fun s => s.updTrack i fun t =>
      { t with glow := glow, intensity := intensity, survived := if t.covered then bump 15 t.survived else t.survived,
               covered := false, passes := [], base := time, current := seg }).takeRoute i
      (w.st.walkFromDetector seg position d)

/-- The slot a birth takes: the lowest free one, or the oldest SPENT track's without HOLD, reclaimed (R58). -/
def Work.findSlot (w : Work) : Work × Option SlotId :=
  match (List.finRange 48).find? fun i => (w.st.track? i).isNone with
  | some i => (w, some i)
  | none =>
    match w.st.oldest fun t => t.state == .spent && !t.hold with
    | some i => (w.retire i, some i)
    | none => (w, none)

/-- A track at its birth (R59). -/
def State.newborn (s : State) (seg : SegId) (d : ChanId) (glow : Glow) (intensity : Byte) (time : Tick)
    (injected : Bool) : Track :=
  { seq := s.nextSeq, birthTick := time, origin := d, glow := glow, intensity := intensity, state := .flight,
    current := seg, base := time, route := [], passes := [], covered := false, survived := 0, stationsCovered := 0,
    stationsUncovered := 0, lastUncovered := none, injected := injected, diverted := false, hold := false,
    blindPass := false, note := none, escapeReason := none, stalledSince := none, lingerEnd := .absent, member := none }

/-- A birth from a placed detector, with the slot taken, if one is found (R58, R59). Where the newborn escapes at planning
time and its birth completes a burst, the burst's shutdown comes before the escape is acted on: the model's choice, log
row 41. -/
def Work.birth (w : Work) (seg : SegId) (position : Nat) (d : ChanId) (glow : Glow) (intensity : Byte) (time : Tick)
    (injected : Bool) : Work × Option SlotId :=
  match w.findSlot with
  | (w, none) => (w, none)
  | (w, some i) =>
    let born := w.st.newborn seg d glow intensity time injected
    let w := w.mod fun s =>
      { s with slots := updAt s.slots i fun q => { q with track := some born }, nextSeq := s.nextSeq + 1 }
    let w := (w.takeRoute i (w.st.walkFromDetector seg position d)).mod fun s => s.raise .born
    -- the burst list that a birth on the detector's segment joins (R2)
    (if injected then w else w.lineBirth w.st.segments[seg].line time, some i)

/-- A birth that finds no slot: the cause TABLE_FULL in the zone and on the line, and the notice (R60). -/
def Work.tableFull (w : Work) (seg : SegId) : Work :=
  let g := w.st.segments[seg]
  ((w.arriveTableFull g.zone).shutdown g.line .tableFull).mod fun s => s.raise .tableFull

/-- A qualified event reaches the Track Table: the oldest candidate takes it, or a track is born (R56, R58, R60). -/
def Work.qualified (w : Work) (d : ChanId) (glow : Glow) (intensity : Byte) (time : Tick) : Work :=
  match w.st.oldest fun t => t.candidate d time with
  | some i => w.correlate i d glow intensity time
  | none =>
    match w.st.placeOf (.detector d) with
    | none => w
    | some (seg, position) =>
      match w.birth seg position d glow intensity time false with
      | (w, some _) => w
      | (w, none) => w.tableFull seg

end Sys2Proof.Machine
end

