-- ==== Sys2Proof/Machine/Stations.lean ====
section
/-! DEFINITION. The Station Controller and the Pressure Arbiter (06): demand, grants, suspension, faults, purges. -/
namespace Sys2Proof.Machine

/-! ## Demand and keys (R104, R107, R108) -/

/-- Track demand: an ACTIVE served entry. -/
def Station.trackDemand (q : Station) : Bool := q.served.any fun e => e.active
/-- A keyed release or request: track or manual demand. -/
def Station.keyed (q : Station) : Bool := q.trackDemand || q.manual.isSome
/-- Any demand (R104). -/
def Station.demand (q : Station) : Bool := q.keyed || q.floodDemand

/-- The effective draw (R107). It is computed in every mode and for every station, in use or not: the model's choice, log
row 40. -/
def State.drawOf (s : State) (x : StationId) : Nat := min s.stations[x].draw s.limits.units

/-- The key classes in queue order (R108). -/
inductive KeyClass where
  | deadline | overdue | flood
  deriving DecidableEq, Repr

def KeyClass.rank : KeyClass → Nat
  | .deadline => 0 | .overdue => 1 | .flood => 2

/-- The least of the manual order's tick and the deadlines that have not passed (R108). -/
def Station.leastDeadline (q : Station) (now : Tick) : Option Tick :=
  leastOf ((q.manual.map fun m => m.orderTick).toList
    ++ (q.served.map fun e => e.deadline).filter fun d => decide (now ≤ d))

/-- The key class and key of a station as its demand stands (R108). -/
def Station.key (q : Station) (now : Tick) : KeyClass × Tick :=
  if q.keyed then
    match q.leastDeadline now with
    | some k => (.deadline, k)
    | none => (.overdue, q.requestTick.getD 0)
  else (.flood, q.requestTick.getD 0)

/-- A station waits in the arbiter's queue (R105, R110). -/
def Station.waits (q : Station) : Bool := q.state == .requesting || q.state == .suspended

/-- One station stands before another in the queue: by class, then key, then number (R108). -/
def State.before (s : State) (x y : StationId) : Bool :=
  let a := s.stations[x].key s.now
  let b := s.stations[y].key s.now
  if a.1.rank ≠ b.1.rank then decide (a.1.rank < b.1.rank)
  else if a.2 ≠ b.2 then decide (a.2 < b.2)
  else decide (x.val < y.val)

/-- The arbiter's queue, head first (R108). -/
def State.arbiterQueue (s : State) : List StationId :=
  ((List.finRange 24).filter fun x => s.stations[x].waits).foldl
    (fun acc x => acc.takeWhile (fun y => s.before y x) ++ x :: acc.dropWhile fun y => s.before y x) []

/-! ## Leaving RELEASING, and purges -/

/-- A station record that has left RELEASING (R106, R110, R114, R116, R119). -/
def Station.released (q : Station) (state : StationState) : Station :=
  { q with state := state, releaseStart := none, cutStart := none, confirm := .absent, minRunAt := none }

/-- A station leaves RELEASING: the valve closes and its draw returns to the supply (R107). -/
def State.returnUnits (s : State) (x : StationId) (state : StationState) : State :=
  { s.updStation x fun q => q.released state with freeUnits := s.freeUnits + s.drawOf x }

/-- A station that is IDLE without demand and owes a purge runs one (R122). -/
def State.startPurge (s : State) (x : StationId) : State :=
  let q := s.stations[x]
  if q.state = .idle ∧ q.demand = false ∧ 0 < q.debt then
    s.updStation x fun q =>
      { q with state := .purging, purgeEnd := some (s.now + q.purgeTime * Config.tenth) }
  else s

/-- The request of a station whose demand has arisen (R105). -/
def Station.request (q : Station) (now : Tick) : Station :=
  { q with state := .requesting, requestTick := some now, purgeEnd := none }

/-- The cut start of a RELEASING station follows its flood demand (R115). -/
def Station.keepCut (q : Station) (now : Tick) : Station :=
  { q with cutStart := if q.floodDemand then none else some (q.cutStart.getD now) }

/-- A station's demand is judged as it stands, by its state (R105, R106, R115, R122). -/
def Work.judgeStation (w : Work) (x : StationId) : Work :=
  if w.st.mode ≠ .guarded then w
  else
    let q := w.st.stations[x]
    let w :=
      match q.state, q.demand with
      | .idle, true => w.mod fun s => s.updStation x fun q => q.request s.now
      | .purging, true => w.mod fun s => s.updStation x fun q => q.request s.now
      | .idle, false => w.mod fun s => s.startPurge x
      | .requesting, false =>
        w.mod fun s => (s.updStation x fun q => { q with state := .idle, requestTick := none }).startPurge x
      | .suspended, false =>
        w.mod fun s => (s.updStation x fun q => { q with state := .idle, requestTick := none }).startPurge x
      | .releasing, true => w.mod fun s => s.updStation x fun q => q.keepCut s.now
      | .releasing, false => ((w.mod fun s => s.returnUnits x .idle).stopCovering x .lateGrant).mod fun s => s.startPurge x
      | _, _ => w
    w.push .arbiter

/-! ## Granting and suspension (R109 to R111) -/

/-- The minimum run of a flood release in ticks (R110). -/
def State.minRun (s : State) : Nat := s.limits.floodMin * Config.tenth

/-- A station is granted, or resumes (R109, R111, R113, R115). -/
def State.grant (s : State) (x : StationId) : State :=
  { s.updStation x fun q =>
      { q with state := .releasing, releaseStart := some s.now,
               confirm := if q.pressure then .confirmed else .waiting s.now,
               cutStart := if q.floodDemand then none else some s.now,
               minRunAt := some (s.now + s.minRun) } with
    freeUnits := s.freeUnits - s.drawOf x }

/-- A flood release that has run its minimum is eligible for suspension (R110). -/
def State.eligible (s : State) (x : StationId) : Bool :=
  let q := s.stations[x]
  q.state == .releasing && q.floodDemand && !q.keyed
    && match q.releaseStart with
      | some t => decide (t + s.minRun ≤ s.now)
      | none => false

/-- The eligible stations, earliest release start first, equal ones by number (R110). -/
def State.eligibleOrder (s : State) : List StationId :=
  sortAfter (fun x => s.stations[x].releaseStart.getD 0) ((List.finRange 24).filter s.eligible)

/-- One station is suspended and joins the queue (R110, R111). -/
def Work.suspendOne (w : Work) (x : StationId) : Work :=
  (w.mod fun s => (s.returnUnits x .suspended).updStation x fun q => { q with requestTick := some s.now }).stopCovering x
    .lateGrant

/-- Eligible stations are suspended until the free units reach a draw (R110). That they are the stations eligible before the
first suspension, one that gains an active served entry in the act included, is the model's choice: log row 55. -/
def Work.suspendFor (w : Work) (need : Nat) : Work :=
  let order := w.st.eligibleOrder
  let sum := order.foldl (fun n x => n + w.st.drawOf x) w.st.freeUnits
  if sum < need then w
  else order.foldl (fun w x => if w.st.freeUnits < need then w.suspendOne x else w) w

/-- The arbiter grants in queue order until a head does not fit (R109); the first argument bounds the grants. -/
def Work.grantHeads : Nat → Work → Work
  | 0, w => w
  | n + 1, w =>
    match w.st.arbiterQueue.head? with
    | none => w
    | some x =>
      let need := w.st.drawOf x
      let w :=
        if need ≤ w.st.freeUnits ∨ (w.st.stations[x].key w.st.now).1 = .flood then w else w.suspendFor need
      if need ≤ w.st.freeUnits then Work.grantHeads n (w.mod fun s => s.grant x) else w

/-- An event reaches the arbiter (R109). Every station can be granted twice in one event, and no more. -/
def Work.arbitrate (w : Work) : Work := if w.st.mode = .guarded then Work.grantHeads 64 w else w

/-! ## Faults and cuts (R114, R116) -/

/-- A station enters FAULT (R114). -/
def Work.faultStation (w : Work) (x : StationId) (reason : StationFault) : Work :=
  let w := w.mod fun s =>
    (s.returnUnits x .fault).updStation x fun q => { q with faultReason := some reason, manual := none }
  let w := w.stopCovering x .fault
  ((w.mod fun s => s.refreshPlaced .station (.station x)).mod fun s => s.raise .station).push .arbiter

/-- A due cut (R116): every served entry and the order are removed, and the entries they served resolve CUT, by slot (log
row 48). -/
def Work.cutStation (w : Work) (x : StationId) : Work :=
  let removed := w.st.stations[x].served.map fun e => e.handle
  let w := w.mod fun s => (s.returnUnits x .idle).updStation x fun q => { q with served := [], manual := none }
  let w := (List.finRange 48).foldl (fun w i =>
    let served := removed.contains (w.st.handleOf i)
    w.stopEntries x (fun r => r.covering || (served && r.holds)) .cut i) w
  (w.mod fun s => s.raise .station).push (.station x)

/-! ## A zone's level reaches the stations (R104, R156) -/

/-- A change to FIRE sets flood demand on the zone's flood stations in use, and a change from FIRE clears it. -/
def Work.stationsSee (w : Work) (z : ZoneId) (old new : Level) : Work :=
  if old = .fire ∨ new = .fire then
    (List.finRange 24).foldl (fun w x =>
      let q := w.st.stations[x]
      if q.inUse && q.flood && w.st.zoneOfPlaced (.station x) == some z then
        (w.mod fun s => s.updStation x fun q => { q with floodDemand := decide (new = .fire) }).push (.station x)
      else w) w
  else w

end Sys2Proof.Machine
end

