-- ==== Sys2Proof/Machine/Deliver.lean ====
section
/-! DEFINITION. One event worked through: what the blocks hand each other, until nothing is left to act on. -/
namespace Sys2Proof.Machine

/-! ## Deliveries acted on -/

/-- A delivery reaches the block it is for. -/
def Work.act (w : Work) : Delivery → Work
  | .station x => w.judgeStation x
  | .arbiter => w.arbitrate
  | .zoneLevel z old new =>
    let w := (w.linesSee z new).stationsSee z old new
    w.mod fun s => (s.shuttersSee z new).sirensSee z
  | .escape h l => w.escaped h l
  | .gateMoved g => w.gateMoved g
  | .gateCheck g => w.checkGate g
  | .entered i => w.entered i

/-- Deliveries are acted on in the order they were made, until none is left (log row 10). -/
def Work.run : Nat → Work → Work
  | 0, w => w
  | n + 1, w =>
    match w.out with
    | [] => w
    | d :: ds => Work.run n ({ w with out := ds }.act d)

/-- The state an event leaves once its deliveries have been acted on. -/
def Work.finish (w : Work) : State := (Work.run Config.deliveryFuel w).st

/-- An event that only happens when its condition holds; nothing runs while the RESET line is low (R195).
A command whose event is not due, or does not apply, changes nothing (log row 2). -/
def State.event (s : State) (due : Bool) (f : State → Work) : State :=
  if !s.resetLow && due then (f s).finish else s

end Sys2Proof.Machine
end

