-- ==== Sys2Proof/Machine/Detectors.lean ====
section
/-! DEFINITION. The Detector Front End (02): the receiver, code bytes, frames, BLIND, survey and supervision. -/
namespace Sys2Proof.Machine

/-! ## Framing codes and code bytes (R19 to R22) -/

/-- The number whose bits were received in this order, the first its least significant bit (R20, R21). -/
def bitsValue : List Bool → Nat
  | [] => 0
  | b :: bs => b.toNat + 2 * bitsValue bs

/-- A byte from its bits in the order received. -/
def bitsByte (bits : List Bool) : Byte := BitVec.ofNat 8 (bitsValue bits)

/-- A window matches a framing code exactly, or with the tolerant flag in all but one bit at most (R20). -/
def matchesCode (tolerant : Bool) (window code : Byte) : Bool :=
  decide (onesIn (window ^^^ code) ≤ if tolerant then 1 else 0)

/-- The class that a window settles, if it matches a code (R20). -/
def Limits.glowOf (l : Limits) (tolerant : Bool) (window : Byte) : Option Glow :=
  if matchesCode tolerant window l.sparkCode then some .spark
  else if matchesCode tolerant window l.emberCode then some .ember
  else none

/-- The data nibble of a code byte: d1 to d4 in c2, c4, c5 and c6 (R21). -/
def codeData (c : Byte) : Nat :=
  8 * (c.getLsbD 2).toNat + 4 * (c.getLsbD 4).toNat + 2 * (c.getLsbD 5).toNat + (c.getLsbD 6).toNat

/-- The syndrome of a code byte (R21). -/
def codeSyndrome (c : Byte) : Nat :=
  let s1 := (c.getLsbD 0 ^^ c.getLsbD 2) ^^ (c.getLsbD 4 ^^ c.getLsbD 6)
  let s2 := (c.getLsbD 1 ^^ c.getLsbD 2) ^^ (c.getLsbD 5 ^^ c.getLsbD 6)
  let s3 := (c.getLsbD 3 ^^ c.getLsbD 4) ^^ (c.getLsbD 5 ^^ c.getLsbD 6)
  s1.toNat + 2 * s2.toNat + 4 * s3.toNat

/-- The nibble a code byte delivers, if it is not uncorrectable (R21). -/
def decodeCode (c : Byte) : Option Nat :=
  let syndrome := codeSyndrome c
  let good := onesIn c % 2 == 0
  if syndrome = 0 then some (codeData c)
  else if good then none
  else some (codeData (c ^^^ (1#8 <<< (syndrome - 1))))

/-- The code byte a head sends for a nibble (R21). -/
def encodeCode (nibble : BitVec 4) : Byte :=
  let d1 := nibble.getLsbD 3
  let d2 := nibble.getLsbD 2
  let d3 := nibble.getLsbD 1
  let d4 := nibble.getLsbD 0
  let p1 := (d1 ^^ d2) ^^ d4
  let p2 := (d1 ^^ d3) ^^ d4
  let p3 := (d2 ^^ d3) ^^ d4
  let p0 := ((p1 ^^ p2) ^^ (d1 ^^ p3)) ^^ ((d2 ^^ d3) ^^ d4)
  bitsByte [p1, p2, d1, p3, d2, d3, d4, p0]

/-- The kinds of frame (R22). -/
inductive FrameKind where
  | event | testEcho | headFault
  deriving DecidableEq, Repr

/-- A decoded frame of valid kind (R22). -/
structure Frame where
  kind : FrameKind
  intensity : Nat
  sequence : Nat
  deriving DecidableEq, Repr

/-- The kind that nibble 1 gives (R22). -/
def kindOf : Nat → Option FrameKind
  | 0 => some .event
  | 1 => some .testEcho
  | 2 => some .headFault
  | _ => none

/-- The frame that 32 code-byte bits give, unless a byte is uncorrectable or the kind is invalid (R22). -/
def frameOf (bits : List Bool) : Option Frame := do
  let n1 ← decodeCode (bitsByte (bits.take 8))
  let n2 ← decodeCode (bitsByte ((bits.drop 8).take 8))
  let n3 ← decodeCode (bitsByte ((bits.drop 16).take 8))
  let n4 ← decodeCode (bitsByte ((bits.drop 24).take 8))
  let kind ← kindOf n1
  return { kind := kind, intensity := 16 * n2 + n3, sequence := n4 }

/-! ## Judging a frame (R23, R25 to R30) -/

/-- The flags of a latch (2.3). -/
inductive LatchFlag where
  | spark | ember | glint | foreign | frameErr | echo | headFault
  deriving DecidableEq, Repr

def LatchFlag.bit : LatchFlag → Nat
  | .spark => 0 | .ember => 1 | .glint => 2 | .foreign => 3 | .frameErr => 4 | .echo => 5 | .headFault => 6

/-- A flag set in the holding latch (R31). -/
def Channel.latchFlag (d : Channel) (f : LatchFlag) : Channel := { d with latch := d.latch ||| (1#7 <<< f.bit) }

/-- A channel type takes a class (R23). -/
def ChanType.takes : ChanType → Glow → Bool
  | .dual, _ => true
  | .spark, .spark => true
  | .ember, .ember => true
  | _, _ => false

/-- A channel moves between IN_SERVICE and BLIND: CHANNEL is raised and the zone's DETECTOR flag follows (R30). -/
def State.channelTo (s : State) (d : ChanId) (state : ChanState) : State :=
  if s.channels[d].state = state then s
  else
    ((s.updChannel d fun q => { q with state := state }).raise .channel).refreshPlaced .detector (.detector d)

/-- A frame error latches and counts, and at 8 puts an IN_SERVICE channel into BLIND (R25). -/
def State.frameError (s : State) (d : ChanId) : State :=
  let s := s.updChannel d fun q => { q.latchFlag .frameErr with errors := bump 255 q.errors }
  if 8 ≤ s.channels[d].errors then s.channelTo d .blind else s

/-- A frame repeats the last accepted one: the same sequence, at most 50 ticks later (R26). -/
def Channel.repeats (q : Channel) (f : Frame) (time : Tick) : Bool :=
  match q.lastAccepted with
  | none => false
  | some a => decide (a.sequence = f.sequence) && decide (time - a.time ≤ Config.repeatTicks)

/-- An accepted frame is acted on by its kind (R27 to R29). -/
def State.acceptFrame (s : State) (d : ChanId) (glow : Glow) (time : Tick) (f : Frame) : Work :=
  let s := s.updChannel d fun q => { q with lastAccepted := some { sequence := f.sequence, time := time } }
  match f.kind with
  | .headFault => ((s.updChannel d fun q => q.latchFlag .headFault).channelTo d .blind).begin
  | .testEcho =>
    ((s.updChannel d fun q => { q.latchFlag .echo with missed := 0, echoWindow := none }).channelTo d .inService).begin
  | .event =>
    if f.intensity < s.channels[d].threshold.toNat then (s.updChannel d fun q => q.latchFlag .glint).begin
    else
      let flag := match glow with
        | .spark => LatchFlag.spark
        | .ember => .ember
      (s.updChannel d fun q => q.latchFlag flag).begin.qualified d glow (BitVec.ofNat 8 f.intensity) time

/-- A frame, complete or abandoned, is judged in the order of 2.4. -/
def State.judgeFrame (s : State) (d : ChanId) (glow : Glow) (time : Tick) (frame : Option Frame) : Work :=
  if !s.channels[d].type.takes glow then (s.updChannel d fun q => q.latchFlag .foreign).begin
  else
    match frame with
    | none => (s.frameError d).begin
    | some f => if s.channels[d].repeats f time then s.begin else s.acceptFrame d glow time f

/-! ## The receiver (R19, R20) -/

/-- The line of a channel is received: in GUARD, where the type is not OFF (R23, R24). -/
def State.receives (s : State) (d : ChanId) : Bool := s.mode == .guarded && s.channels[d].type != .off

/-- The last eight of a run of bits. -/
def lastEight (bits : List Bool) : List Bool := bits.drop (bits.length - 8)

/-- The receiver of a channel set. -/
def State.receiver (s : State) (d : ChanId) (r : Receiver) : State := s.updChannel d fun q => { q with receiver := r }

/-- A bit arrives: the window moves on and may begin a frame, or the frame in progress gets its next code-byte bit and
is judged with the 32nd (R19, R20). -/
def State.bitArrives (s : State) (d : ChanId) (bit : Bool) : Work :=
  match s.channels[d].receiver with
  | .hunting window =>
    let window := lastEight (window ++ [bit])
    let glow := if window.length = 8 then s.limits.glowOf s.channels[d].tolerant (bitsByte window) else none
    match glow with
    | some g => (s.receiver d (.collecting g s.now [])).begin
    | none => (s.receiver d (.hunting window)).begin
  | .collecting glow time bits =>
    let bits := bits ++ [bit]
    if bits.length < 32 then (s.receiver d (.collecting glow time bits)).begin
    else (s.receiver d (.hunting [])).judgeFrame d glow time (frameOf bits)

/-- DETECTOR_BIT_ARRIVAL (R19, R20). -/
def execDetectorBitArrival (d : ChanId) (bit : Bool) (s : State) : Host.Outcome State Fault Refusal :=
  .next <| s.event (s.receives d) fun s => s.bitArrives d bit

/-- The next bit is the 32nd code-byte bit of a frame (R19). -/
def State.lastBitNext (s : State) (d : ChanId) : Bool :=
  match s.channels[d].receiver with
  | .collecting _ _ bits => decide (bits.length = 31)
  | _ => false

/-- FRAME_COMPLETE: the 32nd code-byte bit arrives (R19). -/
def execFrameComplete (d : ChanId) (bit : Bool) (s : State) : Host.Outcome State Fault Refusal :=
  .next <| s.event (s.receives d && s.lastBitNext d) fun s => s.bitArrives d bit

/-- A frame still incomplete 20 ticks after its event time (R19). -/
def State.frameDue (s : State) (d : ChanId) : Bool :=
  match s.channels[d].receiver with
  | .collecting _ time _ => decide (time + Config.frameTicks ≤ s.now)
  | _ => false

/-- FRAME_ABANDONED: the frame is abandoned and judged as uncorrectable (R19, log row 18). -/
def execFrameAbandoned (d : ChanId) (s : State) : Host.Outcome State Fault Refusal :=
  .next <| s.event (s.receives d && s.frameDue d) fun s =>
    match s.channels[d].receiver with
    | .collecting glow time _ => (s.receiver d (.hunting [])).judgeFrame d glow time none
    | _ => s.begin

/-! ## Survey and supervision (R31 to R34) -/

/-- A channel at a survey boundary (R31). -/
def Channel.survey (q : Channel) : Channel :=
  if q.type = .off then q
  else { q with published := q.latch, publishedErrors := q.errors, latch := 0, errors := 0 }

/-- SURVEY_BOUNDARY (R31). -/
def execSurveyBoundary (s : State) : Host.Outcome State Fault Refusal :=
  .next <| s.event (s.mode == .guarded && reached s.nextSurvey s.now) fun s =>
    { s with channels := s.channels.map Channel.survey,
             nextSurvey := s.nextSurvey.map fun t => t + Config.surveyTicks }.begin

/-- SUPERVISION_PULSE: the test drive is pulsed and the echo window opens (R33). -/
def execSupervisionPulse (d : ChanId) (s : State) : Host.Outcome State Fault Refusal :=
  .next <| s.event (s.receives d && reached s.channels[d].nextPulse s.now) fun s =>
    (s.updChannel d fun q =>
      { q with testDrive := some (s.now + Config.driveTicks), echoWindow := some s.now,
               nextPulse := q.nextPulse.map fun t => t + s.limits.supervision * Config.second }).begin

/-- TEST_DRIVE_END: the 1-ms drive ends (R33). -/
def execTestDriveEnd (d : ChanId) (s : State) : Host.Outcome State Fault Refusal :=
  .next <| s.event (reached s.channels[d].testDrive s.now) fun s =>
    (s.updChannel d fun q => { q with testDrive := none }).begin

/-- The echo window has stood open for 1,000 ticks (R33). -/
def State.echoDue (s : State) (d : ChanId) : Bool :=
  reached (s.channels[d].echoWindow.map fun t => t + Config.echoTicks) s.now

/-- ECHO_WINDOW_EXPIRY: an echo is missed, and the second puts an IN_SERVICE channel into BLIND (R33). -/
def execEchoWindowExpiry (d : ChanId) (s : State) : Host.Outcome State Fault Refusal :=
  .next <| s.event (s.receives d && s.echoDue d) fun s =>
    let s := s.updChannel d fun q => { q with missed := bump 2 q.missed, echoWindow := none }
    (if 2 ≤ s.channels[d].missed then s.channelTo d .blind else s).begin

/-! ## Commands -/

/-- R23: the type, the tolerant flag and the threshold. -/
def State.loadChannel (target : Half) (data : List Byte) (s : State) : Judged := do
  takenInConfig s
  let d ← targetOf 32 target
  let type ← oneOf [.off, .spark, .ember, .dual] (natAt data 0)
  let tolerant ← flagOf (natAt data 1)
  return (s.updChannel d fun q => { q with type := type, tolerant := tolerant, threshold := byteAt data 2 },
    .loaded false)

def execLoadChannel (target : Half) (data : List Byte) (s : State) : Host.Outcome State Fault Refusal :=
  .next <| s.request 3 .instances target data (State.loadChannel target data)

/-- The places of a type and a state in their lists (2.3). -/
def ChanType.code : ChanType → Nat
  | .off => 0 | .spark => 1 | .ember => 2 | .dual => 3
def ChanState.code : ChanState → Nat
  | .off => 0 | .inService => 1 | .blind => 2

/-- The reply data of READ CHANNEL (R35). -/
def State.channelRecord (s : State) (d : ChanId) : List Byte :=
  let q := s.channels[d]
  u8 q.type.code ++ boolField q.tolerant ++ [q.threshold] ++ u8 q.state.code ++ u8 q.missed ++ u8 q.errors
    ++ optField 5 (fun a => u8 a.sequence ++ tickField a.time) q.lastAccepted ++ optField 4 tickField q.echoWindow
    ++ flags8 q.published ++ u8 q.publishedErrors

def State.readChannel (target : Half) (s : State) : Judged := do
  takenUnlessCommitting s
  let d ← targetOf 32 target
  return (s, .ok (s.channelRecord d))

def execReadChannel (target : Half) (data : List Byte) (s : State) : Host.Outcome State Fault Refusal :=
  .next <| s.request 0 .instances target data (State.readChannel target)

end Sys2Proof.Machine
end

