-- ==== Sys2Proof/Machine/Inputs.lean ====
section
/-! DEFINITION. The Flow and Temperature Unit (03): pulses, the sample gate, stall states, flags, and its commands. -/
namespace Sys2Proof.Machine

/-! ## Airflow (R38 to R42) -/

/-- The sample of a gate (R39). -/
def sampleOf (count scale : Nat) : Nat := min 600 (count * scale / 64)

/-- A history with one more sample (R40). -/
def History.shift (h : History) (n : Nat) : History :=
  { oldest := h.second, second := h.third, third := h.newest, newest := n }

/-- The smoothed velocity of a history (R40). -/
def History.smooth (h : History) : Nat := (h.oldest + h.second + h.third + h.newest) / 4

/-- The stall state after a boundary, with its band of 5 dm/s (R41). -/
def stallAfter (before : StallState) (smoothed vStall : Nat) : StallState :=
  match before with
  | .stalled => if vStall + 5 ≤ smoothed then .flowing else .stalled
  | _ => if smoothed < vStall then .stalled else .flowing

/-- The smoothed velocity and stall state after a sample in GUARD (R40, R41). -/
def Airflow.smooth (a : Airflow) (vStall : Nat) (now : Tick) : Airflow :=
  match a.history with
  | none => a
  | some h =>
    let h := h.shift a.sample
    let stall := stallAfter a.stall h.smooth vStall
    { a with history := some h, smoothed := some h.smooth, stall := stall,
             stallChanged := if stall = a.stall then a.stallChanged else some now }

/-- A channel at a gate boundary: a discarded gate gives no sample (R38 to R41, log row 34). -/
def Airflow.boundary (a : Airflow) (inGuard : Bool) (vStall : Nat) (now : Tick) : Airflow :=
  if !a.inUse then a
  else if a.discard then { a with count := 0, discard := false }
  else
    let a := { a with sample := sampleOf a.count a.scale, count := 0 }
    if inGuard then a.smooth vStall now else a

/-- A stall event reaches the tracks whose current segment takes its velocity from the channel (R41, R61, R63). -/
def Work.stallEvent (w : Work) (c : AirId) (stall : StallState) : Work :=
  (List.finRange 48).foldl (fun w i =>
    match w.st.track? i with
    | none => w
    | some t =>
      if w.st.segments[t.current].source = some c then
        (match stall with
          | .stalled => w.enterStall i
          | _ => w.recover i)
      else w) w

/-! ## Temperature (R44 to R49) -/

/-- The reading of a pulse width, if it is valid (R45). -/
def readingOf (width : Nat) : Option Int :=
  if 500 ≤ width ∧ width ≤ 3400 then some ((width : Int) - 900) else none

/-- A flag judged against its threshold with a band of 20 (R46). -/
def judgeFlag (before : Bool) (reading threshold : Int) : Bool :=
  if before then decide (threshold - 20 < reading) else decide (threshold ≤ reading)

/-- The derate flags judged, one for each siren linked to the channel (R46). -/
def State.derateAfter (s : State) (i : TempId) (t : Temperature) (reading : Int) : BitVec 8 :=
  setOf 8 fun y =>
    if h : y < 8 then
      s.sirens[y].link == some i && judgeFlag (inSet t.derate y) reading s.sirens[y].derateAt
    else false

/-- A channel at a boundary with a valid reading; in GUARD its flags are judged (R45 to R47). -/
def State.tempReads (s : State) (i : TempId) (t : Temperature) (reading : Int) : Temperature :=
  let t := { t with reading := some reading, readingTick := some s.now, missing := 0 }
  if s.mode = .guarded then
    { t with state := .reading, hot := judgeFlag t.hot reading t.hotAt, alarm := judgeFlag t.alarm reading t.alarmAt,
             fire := judgeFlag t.fire reading t.fireAt, derate := s.derateAfter i t reading }
  else t

/-- A channel at a boundary without one (R45, R47). -/
def State.tempMisses (s : State) (t : Temperature) : Temperature :=
  let missing := bump 10 t.missing
  { t with missing := missing, state := if s.mode = .guarded ∧ missing = 10 then .sensorFault else t.state }

/-- A channel at a gate boundary (R45). A discarded gate whose boundary falls in GUARD is not counted as one without a valid
reading: the model's choice, log row 42. -/
def State.tempBoundary (s : State) (i : TempId) (t : Temperature) : Temperature :=
  if !t.inUse then t
  else if t.discard then { t with discard := false, pulse := none }
  else
    let pulse := t.pulse
    let t := { t with pulse := none }
    match pulse.bind readingOf with
    | some reading => s.tempReads i t reading
    | none => s.tempMisses t

/-- The flags that a boundary has set arrive in their zones as TEMP_ALARM and TEMP_FIRE (R48, R148). -/
def State.tempArrivals (s : State) (before after : Temperature) : State :=
  let s := if after.alarm && !before.alarm then s.updZone after.zone (Zone.latch .alarm) else s
  if after.fire && !before.fire then s.updZone after.zone (Zone.latch .fire) else s

/-! ## The gate boundary (R37) -/

/-- Everything a gate boundary brings, before anything is delivered. -/
def State.sampled (s : State) : State :=
  { s with airflows := s.airflows.map fun a => a.boundary (s.mode == .guarded) s.limits.vStall s.now,
           temps := Vector.ofFn fun i => s.tempBoundary i s.temps[i],
           nextGate := s.nextGate + Config.gateTicks }

/-- A boundary delivered: stall events, temperature causes, and SENSOR flags (R41, R47, R48). Their order inside the one
boundary (the stall events by channel and for each by slot, then the temperature arrivals, then the levels of the zones by number, then
the SENSOR flags) is the model's choice: log row 46. -/
def State.gateBoundary (s : State) : Work :=
  let t := s.sampled
  if s.mode ≠ .guarded then t.begin
  else
    let w := (List.finRange 16).foldl (fun w c =>
      if t.airflows[c].stall = s.airflows[c].stall then w else w.stallEvent c t.airflows[c].stall) t.begin
    let w := w.mod fun u => (List.finRange 16).foldl (fun u i => u.tempArrivals s.temps[i] t.temps[i]) u
    let w := (List.finRange 16).foldl Work.recompute w
    w.mod fun u => (List.finRange 16).foldl (fun u z => u.refreshFault .sensor z) u

/-- SAMPLE_GATE_BOUNDARY, every 100 ms (R37). -/
def execSampleGateBoundary (s : State) : Host.Outcome State Fault Refusal :=
  .next <| s.event (decide (s.nextGate ≤ s.now)) State.gateBoundary

/-- AIRFLOW_PULSE: a rising edge adds one to the count of a channel in use (R39). -/
def execAirflowPulse (a : AirId) (s : State) : Host.Outcome State Fault Refusal :=
  .next <| if s.resetLow then s else
    s.updAirflow a fun q => if q.inUse then { q with count := bump 65535 q.count } else q

/-- TEMPERATURE_PULSE: the falling edge of a high pulse of this width in us completes its measurement (R45). -/
def execTemperaturePulse (t : TempId) (width : Nat) (s : State) : Host.Outcome State Fault Refusal :=
  .next <| if s.resetLow then s else
    s.updTemp t fun q => if q.inUse then { q with pulse := some width } else q

/-! ## Commands -/

/-- What a load does to the counting state (R38); the tick of the last change of stall state stays (log row 45). -/
def Airflow.load (a : Airflow) (inUse : Bool) (scale : Nat) : Airflow :=
  if inUse && a.inUse then { a with scale := scale }
  else if inUse then { a with inUse := true, scale := scale, count := 0, sample := 0, discard := true }
  else { a with inUse := false, scale := scale, count := 0, sample := 0, discard := false }

def State.loadAirflow (target : Half) (data : List Byte) (s : State) : Judged := do
  takenInConfig s
  let a ← targetOf 16 target
  let inUse ← flagOf (natAt data 0)
  let scale := clamp 1 4096 (natAt2 data 1)
  return (s.updAirflow a fun q => q.load inUse scale, .loaded (scale != natAt2 data 1))

def execLoadAirflow (target : Half) (data : List Byte) (s : State) : Host.Outcome State Fault Refusal :=
  .next <| s.request 3 .instances target data (State.loadAirflow target data)

/-- What a load does to the readings: a channel brought into use starts without one (R45, log row 30). -/
def Temperature.bring (t : Temperature) (inUse : Bool) : Temperature :=
  if inUse && t.inUse then t
  else if inUse then
    { t with inUse := true, reading := none, readingTick := none, missing := 0, pulse := none, discard := true }
  else { t with inUse := false, pulse := none, discard := false }

def State.loadTemperature (target : Half) (data : List Byte) (s : State) : Judged := do
  takenInConfig s
  let i ← targetOf 16 target
  let zone ← instOf 16 (natAt data 1)
  let inUse ← flagOf (natAt data 0)
  let hotAt := clampInt (-400) 2500 (intAt2 data 2)
  let alarmAt := clampInt (-400) 2500 (intAt2 data 4)
  let fireAt := clampInt (-400) 2500 (intAt2 data 6)
  return (s.updTemp i fun t =>
      { t.bring inUse with zone := zone, hotAt := hotAt, alarmAt := alarmAt, fireAt := fireAt },
    .loaded (hotAt != intAt2 data 2 || alarmAt != intAt2 data 4 || fireAt != intAt2 data 6))

def execLoadTemperature (target : Half) (data : List Byte) (s : State) : Host.Outcome State Fault Refusal :=
  .next <| s.request 8 .instances target data (State.loadTemperature target data)

/-- The places of the stall and temperature states in their lists (3.1, 3.2). -/
def StallState.code : StallState → Nat
  | .none => 0 | .flowing => 1 | .stalled => 2
def TempState.code : TempState → Nat
  | .none => 0 | .reading => 1 | .sensorFault => 2

/-- The reply data of READ AIRFLOW (R43). The history is sent as an optional field of four samples, without the item count of a
list: the model's choice, log row 20. -/
def State.airflowRecord (s : State) (i : AirId) : List Byte :=
  let a := s.airflows[i]
  boolField a.inUse ++ u16 a.scale ++ u16 a.count ++ u16 a.sample
    ++ optField 8 (fun h : History => u16 h.oldest ++ u16 h.second ++ u16 h.third ++ u16 h.newest) a.history
    ++ optField 2 u16 a.smoothed ++ u8 a.stall.code ++ optField 4 tickField a.stallChanged

def State.readAirflow (target : Half) (s : State) : Judged := do
  takenUnlessCommitting s
  let a ← targetOf 16 target
  return (s, .ok (s.airflowRecord a))

def execReadAirflow (target : Half) (data : List Byte) (s : State) : Host.Outcome State Fault Refusal :=
  .next <| s.request 0 .instances target data (State.readAirflow target)

/-- The reply data of READ TEMPERATURE (R50). That the reading and its tick are two optional fields, and the eight derate
flags one set of flags, bit n for Yn, is the model's choice: log row 20. -/
def State.tempRecord (s : State) (i : TempId) : List Byte :=
  let t := s.temps[i]
  boolField t.inUse ++ u8 t.zone.val ++ i16 t.hotAt ++ i16 t.alarmAt ++ i16 t.fireAt
    ++ optField 2 i16 t.reading ++ optField 4 tickField t.readingTick ++ u8 t.missing ++ u8 t.state.code
    ++ flags8 (setOf 3 fun b => [t.hot, t.alarm, t.fire].getD b false) ++ flags8 t.derate

def State.readTemperature (target : Half) (s : State) : Judged := do
  takenUnlessCommitting s
  let i ← targetOf 16 target
  return (s, .ok (s.tempRecord i))

def execReadTemperature (target : Half) (data : List Byte) (s : State) : Host.Outcome State Fault Refusal :=
  .next <| s.request 0 .instances target data (State.readTemperature target)

end Sys2Proof.Machine
end

