-- ==== Sys2Proof/Machine/LineEvents.lean ====
section
/-! DEFINITION. The events of the Line Controller (07), and the line and gate commands. -/
namespace Sys2Proof.Machine

/-! ## Gate events -/

/-- Changed limits act on a gate in use: they confirm a travel, or fault a settled gate in GUARD (R127 to R129). -/
def State.limitsSeen (s : State) (g : GateId) : Work :=
  if s.mode = .guarded ∧ s.gates[g].limitLost = true then s.begin.faultGate g .limitLost else s.begin.checkGate g

/-- GATE_LIMIT_CHANGE: the levels of the NORMAL and ABORT limits as the event shows them. Where both change, the levels after
both are judged, and a pair that stood between the two confirms nothing: the model's choice, log row 51. -/
def execGateLimitChange (g : GateId) (normalClosed abortClosed : Bool) (s : State) : Host.Outcome State Fault Refusal :=
  .next <|
    let changed := s.gates[g].normalLimit != normalClosed || s.gates[g].abortLimit != abortClosed
    let t := s.updGate g fun q => { q with normalLimit := normalClosed, abortLimit := abortClosed }
    t.event (changed && t.gates[g].inUse) fun t => t.limitsSeen g

/-- A travel timer has expired in GUARD (R128, R129). -/
def State.travelDue (s : State) (g : GateId) : Bool :=
  let q := s.gates[g]
  s.mode == .guarded && q.inUse && (q.state == .toAbort || q.state == .toNormal) && reached q.timer s.now

/-- GATE_TRAVEL_TIMEOUT (R128). -/
def execGateTravelTimeout (g : GateId) (s : State) : Host.Outcome State Fault Refusal :=
  .next <| s.event (s.travelDue g) fun s => s.begin.faultGate g .timeout

/-! ## Line events -/

/-- A STOPPING line has reached its run-down end (R140). -/
def Line.runDownDue (l : Line) (now : Tick) : Bool := l.state == .stopping && reached l.runDownEnd now

/-- RUN_DOWN_END (R140). -/
def execRunDownEnd (l : LineId) (s : State) : Host.Outcome State Fault Refusal :=
  .next <| s.event (s.lines[l].runDownDue s.now) fun s => (s.lineTo l Line.halt).begin

/-- The oldest start-list entry has left the last 60 s (R142). -/
def State.startDue (s : State) : Bool := reached (s.startList.head?.map fun t => t + Config.startTicks) s.now

/-- START_LIST_EXPIRY: the entry leaves, and the head of the start queue starts if the budget allows (R142). -/
def execStartListExpiry (s : State) : Host.Outcome State Fault Refusal :=
  .next <| s.event s.startDue fun s =>
    let t := { s with startList := s.startList.tail }
    (if t.mode = .guarded then t.testStarts else t).begin

/-- A fan's feedback changes at one line (R143). -/
def Work.feedback (w : Work) (m : FanId) (running : Bool) (l : LineId) : Work :=
  let q := w.st.lines[l]
  if !(q.inUse && q.fans.contains m) then w
  else
    match q.state, running with
    | .starting, _ => w.mod fun s => s.checkRunning l
    | .running, false => w.shutdown l .fanFault
    | _, _ => w

/-- FAN_FEEDBACK_CHANGE (R134, R143). -/
def execFanFeedbackChange (m : FanId) (running : Bool) (s : State) : Host.Outcome State Fault Refusal :=
  .next <|
    let changed := s.fanFeedback[m] != running
    let t := { s with fanFeedback := updAt s.fanFeedback m fun _ => running }
    t.event changed fun t => (List.finRange 8).foldl (fun w l => w.feedback m running l) t.begin

/-- Run-up has ended without every fan's feedback (R143). -/
def Line.runUpDue (l : Line) (now : Tick) : Bool := l.state == .starting && reached l.runUpEnd now

/-- RUN_UP_END (R143). -/
def execRunUpEnd (l : LineId) (s : State) : Host.Outcome State Fault Refusal :=
  .next <| s.event (s.lines[l].runUpDue s.now) fun s => s.begin.shutdown l .fanFault

/-! ## LOAD GATE and LOAD LINE -/

/-- What LOAD GATE does to a gate's runtime part: out of use it is de-energized in TO_ABORT without a timer (R129). That its
fault reason becomes absent is the model's reading, log row 56. -/
def Gate.retired (g : Gate) (now : Tick) : Gate :=
  { g with state := .toAbort, timer := none, faultReason := none, diversions := [],
           stateChanged := if g.state = .toAbort then g.stateChanged else some now }

/-- R6, R129: one whole gate record; brought into use with its ABORT pair standing, it is confirmed at once. -/
def State.loadGate (target : Half) (data : List Byte) (s : State) : Judged := do
  takenInConfig s
  let g ← targetOf 8 target
  let owner ← instOf 128 (natAt data 1)
  let normalOut ← instOf 128 (natAt data 2)
  let abortOut ← instOf 128 (natAt data 3)
  let inUse ← flagOf (natAt data 0)
  let onShutdown ← flagOf (natAt data 5)
  let stroke := clamp 2 100 (natAt data 4)
  let brought := inUse && !s.gates[g].inUse
  let t := s.updGate g fun q =>
    let q := if inUse then q else q.retired s.now
    { q with inUse := inUse, owner := owner, normalOut := normalOut, abortOut := abortOut, stroke := stroke,
             onShutdown := onShutdown }
  return ((if brought then t.begin.checkGate g else t.begin).finish, .loaded (stroke != natAt data 4))

def execLoadGate (target : Half) (data : List Byte) (s : State) : Host.Outcome State Fault Refusal :=
  .next <| s.request 6 .instances target data (State.loadGate target data)

/-- What LOAD LINE does to a line's state (R145): out of use a STOPPING line stops; brought into use it is STOPPED with
cause CONFIG. -/
def Line.load (l : Line) (inUse : Bool) : Line :=
  if inUse && !l.inUse then { l with inUse := true, cause := .config }
  else if inUse then l
  else if l.state = .stopping then { l.halt with inUse := false }
  else { l with inUse := false }

/-- R133, R145: the loaded fields of a line. -/
def State.loadLine (target : Half) (data : List Byte) (s : State) : Judged := do
  takenInConfig s
  let l ← targetOf 8 target
  let firstFan ← instOf 8 (natAt data 1)
  let secondFan ← instOrWord 8 (natAt data 2)
  let inUse ← flagOf (natAt data 0)
  let runUp := clamp 1 60 (natAt data 3)
  let runDown := clamp 0 120 (natAt data 4)
  let burstCount := clamp 2 16 (natAt data 5)
  let burstWindow := clamp 1 600 (natAt2 data 6)
  return (s.lineTo l fun q =>
      { q.load inUse with firstFan := firstFan, secondFan := secondFan, runUp := runUp, runDown := runDown,
                          burstCount := burstCount, burstWindow := burstWindow },
    .loaded ([runUp, runDown, burstCount, burstWindow] !=
      [natAt data 3, natAt data 4, natAt data 5, natAt2 data 6]))

def execLoadLine (target : Half) (data : List Byte) (s : State) : Host.Outcome State Fault Refusal :=
  .next <| s.request 8 .instances target data (State.loadLine target data)

/-! ## Line commands -/

/-- A zone of a line's zone set meets a condition. -/
def State.lineZone (s : State) (l : LineId) (p : Level → Bool) : Bool :=
  (List.finRange 16).any fun z => inSet s.lines[l].zones z.val && p s.zones[z].level

/-- A track in FLIGHT, STALLED or ESCAPED has its current segment on a line (R141). -/
def State.trackOnLine (s : State) (l : LineId) : Bool :=
  (List.finRange 48).any fun i => (s.track? i).elim false fun t => t.state != .spent && s.lineOfTrack t == l

/-- A gate of a line is in a state other than NORMAL (R141). -/
def State.gateAway (s : State) (l : LineId) : Bool :=
  (List.finRange 8).any fun g => s.gates[g].inUse && s.lineOfGate g == l && s.gates[g].state != .normal

/-- A line joins the tail of the start queue; joining an empty queue, it may start at once (R141, R142). -/
def State.joinQueue (s : State) (l : LineId) : State :=
  let t := { s with startQueue := s.startQueue ++ [l] }.lineTo l fun q => { q with state := .startWait }
  if s.startQueue.isEmpty then t.testStarts else t

/-- R141: RESTART LINE. -/
def State.restartLine (target : Half) (s : State) : Judged := do
  takenInGuard s
  let l ← targetOf 8 target
  refuseFor (!s.lines[l].inUse) .notInUse
  refuseFor (s.lines[l].state != .stopped) .notStopped
  refuseFor (s.lineZone l fun v => v.atLeast .alarm) .zoneActive
  refuseFor (s.trackOnLine l) .trackActive
  refuseFor (s.gateAway l) .gateNotNormal
  return (s.joinQueue l, .ok [])

def execRestartLine (target : Half) (data : List Byte) (s : State) : Host.Outcome State Fault Refusal :=
  .next <| s.request 0 .instances target data (State.restartLine target)

/-- R144: STOP LINE gives the shutdown cause LINK. -/
def State.stopLine (target : Half) (s : State) : Judged := do
  takenInGuard s
  let l ← targetOf 8 target
  refuseFor (!s.lines[l].inUse) .notInUse
  return ((s.begin.shutdown l .link).finish, .ok [])

def execStopLine (target : Half) (data : List Byte) (s : State) : Host.Outcome State Fault Refusal :=
  .next <| s.request 0 .instances target data (State.stopLine target)

def LineState.code : LineState → Nat
  | .stopped => 0 | .startWait => 1 | .starting => 2 | .running => 3 | .stopping => 4
def StopCause.code : StopCause → Nat
  | .reset => 0 | .config => 1 | .escape => 2 | .burst => 3 | .tableFull => 4 | .fire => 5 | .gateFault => 6
  | .fanFault => 7 | .link => 8
def GateState.code : GateState → Nat
  | .normal => 0 | .toAbort => 1 | .abort => 2 | .toNormal => 3 | .fault => 4
/-- The place of a fault reason among the reasons, 'absent' not counted: the model's choice, log row 20. -/
def GateFault.code : GateFault → Nat
  | .timeout => 0 | .limitLost => 1

/-- The reply data of READ LINE (R144, log row 20). That only gates in use are listed is the model's reading, log row 53. -/
def State.lineRecord (s : State) (l : LineId) : List Byte :=
  let q := s.lines[l]
  let gates := (List.finRange 8).filter fun g => s.gates[g].inUse && s.lineOfGate g == l
  boolField q.inUse ++ u8 q.firstFan.val ++ wordField (q.secondFan.map Fin.val) ++ u8 q.runUp ++ u8 q.runDown
    ++ u8 q.burstCount ++ u16 q.burstWindow ++ flags16 q.zones
    ++ listField (fun g : GateId => u8 g.val ++ u8 s.gates[g].state.code) gates
    ++ u8 q.state.code ++ u8 q.cause.code ++ listField tickField q.burst ++ optField 4 tickField q.runUpEnd
    ++ optField 4 tickField q.runDownEnd ++ optField 1 u8 (s.startQueue.findIdx? fun k => k == l)
    ++ listField (fun _ : FanId => boolField q.fansOn) q.fans
    ++ listField (fun m : FanId => boolField s.fanFeedback[m]) q.fans ++ boolField q.feederStop
    ++ listField tickField s.startList ++ u8 s.recentStarts.length

def State.readLine (target : Half) (s : State) : Judged := do
  takenUnlessCommitting s
  let l ← targetOf 8 target
  return (s, .ok (s.lineRecord l))

def execReadLine (target : Half) (data : List Byte) (s : State) : Host.Outcome State Fault Refusal :=
  .next <| s.request 0 .instances target data (State.readLine target)

/-! ## Gate commands -/

/-- A live track's route crosses a gate (R130). -/
def State.trackOnGate (s : State) (g : GateId) : Bool :=
  (List.finRange 48).any fun i => (s.track? i).elim false fun t => crosses g t.route

/-- R130: GATE NORMAL. -/
def State.gateNormal (target : Half) (s : State) : Judged := do
  takenInGuard s
  let g ← targetOf 8 target
  refuseFor (!s.gates[g].inUse) .notInUse
  refuseFor (s.gates[g].state != .abort) .notAbort
  refuseFor (s.lineZone (s.lineOfGate g) fun v => v == .fire) .zoneFire
  refuseFor (s.trackOnGate g) .trackOnGate
  return ((s.begin.travelGate g .toNormal).finish, .ok [])

def execGateNormal (target : Half) (data : List Byte) (s : State) : Host.Outcome State Fault Refusal :=
  .next <| s.request 0 .instances target data (State.gateNormal target)

/-- R131: CLEAR GATE. -/
def State.clearGate (target : Half) (s : State) : Judged := do
  takenInGuard s
  let g ← targetOf 8 target
  refuseFor (!s.gates[g].inUse) .notInUse
  refuseFor (s.gates[g].state != .fault) .notFaulted
  return (((s.updGate g fun q => { q with faultReason := none }).begin.travelGate g .toAbort).finish, .ok [])

def execClearGate (target : Half) (data : List Byte) (s : State) : Host.Outcome State Fault Refusal :=
  .next <| s.request 0 .instances target data (State.clearGate target)

/-- The reply data of READ GATE (R132). -/
def State.gateRecord (s : State) (g : GateId) : List Byte :=
  let q := s.gates[g]
  boolField q.inUse ++ u8 q.owner.val ++ u8 q.normalOut.val ++ u8 q.abortOut.val ++ u8 q.stroke
    ++ boolField q.onShutdown ++ u8 (s.lineOfGate g).val ++ u8 q.state.code ++ boolField q.normalLimit
    ++ boolField q.abortLimit ++ boolField q.drive ++ optField 4 tickField q.timer
    ++ optField 1 (fun r => u8 r.code) q.faultReason ++ optField 4 tickField q.stateChanged
    ++ listField handleField q.diversions

def State.readGate (target : Half) (s : State) : Judged := do
  takenUnlessCommitting s
  let g ← targetOf 8 target
  return (s, .ok (s.gateRecord g))

def execReadGate (target : Half) (data : List Byte) (s : State) : Host.Outcome State Fault Refusal :=
  .next <| s.request 0 .instances target data (State.readGate target)

end Sys2Proof.Machine
end

