-- ==== Sys2Proof/Machine/Topology.lean ====
section
/-! DEFINITION. The Topology Store: its load commands, COMMIT, and the checks of the validation walk (01). -/
namespace Sys2Proof.Machine

/-! ## LOAD LIMITS -/

/-- The limits that a request's data gives, each field clamped on its own (R7). -/
def limitsOf (data : List Byte) : Limits :=
  { units := clamp 1 12 (natAt data 0), tol := clamp 0 30 (natAt data 1), vStall := clamp 10 100 (natAt data 2),
    stallLimit := clamp 1 60 (natAt data 3), linger := clamp 1 600 (natAt2 data 4), budget := clamp 1 4 (natAt data 6),
    supervision := clamp 1 60 (natAt data 7), purgeInterval := clamp 10 3600 (natAt2 data 8),
    floodMin := clamp 5 100 (natAt data 10), sparkCode := byteAt data 11, emberCode := byteAt data 12 }

/-- The numeric fields of a limits record in the order of the request (R7). -/
def Limits.numbers (l : Limits) : List Nat :=
  [l.units, l.tol, l.vStall, l.stallLimit, l.linger, l.budget, l.supervision, l.purgeInterval, l.floodMin]

/-- The same fields as the request gives them. -/
def limitsAsked (data : List Byte) : List Nat :=
  [natAt data 0, natAt data 1, natAt data 2, natAt data 3, natAt2 data 4, natAt data 6, natAt data 7, natAt2 data 8,
   natAt data 10]

/-- A fixed velocity raised to a v_stall above it (R3). -/
def Segment.raisedTo (vStall : Nat) (g : Segment) : Segment := { g with fixedVel := max vStall g.fixedVel }

/-- R7, R3: the limits record is written, and fixed velocities below the new v_stall are raised to it. -/
def State.loadLimits (data : List Byte) (s : State) : Judged := do
  takenInConfig s
  let l := limitsOf data
  let raised := s.segments.any fun g => decide (g.fixedVel < l.vStall)
  let t := { s with limits := l, segments := s.segments.map (Segment.raisedTo l.vStall) }
  -- in CONFIG the free units equal P as it then stands (R107)
  return ({ t with freeUnits := l.units }, .loaded (raised || l.numbers != limitsAsked data))

def execLoadLimits (target : Half) (data : List Byte) (s : State) : Host.Outcome State Fault Refusal :=
  .next <| s.request 13 .nothing target data (State.loadLimits data)

/-! ## LOAD SEGMENT -/

/-- The outlet target names an instance of the kind that the outlet asks for; END leaves it unused, and for an outlet that is
none of the three it is not judged, so the answer is BAD_FIELD (R2, R8, log row 21). -/
def outletTarget (kind target : Nat) : Except Reply Unit :=
  match kind with
  | 0 => do let _ ← instOf 128 target; return ()
  | 1 => do let _ ← instOf 8 target; return ()
  | _ => return ()

/-- The outlet that the outlet and target fields give (R2). -/
def outletOf (kind target : Nat) : Except Reply Outlet :=
  match kind with
  | 0 => do return .next (← instOf 128 target)
  | 1 => do return .gate (← instOf 8 target)
  | 2 => return .ends (BitVec.ofNat 8 target)
  | _ => .error (.refused .badField)

/-- R2, R3: one whole segment record; out of use it loses its points. -/
def State.loadSegment (target : Half) (data : List Byte) (s : State) : Judged := do
  takenInConfig s
  let i ← targetOf 128 target
  let source ← instOrWord 16 (natAt data 3)
  let zone ← instOf 16 (natAt data 6)
  let line ← instOf 8 (natAt data 7)
  outletTarget (natAt data 8) (natAt data 9)
  let inUse ← flagOf (natAt data 0)
  let outlet ← outletOf (natAt data 8) (natAt data 9)
  let endKind ← oneOf [.protectedEnd, .safeEnd] (natAt data 10)
  let length := clamp 1 20000 (natAt2 data 1)
  let vel := clamp s.limits.vStall 600 (natAt2 data 4)
  let t := s.updSegment i fun g =>
    { inUse := inUse, length := length, source := source, fixedVel := vel, zone := zone, line := line,
      outlet := outlet, endKind := endKind, points := if inUse then g.points else [] }
  return (t, .loaded (length != natAt2 data 1 || vel != natAt2 data 4))

def execLoadSegment (target : Half) (data : List Byte) (s : State) : Host.Outcome State Fault Refusal :=
  .next <| s.request 11 .instances target data (State.loadSegment target data)

/-! ## LOAD POINT -/

/-- The place of a point in its list: by position, then DETECTOR before STATION, then instance (R5). -/
def Point.key (p : Point) : Nat :=
  p.position * 64 +
    match p.what with
    | .detector d => d.val
    | .station x => 32 + x.val

/-- The point that the kind and instance fields name (R5, log row 21). -/
def placedOf (kind inst : Nat) : Except Reply Placed :=
  match kind with
  | 1 => do return .station (← instOf 24 inst)
  | 0 => do return .detector (← instOf 32 inst)
  | _ => do let _ ← instOf 32 inst; .error (.refused .badField)

/-- R5: a point is placed on a segment or removed from it. -/
def State.loadPoint (target : Half) (data : List Byte) (s : State) : Judged := do
  takenInConfig s
  let i ← targetOf 128 target
  let what ← placedOf (natAt data 1) (natAt data 2)
  let placing ← oneOf [true, false] (natAt data 0)
  let g := s.segments[i]
  let held := g.points.any fun p => p.what == what
  if placing then
    refuseFor (decide (4 ≤ g.points.length)) .pointsFull
    refuseFor (!g.inUse) .notInUse
    refuseFor held .alreadyPlaced
    let position := clamp 0 19999 (natAt2 data 3)
    let t := s.updSegment i fun g =>
      { g with points := insertAfter Point.key { what := what, position := position } g.points }
    return (t, .loaded (position != natAt2 data 3))
  else
    refuseIf (!held) (.bare .noSuch)
    return (s.updSegment i fun g => { g with points := g.points.filter fun p => p.what != what }, .loaded false)

def execLoadPoint (target : Half) (data : List Byte) (s : State) : Host.Outcome State Fault Refusal :=
  .next <| s.request 5 .instances target data (State.loadPoint target data)

/-! ## COMMIT -/

/-- R10: COMMIT starts the validation walk, which ends 200 ticks later. -/
def State.commit (s : State) : Judged := do
  takenInConfig s
  return ({ s with mode := .committing, walkEnd := some (s.now + Config.walkTicks) }, .ok [])

def execCommit (target : Half) (data : List Byte) (s : State) : Host.Outcome State Fault Refusal :=
  .next <| s.request 0 .nothing target data State.commit

/-! ## The validation walk -/

/-- How many points of segments in use name something (R11, checks 9 and 10). -/
def State.timesPlaced (s : State) (what : Placed) : Nat :=
  s.segments.toList.foldl (fun n g => n + if g.inUse then (g.points.countP fun p => p.what == what) else 0) 0

/-- Every path from a segment reaches an END within so many segments (R12). -/
def State.pathEnds (s : State) : Nat → SegId → Bool
  | 0, _ => false
  | n + 1, i =>
    match s.segments[i].outlet with
    | .ends _ => true
    | .next j => s.pathEnds n j
    | .gate g => s.pathEnds n s.gates[g].normalOut && s.pathEnds n s.gates[g].abortOut

/-- The segments in use that `bad` holds of, the first of them as a violation. -/
def State.firstSegment (s : State) (mk : SegId → Violation) (bad : SegId → Segment → Bool) : Option Violation :=
  ((List.finRange 128).find? fun i => s.segments[i].inUse && bad i s.segments[i]).map mk

/-- The same for gates in use. -/
def State.firstGate (s : State) (mk : GateId → Violation) (bad : GateId → Gate → Bool) : Option Violation :=
  ((List.finRange 8).find? fun i => s.gates[i].inUse && bad i s.gates[i]).map mk

/-- A fan that a line in use names is named by it twice or by a lower-numbered line in use (R11, check 13). -/
def State.fanNamedTwice (s : State) (l : LineId) : Bool :=
  let ln := s.lines[l]
  ln.secondFan == some ln.firstFan ||
    ((List.finRange 8).any fun k =>
      decide (k.val < l.val) && s.lines[k].inUse && (ln.fans.any fun m => s.lines[k].fans.contains m))

/-- The thirteen checks of R11 in their order, each giving its first violation. -/
def State.violations (s : State) : List (Option Violation) :=
  [ s.firstSegment .segLine fun _ g => !s.lines[g.line].inUse,
    s.firstSegment .segAirflow fun _ g =>
      match g.source with | some a => !s.airflows[a].inUse | none => false,
    s.firstSegment .segNext fun _ g =>
      match g.outlet with | .next j => !s.segments[j].inUse | _ => false,
    s.firstSegment .segGate fun i g =>
      match g.outlet with | .gate k => !s.gates[k].inUse || s.gates[k].owner != i | _ => false,
    s.firstGate .gateOwner fun k g => !s.segments[g.owner].inUse || s.segments[g.owner].outlet != .gate k,
    s.firstGate .gateOutlet fun _ g =>
      !s.segments[g.normalOut].inUse || !s.segments[g.abortOut].inUse || g.normalOut == g.abortOut,
    s.firstSegment .pointPosition fun _ g => g.points.any fun p => decide (g.length ≤ p.position),
    -- detectors before stations: log row 35
    (((List.finRange 32).find? fun d => s.channels[d].type == .off && decide (0 < s.timesPlaced (.detector d))).map
        Violation.pointDetector).or
      (((List.finRange 24).find? fun x => !s.stations[x].inUse && decide (0 < s.timesPlaced (.station x))).map
        Violation.pointStation),
    ((List.finRange 32).find? fun d => s.channels[d].type != .off && s.timesPlaced (.detector d) != 1).map
      Violation.detectorPlacement,
    ((List.finRange 24).find? fun x => s.stations[x].inUse && s.timesPlaced (.station x) != 1).map
      Violation.stationPlacement,
    s.firstSegment .pathLong fun i _ => !s.pathEnds Config.routeRoom i,
    if onesIn (s.limits.sparkCode ^^^ s.limits.emberCode) < 3 then some .codesClose else none,
    ((List.finRange 8).find? fun l => s.lines[l].inUse && s.fanNamedTwice l).map Violation.lineFans ]

/-- The violation the walk ends at, or none (R10, R11). -/
def State.firstViolation (s : State) : Option Violation := s.violations.findSome? id

end Sys2Proof.Machine
end

