-- ==== Sys2Proof/Machine/Modes.lean ====
section
/-! DEFINITION. The part modes and part resets (01, 1.7 to 1.10; 11, 11.6), READ STATUS, and the notice commands. -/
namespace Sys2Proof.Machine

/-! ## GUARD entry (R14) -/

/-- A channel at GUARD entry: no last accepted frame on any (R26), and a receiver with an empty window by choice (log rows 6
and 44) (R24, R33). -/
def Channel.guard (q : Channel) (now supervision : Nat) : Channel :=
  if q.type = .off then { q with state := .off, published := 0, publishedErrors := 0, lastAccepted := none }
  else
    { q with state := .inService, latch := 0, missed := 0, errors := 0, lastAccepted := none, echoWindow := none,
             receiver := .hunting [], nextPulse := some (now + supervision * Config.second), testDrive := none }

/-- An airflow channel at GUARD entry: its history is filled with its present sample (R40, R41). That the tick of the last change
of stall state stays as it is here is the model's choice: log row 45. -/
def Airflow.guard (a : Airflow) (vStall : Nat) : Airflow :=
  if a.inUse then
    { a with history := some { oldest := a.sample, second := a.sample, third := a.sample, newest := a.sample },
             smoothed := some a.sample, stall := if a.sample < vStall then .stalled else .flowing }
  else a

/-- A temperature channel at GUARD entry (R47, R49). -/
def Temperature.guard (t : Temperature) : Temperature :=
  if t.inUse then
    { t with state := .reading, missing := 0, hot := false, alarm := false, fire := false, derate := 0 }
  else t

/-- A line at GUARD entry: its zone set is fixed and its stop cause is CONFIG (R145, log row 26). -/
def Line.guard (l : Line) (zones : BitVec 16) : Line := { l with zones := zones, burst := [], cause := .config }

/-- A station at GUARD entry (R124). -/
def Station.guard (q : Station) : Station := { q with served := [], debt := 0, accumulation := 0 }

/-- A gate at GUARD entry: a travelling one starts its timer (R129). -/
def Gate.guard (g : Gate) (now : Tick) : Gate :=
  if g.inUse && (g.state == .toAbort || g.state == .toNormal) then { g with timer := some (now + g.timeout) } else g

/-- A siren at GUARD entry (R182). -/
def Siren.guard (y : Siren) : Siren :=
  { y with blastIndex := 0, groupIndex := 0, reportCount := 0, groupsSounded := 0, derated := false }

/-- Every record at GUARD entry, before the gates are looked at (R14). -/
def State.guardRecords (s : State) : State :=
  { s with
    mode := .guarded, walkEnd := none, result := .passed, guardEntry := some s.now,
    nextSurvey := some (s.now + Config.surveyTicks),
    channels := s.channels.map fun q => q.guard s.now s.limits.supervision,
    airflows := s.airflows.map fun a => a.guard s.limits.vStall,
    temps := s.temps.map Temperature.guard,
    lines := Vector.ofFn fun l => s.lines[l].guard (s.zoneSetOf l),
    stations := s.stations.map Station.guard, freeUnits := s.limits.units,
    gates := s.gates.map fun g => g.guard s.now,
    sirens := s.sirens.map Siren.guard }

/-- GUARD entry: the COMMIT notice, every record, the gates whose confirming limit is open, and the fault flags
(R14, R129, R157, log row 27). -/
def State.enterGuard (s : State) : Work :=
  let w := s.guardRecords.begin.mod fun s => s.raise .commit
  let w := (List.finRange 8).foldl (fun w g =>
    if w.st.gates[g].inUse && w.st.gates[g].limitLost then w.faultGate g .limitLost else w) w
  w.mod State.refreshAllFaults

/-- The validation walk has reached its end (R10). -/
def State.walkDue (s : State) : Bool := s.mode == .committing && reached s.walkEnd s.now

/-- VALIDATION_WALK_END: with a violation the part returns to CONFIG, without one it enters GUARD (R13, R14). -/
def execValidationWalkEnd (s : State) : Host.Outcome State Fault Refusal :=
  .next <| s.event s.walkDue fun s =>
    match s.firstViolation with
    | some v => ({ s with mode := .config, walkEnd := none, result := .failed v }.raise .commit).begin
    | none => s.enterGuard

/-! ## RELEASE GUARD (R16, R17) -/

/-- A channel at RELEASE GUARD: a frame being collected is abandoned (R24), and the window of a hunting receiver is emptied by
choice (log row 44). -/
def Channel.release (q : Channel) : Channel :=
  { q with state := .off, echoWindow := none, receiver := .hunting [], nextPulse := none, testDrive := none }

/-- An airflow channel at RELEASE GUARD (R40). That the tick of the last change of stall state stays as it is here is the
model's choice: log row 45. -/
def Airflow.release (a : Airflow) : Airflow := { a with history := none, smoothed := none, stall := .none }

/-- A temperature channel at RELEASE GUARD (R49). -/
def Temperature.release (t : Temperature) : Temperature :=
  { t with state := .none, hot := false, alarm := false, fire := false, derate := 0 }

/-- A station at RELEASE GUARD: a LOCKED one stays LOCKED, any other is IDLE (R124). -/
def Station.release (q : Station) : Station :=
  { q.released (if q.state = .locked then .locked else .idle) with
    served := [], manual := none, floodDemand := false, requestTick := none, faultReason := none, debt := 0,
    accumulation := 0, purgeEnd := none }

/-- A zone at RELEASE GUARD: NORMAL, without causes; its fault flags follow their sources (R157). -/
def Zone.release (z : Zone) (now : Tick) : Zone :=
  { z with level := .normal, latched := .normal, burst := false, tableFull := false, linkCall := none, live := 0,
           escaped := 0, acknowledged := true, callActive := false,
           levelChanged := if z.level = .normal then z.levelChanged else some now }

/-- A siren at RELEASE GUARD: QUIET at once, its counters kept (R182). -/
def Siren.release (y : Siren) : Siren :=
  { y with cls := .normal, sounding := .normal, pendingCls := none, silenced := none }.quiet

/-- A zone falls to NORMAL: a change of level raises ZONE and is delivered (R150, R157). -/
def Work.releaseZone (w : Work) (z : ZoneId) : Work :=
  let old := w.st.zones[z].level
  let w := w.mod fun s => s.updZone z fun q => q.release s.now
  if old = .normal then w else (w.mod fun s => s.raise .zone).push (.zoneLevel z old .normal)

/-- The effects of RELEASE GUARD, block by block (R17, log row 16). -/
def State.releaseWork (s : State) : Work :=
  let w : Work := { s with mode := .config, nextSurvey := none }.begin
  let w := w.mod fun s => { s with stations := s.stations.map Station.release, freeUnits := s.limits.units }
  let w := (List.finRange 48).foldl Work.retire w
  let w := (List.finRange 8).foldl (fun w l =>
    match w.st.lines[l].state with
    | .stopped | .stopping => w
    | _ => w.shutdown l .config) w
  let w := w.mod fun s =>
    { s with lines := s.lines.map fun l => { l with burst := [] }, startQueue := [],
             gates := s.gates.map fun g => { g with timer := none },
             channels := s.channels.map Channel.release, airflows := s.airflows.map Airflow.release,
             temps := s.temps.map Temperature.release }
  let w := (List.finRange 16).foldl Work.releaseZone w
  w.mod fun s => { s.refreshAllFaults.judgeShutters with sirens := s.sirens.map Siren.release }

/-- A live track stands in FLIGHT, STALLED or ESCAPED (R16). -/
def State.trackActive (s : State) : Bool :=
  (List.finRange 48).any fun i => (s.track? i).elim false fun t => t.state != .spent

/-- R16, R17: RELEASE GUARD. -/
def State.releaseGuard (s : State) : Judged := do
  takenInGuard s
  refuseFor (s.zones.any fun z => z.level.atLeast .alarm) .zoneActive
  refuseFor s.trackActive .trackActive
  return (s.releaseWork.finish, .ok [])

def execReleaseGuard (target : Half) (data : List Byte) (s : State) : Host.Outcome State Fault Refusal :=
  .next <| s.request 0 .nothing target data State.releaseGuard

/-! ## Part resets (R195) -/

/-- A part reset: every record in its reset state, the levels of the field inputs and the queue as they stand, the
shutters' states taken from their closed limits (R159, R195, log row 29). -/
def State.partReset (s : State) : State :=
  { State.reset with
    resetLow := s.resetLow
    gates := s.gates.map fun g => { Gate.reset with normalLimit := g.normalLimit, abortLimit := g.abortLimit }
    stations := s.stations.map fun q => { Station.reset with pressure := q.pressure }
    fanFeedback := s.fanFeedback
    zones := s.zones.map fun z => { Zone.reset with callRaw := z.callRaw }
    shutters := s.shutters.map fun h =>
      { Shutter.reset with openLimit := h.openLimit, closedLimit := h.closedLimit, obstructed := h.obstructed }.take 0
    pending := s.pending }

/-- R195: PART RESET is accepted; the reset takes place when chip select rises. -/
def State.takeReset (s : State) : Judged := do
  takenUnlessCommitting s
  return ({ s with link := { s.link with resetTaken := true } }, .ok [])

def execPartReset (target : Half) (data : List Byte) (s : State) : Host.Outcome State Fault Refusal :=
  .next <| s.request 0 .nothing target data State.takeReset

/-- R195: chip select rises at the end of the transaction of a taken PART RESET. -/
def execLinkPartResetTakesPlace (s : State) : Host.Outcome State Fault Refusal :=
  .next <| if s.link.resetTaken then s.partReset else s

/-- R195: the RESET line falls; the part is held in its reset state. -/
def execResetLineLow (s : State) : Host.Outcome State Fault Refusal :=
  .next <| if s.resetLow then s else { s with resetLow := true }.partReset

/-- R195, R187: the RESET line rises at the reset tick, when the states that a reset takes from inputs are taken; a
transaction that chip select is holding low is ignored to its end, `low` ticks from the reset tick, which is mill time 0. -/
def execResetLineHigh (low : Option Nat) (s : State) : Host.Outcome State Fault Refusal :=
  .next <| if !s.resetLow then s
    else
      let t := { s with resetLow := false }.partReset
      { t with link := { t.link with ignoring := low } }

/-- R195: the supply is established. -/
def execPowerUp (s : State) : Host.Outcome State Fault Refusal := .next s.partReset

/-! ## READ STATUS (R191) -/

def Mode.code : Mode → Nat
  | .config => 0 | .committing => 1 | .guarded => 2

/-- The order number of a violation's check in R11, and the kind and number of its instance (R18, R190). -/
def Violation.code : Violation → Nat × Nat × Nat
  | .segLine s => (1, 0, s.val) | .segAirflow s => (2, 0, s.val) | .segNext s => (3, 0, s.val)
  | .segGate s => (4, 0, s.val) | .gateOwner g => (5, 1, g.val) | .gateOutlet g => (6, 1, g.val)
  | .pointPosition s => (7, 0, s.val) | .pointDetector d => (8, 2, d.val) | .pointStation x => (8, 3, x.val)
  | .detectorPlacement d => (9, 2, d.val) | .stationPlacement x => (10, 3, x.val) | .pathLong s => (11, 0, s.val)
  | .codesClose => (12, 5, 0) | .lineFans l => (13, 4, l.val)

/-- The commit result and its three fields, 0 unless FAILED (R190). -/
def resultField : CommitResult → List Byte
  | .none => u8 0 ++ u8 0 ++ u8 0 ++ u8 0
  | .failed v => u8 1 ++ u8 v.code.1 ++ u8 v.code.2.1 ++ u8 v.code.2.2
  | .passed => u8 2 ++ u8 0 ++ u8 0 ++ u8 0

/-- How many live tracks are in a state. -/
def State.tracksIn (s : State) (t : TrackState) : Nat :=
  s.slots.toList.countP fun q => q.track.elim false fun k => k.state == t

/-- The reply data of READ STATUS (R191). -/
def State.statusRecord (s : State) : List Byte :=
  u8 s.mode.code ++ resultField s.result ++ u8 (s.tracksIn .flight) ++ u8 (s.tracksIn .stalled)
    ++ u8 (s.tracksIn .spent) ++ u8 (s.tracksIn .escaped)
    ++ u8 (s.zones.toList.countP fun z => z.level == .alarm) ++ u8 (s.zones.toList.countP fun z => z.level == .fire)
    ++ u8 (s.lines.toList.countP fun l => l.state == .running) ++ u8 s.freeUnits ++ tickField s.now

/-- READ STATUS is taken in every mode (R189). -/
def State.readStatus (s : State) : Judged := .ok (s, .ok s.statusRecord)

def execReadStatus (target : Half) (data : List Byte) (s : State) : Host.Outcome State Fault Refusal :=
  .next <| s.request 0 .nothing target data State.readStatus

/-! ## Notice commands (R194) -/

/-- The place of a link error's reason among the reasons (R193), 'absent' not counted: the model's choice, log row 20. -/
def LinkError.code : LinkError → Nat
  | .parity => 0 | .crc => 1 | .short => 2

/-- The reply data of READ NOTICES (R194). -/
def State.noticeRecord (s : State) : List Byte :=
  let n := s.notices
  flags16 n.flags ++ flags16 n.mask ++ optField 1 (fun e => u8 e.code) n.lastError ++ u8 n.parity ++ u8 n.crc
    ++ u8 n.short

/-- READ NOTICES is taken in every mode (R189). -/
def State.readNotices (s : State) : Judged := .ok (s, .ok s.noticeRecord)

def execReadNotices (target : Half) (data : List Byte) (s : State) : Host.Outcome State Fault Refusal :=
  .next <| s.request 0 .nothing target data State.readNotices

/-- The notice field of a request: bits 12 to 15 are ignored (11.5). -/
def noticeField (data : List Byte) : BitVec 12 := (halfAt data 0).setWidth 12

/-- The Notice Unit after CLEAR NOTICES: with the LINK_ERR bit the record is cleared too (R194). -/
def Notices.clear (n : Notices) (bits : BitVec 12) : Notices :=
  let n := { n with flags := n.flags &&& ~~~bits }
  if inSet bits Notice.linkErr.bit then { n with lastError := none, parity := 0, crc := 0, short := 0 } else n

def State.clearNotices (data : List Byte) (s : State) : Judged := do
  takenUnlessCommitting s
  return ({ s with notices := s.notices.clear (noticeField data) }, .ok [])

def execClearNotices (target : Half) (data : List Byte) (s : State) : Host.Outcome State Fault Refusal :=
  .next <| s.request 2 .nothing target data (State.clearNotices data)

/-- SET NOTICES sets flags as if raised, and no link error record (R194). -/
def State.setNotices (data : List Byte) (s : State) : Judged := do
  takenUnlessCommitting s
  return ({ s with notices := { s.notices with flags := s.notices.flags ||| noticeField data } }, .ok [])

def execSetNotices (target : Half) (data : List Byte) (s : State) : Host.Outcome State Fault Refusal :=
  .next <| s.request 2 .nothing target data (State.setNotices data)

/-- MASK NOTICES replaces the mask whole (R194). -/
def State.maskNotices (data : List Byte) (s : State) : Judged := do
  takenUnlessCommitting s
  return ({ s with notices := { s.notices with mask := noticeField data } }, .ok [])

def execMaskNotices (target : Half) (data : List Byte) (s : State) : Host.Outcome State Fault Refusal :=
  .next <| s.request 2 .nothing target data (State.maskNotices data)

end Sys2Proof.Machine
end

