-- ==== Sys2Proof/Machine/StationEvents.lean ====
section
/-! DEFINITION. The events of the Station Controller and the Pressure Arbiter (06), and the station commands. -/
namespace Sys2Proof.Machine

/-! ## Events at served entries (R102, R108) -/

/-- A served entry of a station for the track of a slot. -/
def Station.servedFor (q : Station) (i : SlotId) (p : Served → Bool) : Bool :=
  q.served.any fun e => e.handle.slot == i && p e

/-- A PENDING entry has reached its open, an entry its close, or its deadline has passed. -/
def openDue (now : Tick) (e : Served) : Bool := !e.active && decide (e.opens ≤ now)
def closeDue (now : Tick) (e : Served) : Bool := decide (e.closes ≤ now)
def deadlineDue (now : Tick) (e : Served) : Bool := !e.noted && decide (e.deadline < now)

/-- SERVED_ENTRY_OPEN: the entry becomes ACTIVE (R102). -/
def execServedEntryOpen (x : StationId) (i : SlotId) (s : State) : Host.Outcome State Fault Refusal :=
  .next <| s.event (s.stations[x].servedFor i (openDue s.now)) fun s =>
    (s.updStation x fun q =>
      { q with served := q.served.map fun e => if e.handle.slot = i then { e with active := true } else e }).begin.push
      (.station x)

/-- SERVED_ENTRY_CLOSE: the entry leaves its list (R102). -/
def execServedEntryClose (x : StationId) (i : SlotId) (s : State) : Host.Outcome State Fault Refusal :=
  .next <| s.event (s.stations[x].servedFor i (closeDue s.now)) fun s =>
    (s.updStation x fun q => { q with served := q.served.filter fun e => e.handle.slot != i }).begin.push (.station x)

/-- DEADLINE_PASSED: the station's key changes, and the arbiter's queue with it (R108). -/
def execDeadlinePassed (x : StationId) (i : SlotId) (s : State) : Host.Outcome State Fault Refusal :=
  .next <| s.event (s.stations[x].servedFor i (deadlineDue s.now)) fun s =>
    (s.updStation x fun q =>
      { q with served := q.served.map fun e => if e.handle.slot = i then { e with noted := true } else e }).begin.push
      .arbiter

/-! ## Events at a station -/

/-- A flood release has reached its minimum run (R110). -/
def State.minRunDue (s : State) (x : StationId) : Bool := s.eligible x && reached s.stations[x].minRunAt s.now

/-- FLOOD_MINIMUM_RUN: the release has become eligible, and the arbiter tries again (R110). -/
def execFloodMinimumRun (x : StationId) (s : State) : Host.Outcome State Fault Refusal :=
  .next <| s.event (s.minRunDue x) fun s => (s.updStation x fun q => { q with minRunAt := none }).begin.push .arbiter

/-- The pressure input of a RELEASING station confirms the release, or loses it (R113). -/
def State.pressureSeen (s : State) (x : StationId) (shown : Bool) : Work :=
  match s.stations[x].confirm, shown with
  | .waiting _, true => (s.updStation x fun q => { q with confirm := .confirmed }).begin
  | .confirmed, false => s.begin.faultStation x .pressureLost
  | _, _ => s.begin

/-- PRESSURE_CONFIRM_INPUT: the level is seen in every state, and read in RELEASING (R101, R113). -/
def execPressureConfirmInput (x : StationId) (shown : Bool) (s : State) : Host.Outcome State Fault Refusal :=
  .next <|
    let t := s.updStation x fun q => { q with pressure := shown }
    t.event (t.stations[x].state == .releasing) fun t => t.pressureSeen x shown

/-- The confirm time has run out (R113). -/
def Station.confirmDue (q : Station) (now : Tick) : Bool :=
  q.state == .releasing &&
    match q.confirm with
    | .waiting t => decide (t + q.confirmTime * Config.tenth ≤ now)
    | _ => false

/-- CONFIRM_TIMEOUT (R113). -/
def execConfirmTimeout (x : StationId) (s : State) : Host.Outcome State Fault Refusal :=
  .next <| s.event (s.stations[x].confirmDue s.now) fun s => s.begin.faultStation x .noConfirm

/-- The cut falls due (R115). -/
def Station.cutDue (q : Station) (now : Tick) : Bool :=
  q.state == .releasing && reached (q.cutStart.map fun t => t + q.maxRelease * Config.second) now

/-- MAX_RELEASE_CUT (R116). -/
def execMaxReleaseCut (x : StationId) (s : State) : Host.Outcome State Fault Refusal :=
  .next <| s.event (s.stations[x].cutDue s.now) fun s => s.begin.cutStation x

/-- A manual order has reached its end (R117). -/
def Station.orderDue (q : Station) (now : Tick) : Bool := reached (q.manual.map fun m => m.endTick) now

/-- The manual order is removed and demand judged afresh (R117, R118). -/
def State.endOrder (s : State) (x : StationId) : Work :=
  (s.updStation x fun q => { q with manual := none }).begin.push (.station x)

/-- MANUAL_ORDER_END (R117). -/
def execManualOrderEnd (x : StationId) (s : State) : Host.Outcome State Fault Refusal :=
  .next <| s.event (s.stations[x].orderDue s.now) fun s => s.endOrder x

/-- The ticks of accumulation at which a purge falls due (R121). -/
def State.purgeSpan (s : State) : Nat := s.limits.purgeInterval * Config.second

/-- A purge falls due (R121). -/
def State.purgeDue (s : State) (x : StationId) : Bool :=
  s.mode == .guarded && s.stations[x].inUse && decide (s.purgeSpan ≤ s.stations[x].accumulation)

/-- PURGE_DUE: the debt rises, and reaching 4 sets PURGE_OVERDUE and raises STATION (R121 to R123). -/
def execPurgeDue (x : StationId) (s : State) : Host.Outcome State Fault Refusal :=
  .next <| s.event (s.purgeDue x) fun s =>
    let before := s.stations[x].debt
    let t := s.updStation x fun q => { q with debt := bump Config.debtLimit q.debt, accumulation := 0 }
    let t := if before + 1 = Config.debtLimit then (t.refreshPlaced .purgeOverdue (.station x)).raise .station else t
    t.begin.push (.station x)

/-- A purge has reached its end (R122). -/
def State.purgeEndDue (s : State) (x : StationId) : Bool :=
  s.stations[x].state == .purging && reached s.stations[x].purgeEnd s.now

/-- PURGE_END: the debt falls and the station becomes IDLE, from which the next purge or a request follows (R122, R123). -/
def execPurgeEnd (x : StationId) (s : State) : Host.Outcome State Fault Refusal :=
  .next <| s.event (s.purgeEndDue x) fun s =>
    ((s.updStation x fun q => { q with state := .idle, purgeEnd := none, debt := q.debt - 1 }).refreshPlaced
      .purgeOverdue (.station x)).begin.push (.station x)

/-! ## Commands -/

/-- R100: the loaded fields of a station; a load does not change its state. -/
def State.loadStation (target : Half) (data : List Byte) (s : State) : Judged := do
  takenInConfig s
  let x ← targetOf 24 target
  let link ← instOrWord 16 (natAt data 11)
  let inUse ← flagOf (natAt data 0)
  let flood ← flagOf (natAt data 12)
  let draw := clamp 1 4 (natAt data 1)
  let lead := clamp 0 5000 (natAt2 data 2)
  let holdSpark := clamp 0 20000 (natAt2 data 4)
  let holdEmber := clamp 0 20000 (natAt2 data 6)
  let confirmTime := clamp 1 50 (natAt data 8)
  let maxRelease := clamp 1 120 (natAt data 9)
  let purgeTime := clamp 1 20 (natAt data 10)
  return (s.updStation x fun q =>
      { q with inUse := inUse, draw := draw, lead := lead, holdSpark := holdSpark, holdEmber := holdEmber,
               confirmTime := confirmTime, maxRelease := maxRelease, purgeTime := purgeTime, link := link,
               flood := flood },
    .loaded ([draw, lead, holdSpark, holdEmber, confirmTime, maxRelease, purgeTime] !=
      [natAt data 1, natAt2 data 2, natAt2 data 4, natAt2 data 6, natAt data 8, natAt data 9, natAt data 10]))

def execLoadStation (target : Half) (data : List Byte) (s : State) : Host.Outcome State Fault Refusal :=
  .next <| s.request 13 .instances target data (State.loadStation target data)

/-- R117: a manual order is set or replaced. -/
def State.manualRelease (target : Half) (data : List Byte) (s : State) : Judged := do
  takenInGuard s
  let x ← targetOf 24 target
  refuseFor (!s.stations[x].inUse) .notInUse
  refuseFor (s.stations[x].state == .locked) .locked
  refuseFor (s.stations[x].state == .fault) .faulted
  let duration := clamp 1 600 (natAt2 data 0)
  let order : ManualOrder := { orderTick := s.now, endTick := s.now + duration * Config.tenth }
  let w := (s.updStation x fun q => { q with manual := some order }).begin.push (.station x)
  return (w.finish, .loaded (duration != natAt2 data 0))

def execManualRelease (target : Half) (data : List Byte) (s : State) : Host.Outcome State Fault Refusal :=
  .next <| s.request 2 .instances target data (State.manualRelease target data)

/-- R118: a manual order is removed. -/
def State.cancelRelease (target : Half) (s : State) : Judged := do
  takenInGuard s
  let x ← targetOf 24 target
  refuseFor (!s.stations[x].inUse) .notInUse
  refuseFor s.stations[x].manual.isNone .noOrder
  return ((s.endOrder x).finish, .ok [])

def execCancelRelease (target : Half) (data : List Byte) (s : State) : Host.Outcome State Fault Refusal :=
  .next <| s.request 0 .instances target data (State.cancelRelease target)

/-- A station record locked (R119). -/
def Station.lock (q : Station) : Station :=
  { q.released .locked with manual := none, requestTick := none, purgeEnd := none }

/-- A station that is not in FAULT and not LOCKED is locked (R119). -/
def State.lockWork (s : State) (x : StationId) : Work :=
  let w :=
    if s.stations[x].state = .releasing then (s.begin.mod fun s => (s.returnUnits x .locked).updStation x Station.lock).stopCovering x .locked
    else s.begin.mod fun s => s.updStation x Station.lock
  w.push .arbiter

/-- R119: LOCK STATION, also for a station not in use. -/
def State.lockStation (target : Half) (s : State) : Judged := do
  takenInGuard s
  let x ← targetOf 24 target
  refuseFor (s.stations[x].state == .fault) .faulted
  if s.stations[x].state = .locked then return (s, .ok [])
  return ((s.lockWork x).finish, .ok [])

def execLockStation (target : Half) (data : List Byte) (s : State) : Host.Outcome State Fault Refusal :=
  .next <| s.request 0 .instances target data (State.lockStation target)

/-- R120: a LOCKED station becomes IDLE and its demand is tested. -/
def State.unlockStation (target : Half) (s : State) : Judged := do
  takenInGuard s
  let x ← targetOf 24 target
  refuseFor (s.stations[x].state != .locked) .notLocked
  return (((s.updStation x fun q => { q with state := .idle }).begin.push (.station x)).finish, .ok [])

def execUnlockStation (target : Half) (data : List Byte) (s : State) : Host.Outcome State Fault Refusal :=
  .next <| s.request 0 .instances target data (State.unlockStation target)

/-- R114: a station in FAULT becomes IDLE, the zone's flag follows, and its demand is tested. -/
def State.clearStation (target : Half) (s : State) : Judged := do
  takenInGuard s
  let x ← targetOf 24 target
  refuseFor (!s.stations[x].inUse) .notInUse
  refuseFor (s.stations[x].state != .fault) .notFaulted
  let t := (s.updStation x fun q => { q with state := .idle, faultReason := none }).refreshPlaced .station (.station x)
  return ((t.begin.push (.station x)).finish, .ok [])

def execClearStation (target : Half) (data : List Byte) (s : State) : Host.Outcome State Fault Refusal :=
  .next <| s.request 0 .instances target data (State.clearStation target)

/-! ## READ STATION (R125) -/

def StationState.code : StationState → Nat
  | .idle => 0 | .requesting => 1 | .releasing => 2 | .suspended => 3 | .purging => 4 | .locked => 5 | .fault => 6
/-- The place of a fault reason among the reasons, 'absent' not counted: the model's choice, log row 20. -/
def StationFault.code : StationFault → Nat
  | .noConfirm => 0 | .pressureLost => 1

/-- The confirm field: absent, WAITING with its tick, or CONFIRMED (log row 20). -/
def confirmField : Confirm → List Byte
  | .absent => u8 0 ++ u32 0
  | .waiting t => u8 1 ++ tickField t
  | .confirmed => u8 2 ++ u32 0

/-- A served entry in a reply, its stage PENDING before ACTIVE (R102). -/
def servedField (e : Served) : List Byte :=
  handleField e.handle ++ tickField e.opens ++ tickField e.closes ++ tickField e.deadline ++ boolField e.active

/-- The key class and key of a station in the queue, and its position there (R125). That class and key are one optional
field, the position another, and that it is counted from 0 are the model's choices: log row 20. -/
def State.queueField (s : State) (x : StationId) : List Byte :=
  let key := s.stations[x].key s.now
  let waiting := if s.stations[x].waits then some key else none
  optField 5 (fun k => u8 k.1.rank ++ tickField k.2) waiting
    ++ optField 1 u8 (waiting.bind fun _ => s.arbiterQueue.findIdx? fun y => y == x)

/-- The reply data of READ STATION (R125), with the effective draw in every mode (log row 40). -/
def State.stationRecord (s : State) (x : StationId) : List Byte :=
  let q := s.stations[x]
  boolField q.inUse ++ u8 q.draw ++ u16 q.lead ++ u16 q.holdSpark ++ u16 q.holdEmber ++ u8 q.confirmTime
    ++ u8 q.maxRelease ++ u8 q.purgeTime ++ wordField (q.link.map Fin.val) ++ boolField q.flood ++ u8 (s.drawOf x)
    ++ u8 q.state.code ++ optField 1 (fun r => u8 r.code) q.faultReason ++ listField servedField q.served
    ++ optField 8 (fun m => tickField m.orderTick ++ tickField m.endTick) q.manual ++ boolField q.floodDemand
    ++ s.queueField x ++ optField 4 tickField q.requestTick ++ optField 4 tickField q.releaseStart
    ++ optField 4 tickField q.cutStart ++ confirmField q.confirm ++ u8 q.debt ++ u32 q.accumulation
    ++ optField 4 tickField q.purgeEnd ++ u8 s.freeUnits

def State.readStation (target : Half) (s : State) : Judged := do
  takenUnlessCommitting s
  let x ← targetOf 24 target
  return (s, .ok (s.stationRecord x))

def execReadStation (target : Half) (data : List Byte) (s : State) : Host.Outcome State Fault Refusal :=
  .next <| s.request 0 .instances target data (State.readStation target)

end Sys2Proof.Machine
end

