-- ==== Sys2Proof/Machine/TrackEvents.lean ====
section
/-! DEFINITION. The events of the Track Table and the Flight Planner (04, 05), and the track commands. -/
namespace Sys2Proof.Machine

/-! ## Events -/

/-- An event at the track of a slot, where the slot holds one for which it is due. -/
def State.trackEvent (s : State) (i : SlotId) (due : Track → Bool) (f : State → Work) : State :=
  s.event ((s.track? i).elim false due) f

/-- The stall limit of a STALLED track has expired (R61, R62). -/
def State.stallDue (s : State) (t : Track) : Bool :=
  t.state == .stalled && reached (t.stalledSince.map fun u => u + s.limits.stallLimit * Config.second) s.now

/-- STALL_LIMIT_EXPIRY: the track escapes with reason STALL (R62). -/
def execStallLimitExpiry (i : SlotId) (s : State) : Host.Outcome State Fault Refusal :=
  .next <| s.trackEvent i s.stallDue fun s => s.begin.escapeTrack i .stall

/-- The route puts the track on another segment than its current one (R54, R84). -/
def State.advanceDue (s : State) (t : Track) : Bool :=
  t.plans && (currentOf t.route t.base s.now).any fun seg => seg != t.current

/-- SEGMENT_ADVANCE (R54). -/
def execSegmentAdvance (i : SlotId) (s : State) : Host.Outcome State Fault Refusal :=
  .next <| s.trackEvent i s.advanceDue fun s => s.begin.advance i

/-- A recent pass has reached the tick at whose end it leaves (R55). -/
def State.passDue (s : State) (t : Track) : Bool := t.passes.any fun p => decide (p.leaves ≤ s.now)

/-- RECENT_PASS_EXPIRY: the passes of this tick leave at its end (R55, log row 24). -/
def execRecentPassExpiry (i : SlotId) (s : State) : Host.Outcome State Fault Refusal :=
  .next <| s.trackEvent i s.passDue fun s =>
    (s.updTrack i fun t => { t with passes := t.passes.filter fun p => !decide (p.leaves ≤ s.now) }).begin

/-- The linger end of a track is a tick that has been reached (R70). -/
def State.lingerDue (s : State) (t : Track) : Bool :=
  match t.lingerEnd with
  | .until u => t.state == .spent && decide (u ≤ s.now)
  | _ => false

/-- LINGER_EXPIRY: retirement, or EXPIRED where HOLD is set (R70). -/
def execLingerExpiry (i : SlotId) (s : State) : Host.Outcome State Fault Refusal :=
  .next <| s.trackEvent i s.lingerDue fun s =>
    if (s.track? i).elim false fun t => t.hold then
      (s.updTrack i fun t => { t with lingerEnd := .expired }).begin
    else s.begin.retire i

/-- The plan entry at a place of a track's plan order, with its place in the route (R85). -/
def State.planEntry (s : State) (i : SlotId) (place : Nat) : Option (Nat × RouteItem) :=
  (s.track? i).bind fun t => (planOf t.route)[place]?

/-- The station of a STATION item. -/
def Item.station? : Item → Option StationId
  | .station x => some x
  | _ => none

/-- A PENDING STATION entry has reached its early bound (R88). -/
def earlyDue (base now : Tick) (r : RouteItem) : Bool :=
  r.item.station?.isSome && !r.covering && decide (base + r.early ≤ now)
/-- A COVERING STATION entry has reached its late bound (R89). -/
def coverDue (base now : Tick) (r : RouteItem) : Bool :=
  r.item.station?.isSome && r.covering && decide (base + r.late ≤ now)
/-- A DETECTOR, GATE or TERMINAL entry has reached its late bound, at which an unconditional STALL_END does not resolve (R64,
R90, log row 37). -/
def lateDue (base now : Tick) (r : RouteItem) : Bool :=
  r.item.station?.isNone && !r.endsInStall && decide (base + r.late ≤ now)

/-- An event at a plan entry, where the entry at that place is one for which it is due; what leaves the plan is made up
for by extension (R86). -/
def State.entryEvent (s : State) (i : SlotId) (place : Nat) (due : Tick → Tick → RouteItem → Bool)
    (f : Nat → RouteItem → Work → Work) : State :=
  match s.track? i, s.planEntry i place with
  | some t, some (k, r) => s.event (due t.base s.now r) fun s => (f k r s.begin).extend i
  | _, _ => s

/-- STATION_EARLY_BOUND (R88). -/
def execStationEarlyBound (i : SlotId) (place : Nat) (s : State) : Host.Outcome State Fault Refusal :=
  .next <| s.entryEvent i place earlyDue fun k r w => r.item.station?.elim w fun x => w.earlyBound i k x

/-- STATION_LATE_BOUND (R89). -/
def execStationLateBound (i : SlotId) (place : Nat) (s : State) : Host.Outcome State Fault Refusal :=
  .next <| s.entryEvent i place coverDue fun k r w => r.item.station?.elim w fun x => w.resolveStation i k x none

/-- A DETECTOR, GATE or TERMINAL entry resolves at its late bound, and a TERMINAL may make the track SPENT (R69, R90). -/
def Work.lateBound (w : Work) (i : SlotId) (k : Nat) (r : RouteItem) : Work :=
  match r.item with
  | .terminal _ _ _ => (w.resolvePoint i k).spentCheck i
  | _ => w.resolvePoint i k

/-- ENTRY_LATE_BOUND (R69, R90). -/
def execEntryLateBound (i : SlotId) (place : Nat) (s : State) : Host.Outcome State Fault Refusal :=
  .next <| s.entryEvent i place lateDue fun k r w => w.lateBound i k r

/-! ## Codes of the track record (R190, R192) -/

def TrackState.code : TrackState → Nat
  | .flight => 0 | .stalled => 1 | .spent => 2 | .escaped => 3
def Glow.code : Glow → Nat
  | .spark => 0 | .ember => 1
def EndOf.code : EndOf → Nat
  | .protectedEnd => 0 | .safeEnd => 1 | .horizon => 2 | .stallEnd => 3
def EscapeReason.code : EscapeReason → Nat
  | .uncovered => 0 | .stall => 1 | .noStation => 2 | .horizon => 3
def Uncovered.code : Uncovered → Nat
  | .fault => 1 | .locked => 2 | .stationFull => 3 | .lateGrant => 4 | .cut => 5
def Side.code : Side → Nat
  | .normal => 0 | .abort => 1

/-- The byte of an end: its condition's gate and outlet, and whether its TERMINAL has resolved. -/
def endCond (conds : List Cond) (resolved : Bool) : List Byte :=
  u8 ((match conds with
    | [] => 0
    | c :: _ => 1 + 2 * c.gate.val + 16 * c.side.code) + 128 * resolved.toNat)

/-- An end of a route in the record (11.4). -/
def endField (r : RouteItem) : List Byte :=
  match r.item with
  | .terminal kind marker resolved =>
    u8 kind.code ++ wordField (marker.map Fin.val) ++ endCond r.conds resolved
  | _ => []

/-- The kind and instance bytes of a plan entry (11.4). -/
def entryKind : Item → List Byte
  | .station x => u8 0 ++ u8 x.val
  | .detector d => u8 1 ++ u8 d.val
  | .gate g => u8 2 ++ u8 g.val
  | .terminal kind _ _ => u8 3 ++ u8 kind.code
  | .entry _ => []

/-- The flag byte of a plan entry (11.4). -/
def entryFlags (r : RouteItem) : List Byte :=
  u8 (r.lateStart.toNat + 2 * r.openEnd.toNat + 4 * r.unserved.toNat
    + match r.conds with
      | [] => 0
      | c :: _ => 8 + 16 * c.gate.val + 128 * c.side.code)

/-- A plan entry in the record (11.4). -/
def entryField (r : RouteItem) : List Byte :=
  entryKind r.item ++ u8 r.covering.toNat ++ entryFlags r ++ u24 r.early ++ u24 r.late

/-- The flags of byte 20 of the record (11.4). -/
def Track.recordFlags (t : Track) : List Byte :=
  u8 (t.covered.toNat + 2 * t.injected.toNat + 4 * t.diverted.toNat + 8 * t.hold.toNat + 16 * t.blindPass.toNat)

/-- The linger code of byte 24 and the linger tick of bytes 31 to 34 (11.4). -/
def Linger.code : Linger → Nat
  | .absent => 0 | .until _ => 1 | .expired => 2
def Linger.tick : Linger → Tick
  | .until u => u
  | _ => 0

/-- Byte 24 of the record (11.4). -/
def Track.presence (t : Track) : List Byte :=
  u8 (t.note.isSome.toNat + 2 * t.escapeReason.isSome.toNat + 4 * t.stalledSince.isSome.toNat + 8 * t.lingerEnd.code
    + 32 * (t.lastUncovered.map Uncovered.code).getD 0)

/-- The ends of a route, in route order. -/
def endsOf (route : List RouteItem) : List RouteItem :=
  route.filter fun r => match r.item with | .terminal _ _ _ => true | _ => false

/-- The whole record of a track, byte by byte (R76, R192). -/
def State.trackRecord (s : State) (i : SlotId) (t : Track) : List Byte :=
  let ends := endsOf t.route
  let plan := planOf t.route
  handleField (s.handleOf i) ++ u32 t.seq.toNat ++ tickField t.birthTick ++ u8 t.origin.val ++ u8 t.glow.code
    ++ [t.intensity] ++ u8 t.state.code ++ u8 t.current.val ++ u8 (s.lineOfTrack t).val ++ tickField t.base
    ++ t.recordFlags ++ u8 t.survived ++ u8 t.stationsCovered ++ u8 t.stationsUncovered ++ t.presence
    ++ [t.note.getD 0] ++ u8 ((t.escapeReason.map EscapeReason.code).getD 0) ++ tickField (t.stalledSince.getD 0)
    ++ tickField t.lingerEnd.tick ++ u8 (entriesOf t.route) ++ u8 ends.length ++ u8 plan.length
    ++ ends.flatMap endField ++ plan.flatMap fun p => entryField p.2

/-! ## Commands -/

/-- R76: the record as it stands; nothing changes. -/
def State.lookupTrack (target : Half) (s : State) : Judged := do
  takenUnlessCommitting s
  let (i, t) ← liveTrack s (targetSlot target) (targetGen target)
  return (s, .ok (s.trackRecord i t))

def execLookupTrack (target : Half) (data : List Byte) (s : State) : Host.Outcome State Fault Refusal :=
  .next <| s.request 0 .instances target data (State.lookupTrack target)

/-- A track's state is in a state mask (R190). -/
def TrackState.inMask (t : TrackState) (mask : Byte) : Bool := mask.getLsbD t.code

/-- The live tracks that a filter and a mask match, oldest first, each with its age (R77). -/
def State.matching (s : State) (zone : Option ZoneId) (mask : Byte) : List (SlotId × Nat) :=
  sortAfter (fun p => 4294967296 - p.2) ((List.finRange 48).filterMap fun i =>
    match s.track? i with
    | none => none
    | some t =>
      if t.state.inMask mask && zone.all (fun z => s.zoneOfTrack t == z) then some (i, s.ageOf t) else none)

/-- The age below which listing begins: any for FIRST, that of the start track otherwise (R77). -/
def State.listStart (s : State) (target : Half) : Except Reply (Option Nat) :=
  if target = 0xFFFF then .ok none
  else do
    let (_, t) ← liveTrack s (targetSlot target) (targetGen target)
    return some (s.ageOf t)

/-- R77: at most 32 handles, oldest first, with the MORE flag (R189, log row 22). -/
def State.listTracks (target : Half) (data : List Byte) (s : State) : Judged := do
  takenUnlessCommitting s
  let start ← s.listStart target
  let zone ← instOrWord 16 (natAt data 0)
  let found := (s.matching zone (byteAt data 1)).filter fun p => start.all fun age => decide (p.2 < age)
  let page := found.take 32
  return (s, .ok (u8 page.length ++ boolField (decide (32 < found.length))
    ++ page.flatMap fun p => handleField (s.handleOf p.1)))

def execListTracks (target : Half) (data : List Byte) (s : State) : Host.Outcome State Fault Refusal :=
  .next <| s.request 2 .instances target data (State.listTracks target data)

/-- The actions of ANNOTATE TRACK (R73). -/
inductive Action where
  | keep | set | clear
  deriving DecidableEq, Repr

/-- A note after a note action (R73). -/
def noteAfter (a : Action) (value : Byte) (note : Option Byte) : Option Byte :=
  match a with
  | .keep => note
  | .set => some value
  | .clear => none

/-- A track after a HOLD action: clearing HOLD on a SPENT track that is EXPIRED sets a fresh linger end (R70, R73). -/
def Track.holdAfter (t : Track) (a : Action) (freshEnd : Tick) : Track :=
  match a with
  | .keep => t
  | .set => { t with hold := true }
  | .clear =>
    { t with hold := false, lingerEnd := if t.state = .spent ∧ t.lingerEnd = .expired then .until freshEnd else t.lingerEnd }

/-- The flags of a track in a reply: INJECTED, DIVERTED, HOLD, BLIND_PASS (4.2). -/
def Track.flagField (t : Track) : List Byte :=
  u8 (t.injected.toNat + 2 * t.diverted.toNat + 4 * t.hold.toNat + 8 * t.blindPass.toNat)

/-- R73: the note and the HOLD flag. -/
def State.annotateTrack (target : Half) (data : List Byte) (s : State) : Judged := do
  takenInGuard s
  let (i, t) ← liveTrack s (targetSlot target) (targetGen target)
  let noteAction ← oneOf [Action.keep, .set, .clear] (natAt data 0)
  let holdAction ← oneOf [Action.keep, .set, .clear] (natAt data 2)
  let t' := { t with note := noteAfter noteAction (byteAt data 1) t.note }.holdAfter holdAction
    (s.now + s.limits.linger * Config.second)
  return (s.updTrack i fun _ => t',
    .ok (u8 t'.state.code ++ optField 1 (fun b => [b]) t'.note ++ t'.flagField))

def execAnnotateTrack (target : Half) (data : List Byte) (s : State) : Host.Outcome State Fault Refusal :=
  .next <| s.request 3 .instances target data (State.annotateTrack target data)

/-- R72: a SPENT or ESCAPED track is retired. -/
def State.retireTrack (target : Half) (s : State) : Judged := do
  takenInGuard s
  let (i, t) ← liveTrack s (targetSlot target) (targetGen target)
  refuseFor (t.state == .flight || t.state == .stalled) .trackActive
  return ((s.begin.retire i).finish, .ok [])

def execRetireTrack (target : Half) (data : List Byte) (s : State) : Host.Outcome State Fault Refusal :=
  .next <| s.request 0 .instances target data (State.retireTrack target)

/-- R74: a birth at once, INJECTED, at a placed detector. -/
def State.injectTrack (target : Half) (data : List Byte) (s : State) : Judged := do
  takenInGuard s
  let d ← targetOf 32 target
  let glow ← oneOf [.spark, .ember] (natAt data 0)
  refuseFor (s.channels[d].type == .off) .notPlaced
  match s.placeOf (.detector d) with
  | none => .error (.refused .notPlaced)
  | some (seg, position) =>
    match s.begin.birth seg position d glow (byteAt data 1) s.now true with
    | (_, none) => .error (.refused .tableFull)
    | (w, some i) => .ok (w.finish, .ok (handleField (w.st.handleOf i)))

def execInjectTrack (target : Half) (data : List Byte) (s : State) : Host.Outcome State Fault Refusal :=
  .next <| s.request 2 .instances target data (State.injectTrack target data)

end Sys2Proof.Machine
end

