-- ==== Sys2Proof/Machine/ZoneEvents.lean ====
section
/-! DEFINITION. The zone events and commands whose changes of level are delivered (08). -/
namespace Sys2Proof.Machine

/-- CALL_POINT_FILTER: the raw input has stood for 500 ticks (R153). -/
def execCallPointFilter (z : ZoneId) (s : State) : Host.Outcome State Fault Refusal :=
  .next <| s.event (s.callDue z) fun s => s.callFilter z

/-- R152: ACK ZONE; the reply carries the level, the latched level and the causes after the command. -/
def State.ackZone (target : Half) (s : State) : Judged := do
  takenInGuard s
  let z ← targetOf 16 target
  let t := (s.acknowledge z).finish
  return (t, .ok (levelField t.zones[z].level ++ levelField t.zones[z].latched ++ t.causesField z))

def execAckZone (target : Half) (data : List Byte) (s : State) : Host.Outcome State Fault Refusal :=
  .next <| s.request 0 .instances target data (State.ackZone target)

/-- R154: CALL ZONE; the reply carries the level and the latched level after the command. -/
def State.callZone (target : Half) (data : List Byte) (s : State) : Judged := do
  takenInGuard s
  let z ← targetOf 16 target
  let level ← levelAmong [.alarm, .fire] (natAt data 0)
  let t := (s.begin.arriveCall z level).finish
  return (t, .ok (levelField t.zones[z].level ++ levelField t.zones[z].latched))

def execCallZone (target : Half) (data : List Byte) (s : State) : Host.Outcome State Fault Refusal :=
  .next <| s.request 1 .instances target data (State.callZone target data)

end Sys2Proof.Machine
end

