-- ==== Sys2Proof/Machine/Clock.lean ====
section
/-! DEFINITION. What the part does while no command waits: the event of the present tick that is due, or else the next
tick of mill time (log row 1). -/
namespace Sys2Proof.Machine

/-- The first instance of a kind for which an event is due. -/
def firstDue {n : Nat} (mk : Fin n → Instr) (p : Fin n → Bool) : Option Instr := ((List.finRange n).find? p).map mk

/-- The first live track for which an event is due. -/
def State.firstTrack (s : State) (mk : SlotId → Instr) (p : Track → Bool) : Option Instr :=
  firstDue mk fun i => (s.track? i).elim false p

/-- The first plan entry for which an event is due. -/
def State.firstEntry (s : State) (mk : SlotId → Nat → Instr) (due : Tick → Tick → RouteItem → Bool) : Option Instr :=
  (List.finRange 48).findSome? fun i =>
    (s.track? i).bind fun t => ((planOf t.route).findIdx? fun p => due t.base s.now p.2).map (mk i)

/-- The first served entry for which an event is due. -/
def State.firstServed (s : State) (mk : StationId → SlotId → Instr) (p : Served → Bool) : Option Instr :=
  (List.finRange 24).findSome? fun x => (s.stations[x].served.find? p).map fun e => mk x e.handle.slot

/-- One event if it is due. -/
def ifDue (c : Instr) (p : Bool) : Option Instr := if p then some c else none

/-- Every kind of event that time brings, each with its first instance that is due.
The order is the model's; recent passes come last, since they leave at the end of their tick (R55, log row 1). -/
def State.dueEvents (s : State) : List (Option Instr) :=
  [ ifDue .alertHoldEnd (s.link.alert.holdDue s.now),
    ifDue .alertPulseEnd (s.link.alert == .pulse),
    ifDue .validationWalkEnd s.walkDue,
    firstDue .frameAbandoned fun d => s.receives d && s.frameDue d,
    ifDue .surveyBoundary (s.mode == .guarded && reached s.nextSurvey s.now),
    firstDue .echoWindowExpiry fun d => s.receives d && s.echoDue d,
    firstDue .testDriveEnd fun d => reached s.channels[d].testDrive s.now,
    firstDue .supervisionPulse fun d => s.receives d && reached s.channels[d].nextPulse s.now,
    ifDue .sampleGateBoundary (decide (s.nextGate ≤ s.now)),
    s.firstTrack .segmentAdvance s.advanceDue,
    s.firstEntry .stationEarlyBound earlyDue,
    s.firstEntry .stationLateBound coverDue,
    s.firstEntry .entryLateBound lateDue,
    s.firstTrack .stallLimitExpiry s.stallDue,
    s.firstServed .servedEntryOpen (openDue s.now),
    s.firstServed .servedEntryClose (closeDue s.now),
    s.firstServed .deadlinePassed (deadlineDue s.now),
    firstDue .floodMinimumRun s.minRunDue,
    firstDue .confirmTimeout fun x => s.stations[x].confirmDue s.now,
    firstDue .maxReleaseCut fun x => s.stations[x].cutDue s.now,
    firstDue .manualOrderEnd fun x => s.stations[x].orderDue s.now,
    firstDue .purgeEnd s.purgeEndDue,
    firstDue .purgeDue s.purgeDue,
    firstDue .gateTravelTimeout s.travelDue,
    firstDue .runDownEnd fun l => s.lines[l].runDownDue s.now,
    firstDue .runUpEnd fun l => s.lines[l].runUpDue s.now,
    ifDue .startListExpiry s.startDue,
    firstDue .callPointFilter s.callDue,
    firstDue .shutterTravelTimeout fun h => s.shutters[h].travelDue s.now,
    firstDue .rearmEnd fun h => s.shutters[h].state == .paused && reached s.shutters[h].rearmEnd s.now,
    firstDue .pauseLimit fun h => s.shutters[h].state == .paused && s.shutters[h].pauseDue s.now,
    firstDue .sirenPhaseEnd s.phaseDue,
    s.firstTrack .lingerExpiry s.lingerDue,
    s.firstTrack .recentPassExpiry s.passDue ]

/-- The event of time that comes next, if one is due. -/
def State.nextDue (s : State) : Option Instr := s.dueEvents.findSome? id

/-- The HOT flag that a station finds: clear without a link, or with a link to a channel not in use (R48, R121). -/
def State.hotFor (s : State) (q : Station) : Bool := q.link.elim false fun t => s.temps[t].inUse && s.temps[t].hot

/-- A station's purge accumulation after one more tick of GUARD (R121, log row 25). -/
def State.accumulate (s : State) (q : Station) : Station :=
  if q.inUse then { q with accumulation := min s.purgeSpan (q.accumulation + if s.hotFor q then 2 else 1) } else q

/-- One tick of mill time passes. -/
def State.tick (s : State) : State :=
  { s with now := s.now + 1, stations := if s.mode = .guarded then s.stations.map s.accumulate else s.stations }

/-- What the part does while its queue is empty: nothing while the RESET line is low (R195); else the event that is
due comes to the front of the queue, and with none due a tick passes (log row 1). -/
def State.idle (s : State) : State :=
  if s.resetLow then s
  else
    match s.nextDue with
    | some c => { s with pending := [c] }
    | none => s.tick

end Sys2Proof.Machine
end

