-- ==== Sys2Proof/Machine/Dispatch.lean ====
section
/-! DEFINITION. The meaning of each command: one direct call per row of the opcode table. -/
namespace Sys2Proof.Machine

/-- What a command does to everything but the queue. -/
def exec (i : Instr) (s : State) : Host.Outcome State Fault Refusal :=
  match i with
  | .loadLimits target data => Sys2Proof.Machine.execLoadLimits target data s
  | .loadSegment target data => Sys2Proof.Machine.execLoadSegment target data s
  | .loadPoint target data => Sys2Proof.Machine.execLoadPoint target data s
  | .loadGate target data => Sys2Proof.Machine.execLoadGate target data s
  | .loadLine target data => Sys2Proof.Machine.execLoadLine target data s
  | .loadStation target data => Sys2Proof.Machine.execLoadStation target data s
  | .loadChannel target data => Sys2Proof.Machine.execLoadChannel target data s
  | .loadAirflow target data => Sys2Proof.Machine.execLoadAirflow target data s
  | .loadTemperature target data => Sys2Proof.Machine.execLoadTemperature target data s
  | .loadShutter target data => Sys2Proof.Machine.execLoadShutter target data s
  | .loadSiren target data => Sys2Proof.Machine.execLoadSiren target data s
  | .loadPattern target data => Sys2Proof.Machine.execLoadPattern target data s
  | .commit target data => Sys2Proof.Machine.execCommit target data s
  | .validationWalkEnd => Sys2Proof.Machine.execValidationWalkEnd s
  | .releaseGuard target data => Sys2Proof.Machine.execReleaseGuard target data s
  | .readStatus target data => Sys2Proof.Machine.execReadStatus target data s
  | .lookupTrack target data => Sys2Proof.Machine.execLookupTrack target data s
  | .listTracks target data => Sys2Proof.Machine.execListTracks target data s
  | .annotateTrack target data => Sys2Proof.Machine.execAnnotateTrack target data s
  | .retireTrack target data => Sys2Proof.Machine.execRetireTrack target data s
  | .injectTrack target data => Sys2Proof.Machine.execInjectTrack target data s
  | .readZone target data => Sys2Proof.Machine.execReadZone target data s
  | .ackZone target data => Sys2Proof.Machine.execAckZone target data s
  | .callZone target data => Sys2Proof.Machine.execCallZone target data s
  | .readStation target data => Sys2Proof.Machine.execReadStation target data s
  | .manualRelease target data => Sys2Proof.Machine.execManualRelease target data s
  | .cancelRelease target data => Sys2Proof.Machine.execCancelRelease target data s
  | .lockStation target data => Sys2Proof.Machine.execLockStation target data s
  | .unlockStation target data => Sys2Proof.Machine.execUnlockStation target data s
  | .clearStation target data => Sys2Proof.Machine.execClearStation target data s
  | .readLine target data => Sys2Proof.Machine.execReadLine target data s
  | .restartLine target data => Sys2Proof.Machine.execRestartLine target data s
  | .stopLine target data => Sys2Proof.Machine.execStopLine target data s
  | .readGate target data => Sys2Proof.Machine.execReadGate target data s
  | .gateNormal target data => Sys2Proof.Machine.execGateNormal target data s
  | .clearGate target data => Sys2Proof.Machine.execClearGate target data s
  | .readShutter target data => Sys2Proof.Machine.execReadShutter target data s
  | .grantHold target data => Sys2Proof.Machine.execGrantHold target data s
  | .revokeHold target data => Sys2Proof.Machine.execRevokeHold target data s
  | .grantAll target data => Sys2Proof.Machine.execGrantAll target data s
  | .revokeAll target data => Sys2Proof.Machine.execRevokeAll target data s
  | .openShutter target data => Sys2Proof.Machine.execOpenShutter target data s
  | .clearShutter target data => Sys2Proof.Machine.execClearShutter target data s
  | .readSiren target data => Sys2Proof.Machine.execReadSiren target data s
  | .silenceSiren target data => Sys2Proof.Machine.execSilenceSiren target data s
  | .readChannel target data => Sys2Proof.Machine.execReadChannel target data s
  | .readAirflow target data => Sys2Proof.Machine.execReadAirflow target data s
  | .readTemperature target data => Sys2Proof.Machine.execReadTemperature target data s
  | .readNotices target data => Sys2Proof.Machine.execReadNotices target data s
  | .clearNotices target data => Sys2Proof.Machine.execClearNotices target data s
  | .setNotices target data => Sys2Proof.Machine.execSetNotices target data s
  | .maskNotices target data => Sys2Proof.Machine.execMaskNotices target data s
  | .partReset target data => Sys2Proof.Machine.execPartReset target data s
  | .linkPartResetTakesPlace => Sys2Proof.Machine.execLinkPartResetTakesPlace s
  | .unknownOp opcode target data => Sys2Proof.Machine.execUnknownOp opcode target data s
  | .headerParityError header => Sys2Proof.Machine.execHeaderParityError header s
  | .alertHoldEnd => Sys2Proof.Machine.execAlertHoldEnd s
  | .holdTransactionIgnored => Sys2Proof.Machine.execHoldTransactionIgnored s
  | .badCrc header data crc => Sys2Proof.Machine.execBadCrc header data crc s
  | .alertPulseEnd => Sys2Proof.Machine.execAlertPulseEnd s
  | .shortTransaction => Sys2Proof.Machine.execShortTransaction s
  | .resetLineLow => Sys2Proof.Machine.execResetLineLow s
  | .resetLineHigh low => Sys2Proof.Machine.execResetLineHigh low s
  | .powerUp => Sys2Proof.Machine.execPowerUp s
  | .frameComplete d bit => Sys2Proof.Machine.execFrameComplete d bit s
  | .frameAbandoned d => Sys2Proof.Machine.execFrameAbandoned d s
  | .surveyBoundary => Sys2Proof.Machine.execSurveyBoundary s
  | .supervisionPulse d => Sys2Proof.Machine.execSupervisionPulse d s
  | .testDriveEnd d => Sys2Proof.Machine.execTestDriveEnd d s
  | .echoWindowExpiry d => Sys2Proof.Machine.execEchoWindowExpiry d s
  | .airflowPulse a => Sys2Proof.Machine.execAirflowPulse a s
  | .temperaturePulse t width => Sys2Proof.Machine.execTemperaturePulse t width s
  | .sampleGateBoundary => Sys2Proof.Machine.execSampleGateBoundary s
  | .stallLimitExpiry slot => Sys2Proof.Machine.execStallLimitExpiry slot s
  | .segmentAdvance slot => Sys2Proof.Machine.execSegmentAdvance slot s
  | .recentPassExpiry slot => Sys2Proof.Machine.execRecentPassExpiry slot s
  | .lingerExpiry slot => Sys2Proof.Machine.execLingerExpiry slot s
  | .stationEarlyBound slot place => Sys2Proof.Machine.execStationEarlyBound slot place s
  | .stationLateBound slot place => Sys2Proof.Machine.execStationLateBound slot place s
  | .entryLateBound slot place => Sys2Proof.Machine.execEntryLateBound slot place s
  | .servedEntryOpen x slot => Sys2Proof.Machine.execServedEntryOpen x slot s
  | .servedEntryClose x slot => Sys2Proof.Machine.execServedEntryClose x slot s
  | .deadlinePassed x slot => Sys2Proof.Machine.execDeadlinePassed x slot s
  | .floodMinimumRun x => Sys2Proof.Machine.execFloodMinimumRun x s
  | .pressureConfirmInput x shown => Sys2Proof.Machine.execPressureConfirmInput x shown s
  | .confirmTimeout x => Sys2Proof.Machine.execConfirmTimeout x s
  | .maxReleaseCut x => Sys2Proof.Machine.execMaxReleaseCut x s
  | .manualOrderEnd x => Sys2Proof.Machine.execManualOrderEnd x s
  | .purgeDue x => Sys2Proof.Machine.execPurgeDue x s
  | .purgeEnd x => Sys2Proof.Machine.execPurgeEnd x s
  | .gateLimitChange g normalClosed abortClosed => Sys2Proof.Machine.execGateLimitChange g normalClosed abortClosed s
  | .gateTravelTimeout g => Sys2Proof.Machine.execGateTravelTimeout g s
  | .runDownEnd l => Sys2Proof.Machine.execRunDownEnd l s
  | .startListExpiry => Sys2Proof.Machine.execStartListExpiry s
  | .fanFeedbackChange m running => Sys2Proof.Machine.execFanFeedbackChange m running s
  | .runUpEnd l => Sys2Proof.Machine.execRunUpEnd l s
  | .callPointInput z active => Sys2Proof.Machine.execCallPointInput z active s
  | .callPointFilter z => Sys2Proof.Machine.execCallPointFilter z s
  | .shutterLimitChange h openActive closedActive => Sys2Proof.Machine.execShutterLimitChange h openActive closedActive s
  | .shutterTravelTimeout h => Sys2Proof.Machine.execShutterTravelTimeout h s
  | .shutterObstruction h active => Sys2Proof.Machine.execShutterObstruction h active s
  | .rearmEnd h => Sys2Proof.Machine.execRearmEnd h s
  | .pauseLimit h => Sys2Proof.Machine.execPauseLimit h s
  | .sirenPhaseEnd y => Sys2Proof.Machine.execSirenPhaseEnd y s
  | .detectorBitArrival d bit => Sys2Proof.Machine.execDetectorBitArrival d bit s

end Sys2Proof.Machine
end

