-- ==== Sys2Proof/Safety.lean ====
section
/-! DEFINITION. What the statements about the part are said with: when the link listens, the shapes and mode groups of its
commands, what only its own commands change, the checks of the validation walk as R11 words them, and the invariants of
the part. -/
namespace Sys2Proof.Machine

/-! ## Link commands -/

/-- The link receives a transaction from its beginning (R184, R185, R187, R195). -/
abbrev State.listens (s : State) : Prop :=
  s.resetLow = false ∧ s.link.ignores s.now = false ∧ s.link.alert.holds = false

/-- The data length a link command asks for (R190), whether it names a target (R188), its target and its data. -/
def linkForm : Instr → Option (Nat × Names × Half × List Byte)
  | .loadLimits t d => some (13, .nothing, t, d)
  | .loadSegment t d => some (11, .instances, t, d)
  | .loadPoint t d => some (5, .instances, t, d)
  | .loadGate t d => some (6, .instances, t, d)
  | .loadLine t d => some (8, .instances, t, d)
  | .loadStation t d => some (13, .instances, t, d)
  | .loadChannel t d => some (3, .instances, t, d)
  | .loadAirflow t d => some (3, .instances, t, d)
  | .loadTemperature t d => some (8, .instances, t, d)
  | .loadShutter t d => some (4, .instances, t, d)
  | .loadSiren t d => some (5, .instances, t, d)
  | .loadPattern t d => some (9, .instances, t, d)
  | .commit t d => some (0, .nothing, t, d)
  | .releaseGuard t d => some (0, .nothing, t, d)
  | .readStatus t d => some (0, .nothing, t, d)
  | .lookupTrack t d => some (0, .instances, t, d)
  | .listTracks t d => some (2, .instances, t, d)
  | .annotateTrack t d => some (3, .instances, t, d)
  | .retireTrack t d => some (0, .instances, t, d)
  | .injectTrack t d => some (2, .instances, t, d)
  | .readZone t d => some (0, .instances, t, d)
  | .ackZone t d => some (0, .instances, t, d)
  | .callZone t d => some (1, .instances, t, d)
  | .readStation t d => some (0, .instances, t, d)
  | .manualRelease t d => some (2, .instances, t, d)
  | .cancelRelease t d => some (0, .instances, t, d)
  | .lockStation t d => some (0, .instances, t, d)
  | .unlockStation t d => some (0, .instances, t, d)
  | .clearStation t d => some (0, .instances, t, d)
  | .readLine t d => some (0, .instances, t, d)
  | .restartLine t d => some (0, .instances, t, d)
  | .stopLine t d => some (0, .instances, t, d)
  | .readGate t d => some (0, .instances, t, d)
  | .gateNormal t d => some (0, .instances, t, d)
  | .clearGate t d => some (0, .instances, t, d)
  | .readShutter t d => some (0, .instances, t, d)
  | .grantHold t d => some (0, .instances, t, d)
  | .revokeHold t d => some (0, .instances, t, d)
  | .grantAll t d => some (0, .nothing, t, d)
  | .revokeAll t d => some (0, .nothing, t, d)
  | .openShutter t d => some (0, .instances, t, d)
  | .clearShutter t d => some (0, .instances, t, d)
  | .readSiren t d => some (0, .instances, t, d)
  | .silenceSiren t d => some (0, .instances, t, d)
  | .readChannel t d => some (0, .instances, t, d)
  | .readAirflow t d => some (0, .instances, t, d)
  | .readTemperature t d => some (0, .instances, t, d)
  | .readNotices t d => some (0, .nothing, t, d)
  | .clearNotices t d => some (2, .nothing, t, d)
  | .setNotices t d => some (2, .nothing, t, d)
  | .maskNotices t d => some (2, .nothing, t, d)
  | .partReset t d => some (0, .nothing, t, d)
  | _ => none

/-- The rows of the mode table (R189). -/
inductive ModeGroup where
  | always | inConfig | inGuard | unlessCommitting
  deriving DecidableEq, Repr

/-- The row of the mode table that a link command stands in (R189). -/
def modeGroup : Instr → Option ModeGroup
  | .loadLimits _ _ => some .inConfig
  | .loadSegment _ _ => some .inConfig
  | .loadPoint _ _ => some .inConfig
  | .loadGate _ _ => some .inConfig
  | .loadLine _ _ => some .inConfig
  | .loadStation _ _ => some .inConfig
  | .loadChannel _ _ => some .inConfig
  | .loadAirflow _ _ => some .inConfig
  | .loadTemperature _ _ => some .inConfig
  | .loadShutter _ _ => some .inConfig
  | .loadSiren _ _ => some .inConfig
  | .loadPattern _ _ => some .inConfig
  | .commit _ _ => some .inConfig
  | .releaseGuard _ _ => some .inGuard
  | .readStatus _ _ => some .always
  | .lookupTrack _ _ => some .unlessCommitting
  | .listTracks _ _ => some .unlessCommitting
  | .annotateTrack _ _ => some .inGuard
  | .retireTrack _ _ => some .inGuard
  | .injectTrack _ _ => some .inGuard
  | .readZone _ _ => some .unlessCommitting
  | .ackZone _ _ => some .inGuard
  | .callZone _ _ => some .inGuard
  | .readStation _ _ => some .unlessCommitting
  | .manualRelease _ _ => some .inGuard
  | .cancelRelease _ _ => some .inGuard
  | .lockStation _ _ => some .inGuard
  | .unlockStation _ _ => some .inGuard
  | .clearStation _ _ => some .inGuard
  | .readLine _ _ => some .unlessCommitting
  | .restartLine _ _ => some .inGuard
  | .stopLine _ _ => some .inGuard
  | .readGate _ _ => some .unlessCommitting
  | .gateNormal _ _ => some .inGuard
  | .clearGate _ _ => some .inGuard
  | .readShutter _ _ => some .unlessCommitting
  | .grantHold _ _ => some .inGuard
  | .revokeHold _ _ => some .inGuard
  | .grantAll _ _ => some .inGuard
  | .revokeAll _ _ => some .inGuard
  | .openShutter _ _ => some .inGuard
  | .clearShutter _ _ => some .inGuard
  | .readSiren _ _ => some .unlessCommitting
  | .silenceSiren _ _ => some .inGuard
  | .readChannel _ _ => some .unlessCommitting
  | .readAirflow _ _ => some .unlessCommitting
  | .readTemperature _ _ => some .unlessCommitting
  | .readNotices _ _ => some .always
  | .clearNotices _ _ => some .unlessCommitting
  | .setNotices _ _ => some .unlessCommitting
  | .maskNotices _ _ => some .unlessCommitting
  | .partReset _ _ => some .unlessCommitting
  | _ => none

/-- The answer of the mode step, if it gives one (R189). -/
def ModeGroup.answer : ModeGroup → Mode → Option Status
  | .always, _ => none
  | .inConfig, .config => none
  | .inConfig, .committing => some .busy
  | .inConfig, .guarded => some .wrongMode
  | .inGuard, .config => some .wrongMode
  | .inGuard, .committing => some .busy
  | .inGuard, .guarded => none
  | .unlessCommitting, .committing => some .busy
  | .unlessCommitting, _ => none

/-- How many instances a link command's target may name, where it names one by its number (11.3). -/
def targetCount : Instr → Option Nat
  | .loadSegment _ _ => some 128
  | .loadPoint _ _ => some 128
  | .loadGate _ _ => some 8
  | .loadLine _ _ => some 8
  | .loadStation _ _ => some 24
  | .loadChannel _ _ => some 32
  | .loadAirflow _ _ => some 16
  | .loadTemperature _ _ => some 16
  | .loadShutter _ _ => some 12
  | .loadSiren _ _ => some 8
  | .loadPattern _ _ => some 8
  | .injectTrack _ _ => some 32
  | .readZone _ _ => some 16
  | .ackZone _ _ => some 16
  | .callZone _ _ => some 16
  | .readStation _ _ => some 24
  | .manualRelease _ _ => some 24
  | .cancelRelease _ _ => some 24
  | .lockStation _ _ => some 24
  | .unlockStation _ _ => some 24
  | .clearStation _ _ => some 24
  | .readLine _ _ => some 8
  | .restartLine _ _ => some 8
  | .stopLine _ _ => some 8
  | .readGate _ _ => some 8
  | .gateNormal _ _ => some 8
  | .clearGate _ _ => some 8
  | .readShutter _ _ => some 12
  | .grantHold _ _ => some 12
  | .revokeHold _ _ => some 12
  | .openShutter _ _ => some 12
  | .clearShutter _ _ => some 12
  | .readSiren _ _ => some 8
  | .silenceSiren _ _ => some 8
  | .readChannel _ _ => some 32
  | .readAirflow _ _ => some 16
  | .readTemperature _ _ => some 16
  | _ => none

/-- A request of a good shape at a part that listens: the length is right, and a command without a target has none. -/
def goodRequest (c : Instr) (s : State) : Prop :=
  s.listens ∧ ∃ n names t d, linkForm c = some (n, names, t, d) ∧ d.length = n ∧ (names = .nothing → t = 0)

/-- A transaction that answers no link command: an opcode assigned to none, or a request damaged on the link (R185 to R188). -/
def isOddTransaction : Instr → Bool
  | .unknownOp _ _ _ => true
  | .headerParityError _ => true
  | .badCrc _ _ _ => true
  | .shortTransaction => true
  | _ => false

/-- The rows that make a part reset take place (R195). -/
def isPartReset : Instr → Bool
  | .linkPartResetTakesPlace => true
  | .resetLineLow => true
  | .resetLineHigh _ => true
  | .powerUp => true
  | _ => false

/-! ## What no event changes on its way -/

/-- The loaded fields and the limit inputs of a gate (R6). -/
def Gate.fixed (g : Gate) : Bool × SegId × SegId × SegId × Nat × Bool × Bool × Bool :=
  (g.inUse, g.owner, g.normalOut, g.abortOut, g.stroke, g.onShutdown, g.normalLimit, g.abortLimit)

/-- The loaded fields and the zone set of a line (R133, R14). -/
def Line.fixed (l : Line) : Bool × FanId × Option FanId × Nat × Nat × Nat × Nat × BitVec 16 :=
  (l.inUse, l.firstFan, l.secondFan, l.runUp, l.runDown, l.burstCount, l.burstWindow, l.zones)

/-- The loaded fields and the pressure input of a station (R100). -/
def Station.fixed (q : Station) :
    Bool × Nat × Nat × Nat × Nat × Nat × Nat × Nat × Option TempId × Bool × Bool :=
  (q.inUse, q.draw, q.lead, q.holdSpark, q.holdEmber, q.confirmTime, q.maxRelease, q.purgeTime, q.link, q.flood,
    q.pressure)

/-- The loaded fields, the permit and the inputs of a shutter (R159). -/
def Shutter.fixed (h : Shutter) : ZoneId × Option ZoneId × Level × Nat × Bool × Bool × Bool × Bool :=
  (h.sideA, h.sideB, h.closeLevel, h.timeout, h.granted, h.openLimit, h.closedLimit, h.obstructed)

/-- The loaded fields of a siren (R174). -/
def Siren.fixed (y : Siren) : BitVec 16 × Option TempId × Int × Pattern × Pattern × Pattern :=
  (y.zones, y.link, y.derateAt, y.watch, y.alarm, y.fire)

/-- The loaded fields of every record that a load writes, without the inputs. -/
def State.loadedAlike (s t : State) : Prop :=
  t.limits = s.limits ∧ t.segments = s.segments ∧
  (∀ g : GateId, t.gates[g].inUse = s.gates[g].inUse ∧ t.gates[g].owner = s.gates[g].owner ∧
    t.gates[g].normalOut = s.gates[g].normalOut ∧ t.gates[g].abortOut = s.gates[g].abortOut ∧
    t.gates[g].stroke = s.gates[g].stroke ∧ t.gates[g].onShutdown = s.gates[g].onShutdown) ∧
  (∀ l : LineId, t.lines[l].inUse = s.lines[l].inUse ∧ t.lines[l].firstFan = s.lines[l].firstFan ∧
    t.lines[l].secondFan = s.lines[l].secondFan ∧ t.lines[l].runUp = s.lines[l].runUp ∧
    t.lines[l].runDown = s.lines[l].runDown ∧ t.lines[l].burstCount = s.lines[l].burstCount ∧
    t.lines[l].burstWindow = s.lines[l].burstWindow) ∧
  (∀ x : StationId, { t.stations[x] with pressure := s.stations[x].pressure }.fixed = s.stations[x].fixed) ∧
  (∀ d : ChanId, t.channels[d].type = s.channels[d].type ∧ t.channels[d].tolerant = s.channels[d].tolerant ∧
    t.channels[d].threshold = s.channels[d].threshold) ∧
  (∀ a : AirId, t.airflows[a].inUse = s.airflows[a].inUse ∧ t.airflows[a].scale = s.airflows[a].scale) ∧
  (∀ i : TempId, t.temps[i].inUse = s.temps[i].inUse ∧ t.temps[i].zone = s.temps[i].zone ∧
    t.temps[i].hotAt = s.temps[i].hotAt ∧ t.temps[i].alarmAt = s.temps[i].alarmAt ∧
    t.temps[i].fireAt = s.temps[i].fireAt) ∧
  (∀ h : ShutterId, t.shutters[h].sideA = s.shutters[h].sideA ∧ t.shutters[h].sideB = s.shutters[h].sideB ∧
    t.shutters[h].closeLevel = s.shutters[h].closeLevel ∧ t.shutters[h].timeout = s.shutters[h].timeout) ∧
  (∀ y : SirenId, t.sirens[y].fixed = s.sirens[y].fixed)

/-- What no delivery of an event changes: the mode and its results, the clocks, the layout, the detector, airflow and
temperature channels, the link, and of every other record its loaded fields, inputs and permits. The frame of the events
whose effects reach other blocks. -/
structure State.Framed (s t : State) : Prop where
  now : t.now = s.now
  resetLow : t.resetLow = s.resetLow
  mode : t.mode = s.mode
  walkEnd : t.walkEnd = s.walkEnd
  result : t.result = s.result
  guardEntry : t.guardEntry = s.guardEntry
  nextGate : t.nextGate = s.nextGate
  nextSurvey : t.nextSurvey = s.nextSurvey
  limits : t.limits = s.limits
  segments : t.segments = s.segments
  fanFeedback : t.fanFeedback = s.fanFeedback
  channels : t.channels = s.channels
  airflows : t.airflows = s.airflows
  temps : t.temps = s.temps
  link : t.link = s.link
  pending : t.pending = s.pending
  gates : ∀ g : GateId, t.gates[g].fixed = s.gates[g].fixed
  lines : ∀ l : LineId, t.lines[l].fixed = s.lines[l].fixed
  stations : ∀ x : StationId, t.stations[x].fixed = s.stations[x].fixed
  shutters : ∀ h : ShutterId, t.shutters[h].fixed = s.shutters[h].fixed
  sirens : ∀ y : SirenId, t.sirens[y].fixed = s.sirens[y].fixed
  callRaw : ∀ z : ZoneId, t.zones[z].callRaw = s.zones[z].callRaw
  callChanged : ∀ z : ZoneId, t.zones[z].callChanged = s.zones[z].callChanged
  flags : s.notices.flags ||| t.notices.flags = t.notices.flags
  noticeRest : { t.notices with flags := s.notices.flags } = s.notices

/-- A notice flag is set. -/
def State.raised (s : State) (n : Notice) : Prop := inSet s.notices.flags n.bit = true

/-! ## The checks of the validation walk (R11, R12) -/

/-- How many points of segments in use name something. -/
def State.placings (s : State) (what : Placed) : Nat :=
  ((List.finRange 128).map fun i =>
    if s.segments[i].inUse then s.segments[i].points.countP fun p => p.what == what else 0).sum

/-- A path goes on from one segment to another: into the named segment, or into either outlet of the gate (R12). -/
def State.leadsTo (s : State) (i j : SegId) : Prop :=
  match s.segments[i].outlet with
  | .next k => j = k
  | .gate g => j = s.gates[g].normalOut ∨ j = s.gates[g].abortOut
  | .ends _ => False

/-- A violation stands in the layout: its check is violated at its instance (R11, R12). -/
def State.breaks (s : State) : Violation → Prop
  | .segLine i => s.segments[i].inUse = true ∧ s.lines[s.segments[i].line].inUse = false
  | .segAirflow i => s.segments[i].inUse = true ∧ ∃ a, s.segments[i].source = some a ∧ s.airflows[a].inUse = false
  | .segNext i => s.segments[i].inUse = true ∧ ∃ j, s.segments[i].outlet = .next j ∧ s.segments[j].inUse = false
  | .segGate i => s.segments[i].inUse = true ∧
      ∃ g, s.segments[i].outlet = .gate g ∧ (s.gates[g].inUse = false ∨ s.gates[g].owner ≠ i)
  | .gateOwner g => s.gates[g].inUse = true ∧
      (s.segments[s.gates[g].owner].inUse = false ∨ s.segments[s.gates[g].owner].outlet ≠ .gate g)
  | .gateOutlet g => s.gates[g].inUse = true ∧
      (s.segments[s.gates[g].normalOut].inUse = false ∨ s.segments[s.gates[g].abortOut].inUse = false ∨
        s.gates[g].normalOut = s.gates[g].abortOut)
  | .pointPosition i => s.segments[i].inUse = true ∧ ∃ p ∈ s.segments[i].points, s.segments[i].length ≤ p.position
  | .pointDetector d => s.channels[d].type = .off ∧ 0 < s.placings (.detector d)
  | .pointStation x => s.stations[x].inUse = false ∧ 0 < s.placings (.station x)
  | .detectorPlacement d => s.channels[d].type ≠ .off ∧ s.placings (.detector d) ≠ 1
  | .stationPlacement x => s.stations[x].inUse = true ∧ s.placings (.station x) ≠ 1
  | .pathLong i => s.segments[i].inUse = true ∧
      ∃ p : Nat → SegId, p 0 = i ∧ ∀ k < 32, s.leadsTo (p k) (p (k + 1))
  | .codesClose =>
      ((List.range 8).countP fun b => s.limits.sparkCode.getLsbD b != s.limits.emberCode.getLsbD b) < 3
  | .lineFans l => s.lines[l].inUse = true ∧
      (s.lines[l].secondFan = some s.lines[l].firstFan ∨
        ∃ (k : LineId) (m : FanId), k < l ∧ s.lines[k].inUse = true ∧
          (s.lines[l].firstFan = m ∨ s.lines[l].secondFan = some m) ∧
          (s.lines[k].firstFan = m ∨ s.lines[k].secondFan = some m))

/-- The order number of a violation's check (R11). -/
def Violation.check : Violation → Nat
  | .segLine _ => 1 | .segAirflow _ => 2 | .segNext _ => 3 | .segGate _ => 4 | .gateOwner _ => 5 | .gateOutlet _ => 6
  | .pointPosition _ => 7 | .pointDetector _ => 8 | .pointStation _ => 8 | .detectorPlacement _ => 9
  | .stationPlacement _ => 10 | .pathLong _ => 11 | .codesClose => 12 | .lineFans _ => 13

/-- The place of an instance's kind in the list of R18: SEGMENT, GATE, DETECTOR, STATION, LINE, NONE. -/
def Violation.kind : Violation → Nat
  | .gateOwner _ => 1 | .gateOutlet _ => 1 | .pointDetector _ => 2 | .detectorPlacement _ => 2 | .pointStation _ => 3
  | .stationPlacement _ => 3 | .lineFans _ => 4 | .codesClose => 5 | _ => 0

/-- The number of a violation's instance; CODES_CLOSE names none. -/
def Violation.number : Violation → Nat
  | .segLine i => i.val | .segAirflow i => i.val | .segNext i => i.val | .segGate i => i.val | .gateOwner g => g.val
  | .gateOutlet g => g.val | .pointPosition i => i.val | .pointDetector d => d.val | .pointStation x => x.val
  | .detectorPlacement d => d.val | .stationPlacement x => x.val | .pathLong i => i.val | .codesClose => 0
  | .lineFans l => l.val

/-- The walk comes to one violation no later than to another: by the order of the checks, and within a check by number
among instances of one kind (R11). -/
def Violation.notAfter (v w : Violation) : Prop :=
  v.check < w.check ∨ (v.check = w.check ∧ (v.kind = w.kind → v.number ≤ w.number))

/-! ## Invariants -/

/-- While the RESET line is low the part stands at mill time 0 in CONFIG (R195). -/
def State.resetHeld (s : State) : Prop := s.resetLow = true → s.now = 0 ∧ s.mode = .config

/-- The sum of the effective draws of the stations in RELEASING (R107). -/
def State.drawn (s : State) : Nat :=
  (List.finRange 24).foldl (fun n x => n + if s.stations[x].state = .releasing then s.drawOf x else 0) 0

/-- The free units and the draws of the stations in RELEASING make up the pressure units, and no station releases
outside GUARD (R107, R124). -/
def State.unitsBalance (s : State) : Prop :=
  s.freeUnits + s.drawn = s.limits.units ∧
    (s.mode ≠ .guarded → ∀ x : StationId, s.stations[x].state ≠ .releasing)

/-- Every zone stands at the level its latched level and its live count give (R150). -/
def State.levelsComputed (s : State) : Prop := ∀ z : ZoneId, s.zones[z].level = s.zones[z].computed

/-- The start queue holds the lines in START_WAIT, each once; a line not in use is STOPPED, and outside GUARD every line
is STOPPED or STOPPING (R141, R142, R145). -/
def State.linesOrdered (s : State) : Prop :=
  s.startQueue.Nodup ∧ (∀ l : LineId, l ∈ s.startQueue ↔ s.lines[l].state = .startWait) ∧
    (∀ l : LineId, s.lines[l].inUse = false → s.lines[l].state = .stopped) ∧
    (s.mode ≠ .guarded → ∀ l : LineId, s.lines[l].state = .stopped ∨ s.lines[l].state = .stopping)

/-- No station's served list holds more than eight entries (R102, R103). -/
def State.servedFits (s : State) : Prop := ∀ x : StationId, s.stations[x].served.length ≤ Config.servedRoom

end Sys2Proof.Machine
end

