-- ==== Sys2Proof/WellFormed.lean ====
section
/-! DEFINITION. Which terms of `Instr` stand for something the outside world can send. -/
namespace Sys2Proof

/-- A request's length byte bounds its data (R184). -/
def dataFits (data : List Byte) : Bool := decide (data.length ≤ 255)

/-- A place in a plan: at most twelve entries are pending (R85). -/
def placeFits (place : Nat) : Bool := decide (place < Config.planRoom)

/-- A damaged request in which only the CRC is wrong: the header parity is good, the length says how many data
bytes there are and is above 0, and the received CRC is not the computed one (R185, R186). -/
def crcDamaged (header : BitVec 32) (data : List Byte) (crc : Half) : Bool :=
  headerParityGood header && decide (0 < data.length) && (headerLength header == data.length)
    && (crc16 (headerBytes header ++ data) != crc)

/-- A command is well formed when it can reach the part as its row says. -/
def Instr.wellFormed : Instr → Bool
  | .loadLimits _ data => dataFits data
  | .loadSegment _ data => dataFits data
  | .loadPoint _ data => dataFits data
  | .loadGate _ data => dataFits data
  | .loadLine _ data => dataFits data
  | .loadStation _ data => dataFits data
  | .loadChannel _ data => dataFits data
  | .loadAirflow _ data => dataFits data
  | .loadTemperature _ data => dataFits data
  | .loadShutter _ data => dataFits data
  | .loadSiren _ data => dataFits data
  | .loadPattern _ data => dataFits data
  | .commit _ data => dataFits data
  | .releaseGuard _ data => dataFits data
  | .readStatus _ data => dataFits data
  | .lookupTrack _ data => dataFits data
  | .listTracks _ data => dataFits data
  | .annotateTrack _ data => dataFits data
  | .retireTrack _ data => dataFits data
  | .injectTrack _ data => dataFits data
  | .readZone _ data => dataFits data
  | .ackZone _ data => dataFits data
  | .callZone _ data => dataFits data
  | .readStation _ data => dataFits data
  | .manualRelease _ data => dataFits data
  | .cancelRelease _ data => dataFits data
  | .lockStation _ data => dataFits data
  | .unlockStation _ data => dataFits data
  | .clearStation _ data => dataFits data
  | .readLine _ data => dataFits data
  | .restartLine _ data => dataFits data
  | .stopLine _ data => dataFits data
  | .readGate _ data => dataFits data
  | .gateNormal _ data => dataFits data
  | .clearGate _ data => dataFits data
  | .readShutter _ data => dataFits data
  | .grantHold _ data => dataFits data
  | .revokeHold _ data => dataFits data
  | .grantAll _ data => dataFits data
  | .revokeAll _ data => dataFits data
  | .openShutter _ data => dataFits data
  | .clearShutter _ data => dataFits data
  | .readSiren _ data => dataFits data
  | .silenceSiren _ data => dataFits data
  | .readChannel _ data => dataFits data
  | .readAirflow _ data => dataFits data
  | .readTemperature _ data => dataFits data
  | .readNotices _ data => dataFits data
  | .clearNotices _ data => dataFits data
  | .setNotices _ data => dataFits data
  | .maskNotices _ data => dataFits data
  | .partReset _ data => dataFits data
  | .unknownOp opcode _ data => !opcodeAssigned opcode && dataFits data
  | .headerParityError header => !headerParityGood header.bits
  | .badCrc header data crc => crcDamaged header data crc
  | .stationEarlyBound _ place => placeFits place
  | .stationLateBound _ place => placeFits place
  | .entryLateBound _ place => placeFits place
  | _ => true

end Sys2Proof
end

