-- ==== Sys2Proof/Certificates/Slice0/Obligations.lean ====
section
/-! DEFINITION. The statements about the part, for the provers. Each names its rules in OBLIGATIONS.json. -/
open Sys2Proof Sys2Proof.Machine

/-! ## Steps, modes and resets -/

/-- A step takes the command at the front of the queue and runs it on the state with the queue's rest. -/
def Obligations.StepRunsFrontCommand : Prop :=
  ∀ (c : Instr) (rest : List Instr) (s : State),
    step { s with pending := c :: rest } = exec c { s with pending := rest }

/-- On an empty queue a step does nothing while RESET is low, else queues the event of time that is due, and with none due
lets one tick pass, in which the stations of GUARD accumulate up to the purge interval. That an empty queue brings what
time brings is the model's choice of log row 1, the bound of the accumulation that of log row 25, and that the pulse of
ALERT ends within its tick that of log row 8. -/
def Obligations.EmptyQueueStep : Prop :=
  ∀ s : State, s.pending = [] →
    (s.resetLow = true → step s = .next s) ∧
    (s.resetLow = false → ∀ c, s.nextDue = some c → step s = .next { s with pending := [c] }) ∧
    -- ALERT returns high by itself (R185, R186)
    (s.resetLow = false → ∀ stop, s.link.alert = .held stop → stop ≤ s.now →
      step s = .next { s with pending := [.alertHoldEnd] }) ∧
    (s.resetLow = false → s.link.alert = .pulse → step s = .next { s with pending := [.alertPulseEnd] }) ∧
    (s.resetLow = false → s.nextDue = none →
      step s = .next { s with
        now := s.now + 1,
        stations := if s.mode = .guarded then
            s.stations.map fun q =>
              if q.inUse then
                { q with
                  accumulation :=
                    min (s.limits.purgeInterval * 10000) (q.accumulation + if s.hotFor q then 2 else 1) }
              else q
          else s.stations })

/-- What the part holds right after reset: CONFIG at mill time 0 with the default limits, nothing in use, no live track,
nothing raised, the zones NORMAL, the stations IDLE, the lines STOPPED with cause RESET. -/
def Obligations.ResetValues : Prop :=
  State.reset.now = 0 ∧ State.reset.mode = .config ∧ State.reset.result = .none ∧
  State.reset.limits = {
    units := 4, tol := 10, vStall := 20, stallLimit := 10, linger := 30, budget := 2,
    supervision := 10, purgeInterval := 600, floodMin := 20, sparkCode := 0xB4, emberCode := 0x2D } ∧
  (∀ i : SegId, State.reset.segments[i] = {
    inUse := false, length := 1, source := none, fixedVel := 600, zone := 0,
    line := 0, outlet := .ends 0, endKind := .safeEnd, points := [] }) ∧
  (∀ g : GateId, State.reset.gates[g].inUse = false ∧ State.reset.gates[g].state = .toAbort ∧
    State.reset.gates[g].stroke = 15) ∧
  (∀ l : LineId, State.reset.lines[l].inUse = false ∧ State.reset.lines[l].state = .stopped ∧
    State.reset.lines[l].cause = .reset ∧ State.reset.lines[l].firstFan = l) ∧
  (∀ d : ChanId, State.reset.channels[d].type = .off ∧ State.reset.channels[d].state = .off) ∧
  (∀ a : AirId, State.reset.airflows[a].inUse = false ∧ State.reset.airflows[a].scale = 64) ∧
  (∀ t : TempId, State.reset.temps[t].inUse = false ∧ State.reset.temps[t].fireAt = 2500) ∧
  (∀ i : SlotId, State.reset.slots[i] = { gen := 0, track := none }) ∧ State.reset.nextSeq = 0 ∧
  (∀ x : StationId, State.reset.stations[x].state = .idle ∧ State.reset.stations[x].served = []) ∧
  State.reset.freeUnits = 4 ∧
  (∀ z : ZoneId, State.reset.zones[z].level = .normal ∧ State.reset.zones[z].latched = .normal ∧
    State.reset.zones[z].acknowledged = true ∧ State.reset.zones[z].faults = 0) ∧
  (∀ h : ShutterId, State.reset.shutters[h].granted = false ∧ State.reset.shutters[h].closeLevel = .alarm) ∧
  (∀ y : SirenId, State.reset.sirens[y].phase = .quiet ∧ State.reset.sirens[y].cls = .normal) ∧
  State.reset.notices = { flags := 0, mask := 0, lastError := none, parity := 0, crc := 0, short := 0 } ∧
  State.reset.link.alert = .idle ∧ State.reset.pending = []

/-- The part mode changes on the events of R9 and on no others; COMMIT taken changes nothing else but the end of the walk
and the reply. -/
def Obligations.ModeMoves : Prop :=
  (∀ (c : Instr) (s t : State), exec c s = .next t → t.mode ≠ s.mode →
    (isPartReset c = true ∧ t.mode = .config) ∨
    ((∃ target data, c = .commit target data) ∧ s.mode = .config ∧ t.mode = .committing) ∨
    (c = .validationWalkEnd ∧ s.mode = .committing ∧
      ((s.firstViolation ≠ none ∧ t.mode = .config) ∨ (s.firstViolation = none ∧ t.mode = .guarded))) ∨
    ((∃ target data, c = .releaseGuard target data) ∧ s.mode = .guarded ∧ t.mode = .config)) ∧
  (∀ s : State, ∃ t : State, exec .powerUp s = .next t ∧ t.mode = .config) ∧
  (∀ s : State, s.resetLow = false → ∃ t : State, exec .resetLineLow s = .next t ∧ t.mode = .config) ∧
  (∀ s : State, s.link.resetTaken = true → ∃ t : State, exec .linkPartResetTakesPlace s = .next t ∧ t.mode = .config) ∧
  (∀ s : State, s.listens → s.mode = .config →
    exec (.commit 0 []) s =
      .next ({ s with mode := .committing, walkEnd := some (s.now + 200) }.replyWith (.ok []))) ∧
  (∀ s : State, s.resetLow = false → s.mode = .committing → reached s.walkEnd s.now = true →
    ∃ t : State, exec .validationWalkEnd s = .next t ∧
      t.mode = if s.firstViolation = none then .guarded else .config) ∧
  (∀ s : State, s.listens → s.mode = .guarded → (∀ z : ZoneId, s.zones[z].level.val < 2) →
    (∀ (i : SlotId) (k : Track), s.track? i = some k → k.state = .spent) →
    ∃ t : State, exec (.releaseGuard 0 []) s = .next (t.replyWith (.ok [])) ∧ t.mode = .config) ∧
  (∀ s : State, s.listens → s.mode = .guarded → exec (.commit 0 []) s = .next (s.replyWith (.bare .wrongMode))) ∧
  (∀ s : State, s.listens → s.mode = .config → exec (.releaseGuard 0 []) s = .next (s.replyWith (.bare .wrongMode))) ∧
  (∀ s : State, s.listens → s.mode = .committing → exec (.releaseGuard 0 []) s = .next (s.replyWith (.bare .busy)))

/-- The walk finds a violation exactly where one of the thirteen checks is violated, and it ends at the first in the order of
the checks and, within a check, of the instance numbers. A walk that ends at a violation returns the part to CONFIG with
FAILED and the COMMIT notice, and leaves everything else as it was. -/
def Obligations.WalkEndsAtViolation : Prop :=
  (∀ s : State, s.firstViolation = none ↔ ∀ v : Violation, ¬s.breaks v) ∧
  (∀ (s : State) (v : Violation), s.firstViolation = some v → s.breaks v ∧ ∀ w, s.breaks w → v.notAfter w) ∧
  ∀ (s : State) (v : Violation), s.resetLow = false → s.mode = .committing → reached s.walkEnd s.now = true →
    s.firstViolation = some v →
    exec .validationWalkEnd s = .next { s with
      mode := .config, walkEnd := none, result := .failed v,
      notices := { s.notices with flags := s.notices.flags ||| Notice.commit.flag } }

/-- A walk that ends without a violation enters GUARD with PASSED and the COMMIT notice: channels, histories, flags,
zone sets, debts and siren counts are as GUARD entry sets them, and a settled gate whose confirming limit is open
faults. An airflow channel in use has four times its present sample as its history. With the table empty, as CONFIG leaves it,
also: every unit is free, a travelling gate starts its timer, the lines' stop cause is CONFIG, the sirens' counts are 0, and
the zones' fault flags are those of their sources: SHUTTER and STATION as shutters and stations stand in FAULT, the others
clear. The order of these effects is the model's choice of log row 27, that every line gets the cause its reading of row 26,
that a receiver's window is empty that of row 44, and that the tick of the last change of stall state stays its choice of row
45. -/
def Obligations.WalkEntersGuard : Prop :=
  ∀ s : State, s.resetLow = false → s.mode = .committing → reached s.walkEnd s.now = true →
    s.firstViolation = none → s.linesOrdered →
    ∃ t : State, exec .validationWalkEnd s = .next t ∧ t.mode = .guarded ∧ t.walkEnd = none ∧ t.result = .passed ∧
      t.raised .commit ∧ t.guardEntry = some s.now ∧ t.nextSurvey = some (s.now + 10000) ∧
      t.now = s.now ∧ t.limits = s.limits ∧ t.segments = s.segments ∧ t.nextSeq = s.nextSeq ∧
      (∀ d : ChanId, s.channels[d].type = .off → t.channels[d] =
        { s.channels[d] with state := .off, published := 0, publishedErrors := 0, lastAccepted := none }) ∧
      (∀ d : ChanId, s.channels[d].type ≠ .off → t.channels[d] =
        { s.channels[d] with
          state := .inService, latch := 0, missed := 0, errors := 0, lastAccepted := none, echoWindow := none,
          receiver := .hunting [], nextPulse := some (s.now + s.limits.supervision * 10000), testDrive := none }) ∧
      (∀ a : AirId, t.airflows[a] =
        if s.airflows[a].inUse = true then
          let n := s.airflows[a].sample
          { s.airflows[a] with
            history := some { oldest := n, second := n, third := n, newest := n }, smoothed := some n,
            stall := if n < s.limits.vStall then .stalled else .flowing }
        else s.airflows[a]) ∧
      (∀ i : TempId, s.temps[i].inUse = true → t.temps[i] =
        { s.temps[i] with
          state := .reading, missing := 0, hot := false, alarm := false, fire := false, derate := 0 }) ∧
      (∀ l : LineId, t.lines[l].zones = s.zoneSetOf l ∧ t.lines[l].burst = []) ∧
      (∀ x : StationId, t.stations[x].debt = 0 ∧ t.stations[x].accumulation = 0) ∧
      (∀ y : SirenId, t.sirens[y].groupsSounded = 0) ∧
      (∀ g : GateId, s.gates[g].inUse = true → s.gates[g].limitLost = true →
        t.gates[g].state = .fault ∧ t.gates[g].faultReason = some .limitLost ∧ t.raised .gate) ∧
      ((∀ i : SlotId, s.track? i = none) →
        t.freeUnits = s.limits.units ∧ t.slots = s.slots ∧ t.shutters = s.shutters ∧
        (∀ x : StationId, t.stations[x] = { s.stations[x] with served := [], debt := 0, accumulation := 0 }) ∧
        (∀ l : LineId, t.lines[l] = { s.lines[l] with zones := s.zoneSetOf l, burst := [], cause := .config }) ∧
        (∀ y : SirenId, t.sirens[y] =
          { s.sirens[y] with
            blastIndex := 0, groupIndex := 0, reportCount := 0, groupsSounded := 0, derated := false }) ∧
        (∀ g : GateId, t.gates[g] =
          let q := s.gates[g]
          if q.inUse = true ∧ (q.state = .toAbort ∨ q.state = .toNormal) then
            { q with timer := some (s.now + 2 * q.stroke * 1000) }
          else if q.inUse = true ∧ (q.state = .normal ∧ q.normalLimit = false ∨ q.state = .abort ∧ q.abortLimit = false)
          then
            { q with
              state := .fault, timer := none, faultReason := some .limitLost, diversions := [],
              stateChanged := some s.now }
          else q) ∧
        (∀ z : ZoneId, ∃ f : BitVec 5, t.zones[z] = { s.zones[z] with faults := f } ∧
          f.getLsbD 0 = false ∧ f.getLsbD 2 = false ∧ f.getLsbD 4 = false ∧
          (f.getLsbD 1 = true ↔
            ∃ x : StationId, s.stations[x].state = .fault ∧ s.zoneOfPlaced (.station x) = some z) ∧
          (f.getLsbD 3 = true ↔
            ∃ h : ShutterId, s.shutters[h].state = .fault ∧
              (s.shutters[h].sideA = z ∨ s.shutters[h].sideB = some z))))

/-- RELEASE GUARD is refused while a zone is at ALARM or FIRE, and next while a live track is not SPENT; nothing but the
reply changes. -/
def Obligations.ReleaseGuardRefused : Prop :=
  ∀ s : State, s.listens → s.mode = .guarded →
    ((∃ z : ZoneId, 2 ≤ s.zones[z].level.val) →
      exec (.releaseGuard 0 []) s = .next (s.replyWith (.refused .zoneActive))) ∧
    ((∀ z : ZoneId, s.zones[z].level.val < 2) →
      (∃ (i : SlotId) (k : Track), s.track? i = some k ∧ k.state ≠ .spent) →
      exec (.releaseGuard 0 []) s = .next (s.replyWith (.refused .trackActive)))

/-- RELEASE GUARD taken: the part is in CONFIG, the table is empty with its generations moved on, the zones are NORMAL
without causes or fault flags, the sirens are QUIET, the channels OFF, and the layout and the commit result stand. Every
unit is free, the stations are IDLE or LOCKED without demand or debt, the temperature channels are NONE, a line that is up
shuts down with cause CONFIG and drives its abort-on-shutdown gates, no gate's timer runs, and an OPEN or OPENING shutter
closes, pauses or drops by its obstruction. The order of these effects is the model's choice of log row 16. That a
station's request tick becomes absent is the model's reading of log row 17, and `minRunAt` is its own field of log row 1.
That the run-up end of a line shut down becomes absent is its reading of log row 52. -/
def Obligations.ReleaseGuardEndsProtection : Prop :=
  ∀ s : State, s.listens → s.mode = .guarded → (∀ z : ZoneId, s.zones[z].level.val < 2) →
    (∀ (i : SlotId) (k : Track), s.track? i = some k → k.state = .spent) →
    ∃ t : State, exec (.releaseGuard 0 []) s = .next (t.replyWith (.ok [])) ∧ t.mode = .config ∧ t.result = s.result ∧
      t.now = s.now ∧ s.loadedAlike t ∧ t.nextSeq = s.nextSeq ∧ t.startQueue = [] ∧
      (∀ i : SlotId, t.slots[i] =
        { gen := if (s.track? i).isSome then s.slots[i].gen + 1 else s.slots[i].gen, track := none }) ∧
      (∀ z : ZoneId, t.zones[z].level = .normal ∧ t.zones[z].latched = .normal ∧ t.zones[z].live = 0 ∧
        t.zones[z].escaped = 0 ∧ t.zones[z].burst = false ∧ t.zones[z].tableFull = false ∧
        t.zones[z].linkCall = none ∧ t.zones[z].faults = 0 ∧ t.zones[z].acknowledged = true ∧
        t.zones[z].callActive = false) ∧
      (∀ y : SirenId, t.sirens[y].phase = .quiet ∧ t.sirens[y].cls = .normal ∧
        t.sirens[y].groupsSounded = s.sirens[y].groupsSounded) ∧
      (∀ d : ChanId, t.channels[d].state = .off ∧ t.channels[d].latch = s.channels[d].latch ∧
        t.channels[d].published = s.channels[d].published ∧ t.channels[d].echoWindow = none) ∧
      (∀ a : AirId, t.airflows[a].history = none ∧ t.airflows[a].smoothed = none ∧ t.airflows[a].stall = .none) ∧
      (∀ x : StationId, t.stations[x].manual = none ∧
        (t.stations[x].state = .locked ↔ s.stations[x].state = .locked)) ∧
      (∀ i : TempId, t.temps[i] =
        { s.temps[i] with state := .none, hot := false, alarm := false, fire := false, derate := 0 }) ∧
      (s.levelsComputed →
        t.freeUnits = s.limits.units ∧
        (∀ x : StationId, t.stations[x] =
          { s.stations[x] with
            state := if s.stations[x].state = .locked then .locked else .idle, served := [], manual := none,
            floodDemand := false, requestTick := none, releaseStart := none, cutStart := none, confirm := .absent,
            faultReason := none, debt := 0, accumulation := 0, purgeEnd := none, minRunAt := none }) ∧
        (∀ l : LineId, s.lines[l].inUse = true →
          (s.lines[l].state = .running ∨ s.lines[l].state = .starting → t.lines[l] =
            { s.lines[l] with
              cause := .config, burst := [], runUpEnd := none,
              state := if s.lines[l].runDown = 0 then .stopped else .stopping,
              runDownEnd := if s.lines[l].runDown = 0 then none else some (s.now + s.lines[l].runDown * 10000) }) ∧
          (s.lines[l].state = .startWait → t.lines[l] =
            { s.lines[l] with
              cause := .config, burst := [], runUpEnd := none, state := .stopped, runDownEnd := none }) ∧
          (s.lines[l].state = .stopped ∨ s.lines[l].state = .stopping →
            t.lines[l] = { s.lines[l] with burst := [] })) ∧
        (∀ g : GateId,
          let line := s.lines[s.segments[s.gates[g].owner].line]
          let driven : Prop := s.gates[g].inUse = true ∧ s.gates[g].onShutdown = true ∧
            (s.gates[g].state = .normal ∨ s.gates[g].state = .toNormal) ∧ line.inUse = true ∧
            (line.state = .running ∨ line.state = .starting ∨ line.state = .startWait)
          t.gates[g].timer = none ∧
          (driven → t.gates[g].state =
            if s.gates[g].abortLimit = true ∧ s.gates[g].normalLimit = false then .abort else .toAbort) ∧
          (¬driven → t.gates[g].state = s.gates[g].state)) ∧
        (∀ h : ShutterId,
          let q := s.shutters[h]
          (q.state = .opened ∨ q.state = .opening →
            (q.obstructed = false → t.shutters[h] =
              { q with
                state := .closing, travel := .running (s.now + q.timeout * 10000), stateChanged := some s.now }) ∧
            (q.obstructed = true → q.obstructions < 2 → t.shutters[h] =
              { q with
                state := .paused, obstructions := q.obstructions + 1, travel := .frozen (q.timeout * 10000),
                pauseStart := some s.now, rearmEnd := none, stateChanged := some s.now }) ∧
            (q.obstructed = true → 2 ≤ q.obstructions → t.shutters[h] =
              { q with
                state := .dropping, obstructions := q.obstructions + 1,
                travel := .running (s.now + q.timeout * 10000), pauseStart := none, rearmEnd := none,
                stateChanged := some s.now })) ∧
          (q.state ≠ .opened → q.state ≠ .opening → t.shutters[h] = q)))

/-- A part reset, from the RESET line, from PART RESET or from power-up, in every mode: CONFIG, an empty store, no result,
no notice, and every record in its reset state; the inputs keep their levels, and the shutters' states come from their
closed limits. That the inputs, the level of RESET and the queue stand is the model's choice of log row 29, that the
shutters' states are taken at the fall and again at the rise of RESET that of log row 28, the reset values of fields for which
no rule gives one, a station's fault reason and confirm field among them, those of log row 6, and that the rise of RESET
carries the ticks to the rise of chip select that of log row 8. -/
def Obligations.PartResetFromAnyMode : Prop :=
  (∀ s : State, ∃ t : State,
    exec .powerUp s = .next t ∧
    (s.resetLow = false → ∃ u : State, exec .resetLineLow s = .next u ∧ u = { t with resetLow := true }) ∧
    (s.link.resetTaken = true → exec .linkPartResetTakesPlace s = .next t) ∧
    (∀ low : Option Nat, s.resetLow = true → ∃ u : State, exec (.resetLineHigh low) s = .next u ∧
      u = { t with resetLow := false, link := { t.link with ignoring := low } }) ∧
    t.mode = .config ∧ t.walkEnd = none ∧ t.result = .none ∧ t.now = 0 ∧ t.nextGate = 1000 ∧
    t.limits = State.reset.limits ∧ t.segments = State.reset.segments ∧ t.lines = State.reset.lines ∧
    t.startQueue = [] ∧ t.startList = [] ∧ t.channels = State.reset.channels ∧
    t.airflows = State.reset.airflows ∧ t.temps = State.reset.temps ∧ t.slots = State.reset.slots ∧
    t.nextSeq = 0 ∧ t.freeUnits = 4 ∧ t.sirens = State.reset.sirens ∧ t.notices = State.reset.notices ∧
    t.link = State.reset.link ∧ t.resetLow = s.resetLow ∧ t.pending = s.pending ∧ t.fanFeedback = s.fanFeedback ∧
    (∀ g : GateId, t.gates[g] = { State.reset.gates[g] with
      normalLimit := s.gates[g].normalLimit, abortLimit := s.gates[g].abortLimit }) ∧
    (∀ x : StationId, t.stations[x] = { State.reset.stations[x] with pressure := s.stations[x].pressure }) ∧
    (∀ z : ZoneId, t.zones[z] = { State.reset.zones[z] with callRaw := s.zones[z].callRaw }) ∧
    (∀ h : ShutterId, t.shutters[h] = { State.reset.shutters[h] with
      openLimit := s.shutters[h].openLimit, closedLimit := s.shutters[h].closedLimit,
      obstructed := s.shutters[h].obstructed,
      state := if s.shutters[h].closedLimit then .closed else .dropping,
      travel := if s.shutters[h].closedLimit then .absent else .running 600000 })) ∧
  (∀ s : State, s.listens → s.mode ≠ .committing →
    exec (.partReset 0 []) s = .next ({ s with link := { s.link with resetTaken := true } }.replyWith (.ok []))) ∧
  (∀ s : State, s.link.resetTaken = false → exec .linkPartResetTakesPlace s = .next s) ∧
  (∀ s : State, s.resetLow = true → exec .resetLineLow s = .next s) ∧
  (∀ (s : State) (low : Option Nat), s.resetLow = false → exec (.resetLineHigh low) s = .next s)

/-! ## The panel link -/

/-- The bytes of a request name its command: the opcode without its parity bit, the target and the data, and an opcode assigned
to no command is a command of its own; the bytes that a panel processor sends are read as the command they were sent for,
whatever follows them. Requests of a wrong shape: an unassigned opcode, a wrong data length, a target where there is none. -/
def Obligations.RequestShapeJudged : Prop :=
  (∀ (op : BitVec 7) (t : Half) (d : List Byte) (s : State), opcodeAssigned op = false → s.listens →
    exec (.unknownOp op t d) s = .next (s.replyWith (.bare .unknownOp))) ∧
  (∀ (c : Instr) (s : State) (n : Nat) (names : Names) (t : Half) (d : List Byte),
    linkForm c = some (n, names, t, d) → s.listens →
    (d.length ≠ n → exec c s = .next (s.replyWith (.bare .badLength))) ∧
    (d.length = n → names = .nothing → t ≠ 0 → exec c s = .next (s.replyWith (.bare .noSuch)))) ∧
  -- the bytes of a request (R184, R185, R186, 11.3)
  (∀ (c : Instr) (n : Nat) (names : Names) (t : Half) (d : List Byte) (op : BitVec 7),
    linkForm c = some (n, names, t, d) → opcodeOf c = some op → opcodeAssigned op = true ∧ commandOf op t d = c) ∧
  (∀ (op : BitVec 7) (t : Half) (d : List Byte),
    (opcodeAssigned op = true → opcodeOf (commandOf op t d) = some op) ∧
    (opcodeAssigned op = false → commandOf op t d = .unknownOp op t d)) ∧
  (∀ (op : BitVec 7) (t : Half) (d more : List Byte) (low : Nat), d.length < 256 →
    requestOf (requestBytes op t d ++ more) low = commandOf op t d)

/-- Transactions damaged on the link: a header of even parity, a wrong CRC, a chip select that rises early; the hold of
ALERT runs to 500 us, five ticks, after chip select rises at the end of the transaction with the parity error, and ends then
and not before; a transaction whose chip select falls in the hold is ignored; and which bytes are damaged: even parity
whatever follows the header, then too few bytes for the header, its data, its CRC and the turnaround, then a CRC that is not
that of the header and the data. That a parity error carries the ticks to the rise of chip select, that BAD_CRC is taken at
that rise, and that the pulse ends whenever it is sent its end, is the model's choice of log row 8; that
HOLD_TRANSACTION_IGNORED changes nothing outside the hold is that of log row 2. -/
def Obligations.DamagedTransactions : Prop :=
  (∀ (header : BitVec 32) (low : Nat) (s : State), onesIn header % 2 = 0 → s.listens →
    exec (.headerParityError { bits := header, low := low }) s = .next { s with
      link := { s.link with alert := .held (s.now + low + 5), reply := [], fill := 0xFF },
      notices := { s.notices with
        flags := s.notices.flags ||| Notice.linkErr.flag, lastError := some .parity,
        parity := min 255 (s.notices.parity + 1) } }) ∧
  (∀ (header : BitVec 32) (d : List Byte) (crc : Half) (s : State), onesIn header % 2 = 1 → 0 < d.length →
    (header.setWidth 8).toNat = d.length → crc16 (headerBytes header ++ d) ≠ crc → s.listens →
    exec (.badCrc header d crc) s = .next { s with
      link := { s.link with alert := .pulse, reply := (Reply.bare .badCrc).bytes, fill := 0x00 },
      notices := { s.notices with
        flags := s.notices.flags ||| Notice.linkErr.flag, lastError := some .crc,
        crc := min 255 (s.notices.crc + 1) } }) ∧
  (∀ s : State, s.listens →
    exec .shortTransaction s = .next { s with
      link := { s.link with reply := [], fill := 0x00 },
      notices := { s.notices with
        flags := s.notices.flags ||| Notice.linkErr.flag, lastError := some .short,
        short := min 255 (s.notices.short + 1) } }) ∧
  (∀ (s : State) (stop : Tick), s.link.alert = .held stop →
    (stop ≤ s.now → exec .alertHoldEnd s = .next { s with link := { s.link with alert := .idle } }) ∧
    (s.now < stop → exec .alertHoldEnd s = .next s) ∧
    exec .holdTransactionIgnored s = .next { s with link := { s.link with reply := [], fill := 0xFF } }) ∧
  (∀ s : State, (∀ stop, s.link.alert ≠ .held stop) → exec .holdTransactionIgnored s = .next s) ∧
  (∀ s : State, s.link.alert = .pulse →
    exec .alertPulseEnd s = .next { s with link := { s.link with alert := .idle } }) ∧
  -- which bytes are damaged (R184 to R187)
  (∀ (received : List Byte) (low : Nat), received.length < 4 → requestOf received low = .shortTransaction) ∧
  (∀ (header : BitVec 32) (rest : List Byte) (low : Nat),
    let n := (header.setWidth 8).toNat
    (onesIn header % 2 = 0 →
      requestOf (headerBytes header ++ rest) low = .headerParityError { bits := header, low := low }) ∧
    (onesIn header % 2 = 1 → rest.length < (if n = 0 then 2 else n + 4) →
      requestOf (headerBytes header ++ rest) low = .shortTransaction) ∧
    (∀ (d more : List Byte) (hi lo : Byte), onesIn header % 2 = 1 → 0 < n → d.length = n →
      rest = d ++ hi :: lo :: more → 2 ≤ more.length → crc16 (headerBytes header ++ d) ≠ hi ++ lo →
      requestOf (headerBytes header ++ rest) low = .badCrc header d (hi ++ lo)))

/-- A link that does not listen takes no command, and no damaged transaction raises LINK_ERR or extends the hold: nothing
changes while RESET is low, or until the chip select that was low at the rise of RESET has risen, and in the parity hold the
part drives 0xFF; once that chip select has risen and the hold has ended, the link listens. A transaction that chip select
holds through the rise of RESET reads 0x00, and one whose chip select falls in the hold reads 0xFF after the hold's end too.
That the rise of RESET carries the ticks to the rise of chip select is the model's choice of log row 8. -/
def Obligations.DeafLinkTakesNothing : Prop :=
  (∀ (c : Instr) (s : State), (linkForm c ≠ none ∨ isOddTransaction c = true ∧ c.wellFormed = true) →
    (s.resetLow = true → exec c s = .next s) ∧
    (∀ rise, s.link.ignoring = some rise → s.now < rise → exec c s = .next s) ∧
    (s.resetLow = false → (∀ rise, s.link.ignoring = some rise → rise ≤ s.now) → (∃ stop, s.link.alert = .held stop) →
      exec c s = .next { s with link := { s.link with reply := [], fill := 0xFF } })) ∧
  (∀ s : State, s.resetLow = false → (∀ rise, s.link.ignoring = some rise → rise ≤ s.now) →
    (∀ stop, s.link.alert ≠ .held stop) → s.listens) ∧
  (∀ (s : State) (low : Nat), s.resetLow = true →
    ∃ t : State, exec (.resetLineHigh (some low)) s = .next t ∧ t.now = 0 ∧ t.resetLow = false ∧
      t.link.ignoring = some low ∧ t.link.reply = [] ∧ t.link.fill = 0x00 ∧ t.link.alert = .idle) ∧
  (∀ (s : State) (stop : Tick), s.link.alert = .held stop → stop ≤ s.now →
    ∃ t : State, exec .holdTransactionIgnored s = .next t ∧
      exec .alertHoldEnd t = .next { s with link := { s.link with alert := .idle, reply := [], fill := 0xFF } })

/-- The mode step of every link command: where the table refuses, only the reply changes; where it takes, the answer is
neither BUSY nor WRONG_MODE. -/
def Obligations.ModeStepJudged : Prop :=
  ∀ (c : Instr) (s : State) (g : ModeGroup), goodRequest c s → modeGroup c = some g →
    (∀ st, g.answer s.mode = some st → exec c s = .next (s.replyWith (.bare st))) ∧
    (g.answer s.mode = none →
      ∃ (t : State) (r : Reply), exec c s = .next (t.replyWith r) ∧ r.status ≠ .busy ∧ r.status ≠ .wrongMode)

/-- Targets are judged after the mode: a number that names no instance is NO_SUCH; a handle is judged by its slot and then
by its generation. That an instance target whose high byte is not 0 is NO_SUCH is the model's reading of log row 50. -/
def Obligations.TargetsJudged : Prop :=
  (∀ (c : Instr) (s : State) (g : ModeGroup) (n len : Nat) (names : Names) (t : Half) (d : List Byte),
    goodRequest c s → modeGroup c = some g → g.answer s.mode = none → targetCount c = some n →
    linkForm c = some (len, names, t, d) → n ≤ t.toNat → exec c s = .next (s.replyWith (.bare .noSuch))) ∧
  (∀ (c : Instr) (s : State) (g : ModeGroup) (t : Half) (d : List Byte),
    (c = .lookupTrack t d ∨ c = .annotateTrack t d ∨ c = .retireTrack t d) →
    goodRequest c s → modeGroup c = some g → g.answer s.mode = none →
    (48 ≤ t.toNat / 256 → exec c s = .next (s.replyWith (.bare .noSuch))) ∧
    (∀ i : SlotId, t.toNat / 256 = i.val → (s.track? i = none ∨ s.slots[i].gen ≠ t.setWidth 8) →
      exec c s = .next (s.replyWith (.bare .stale))))

/-- Every READ command and LOOKUP TRACK answers the record it names and changes nothing but the reply; every record is
stated field by field in the order of its rule, each field in the encoding of R190. The layouts of the composite fields
(the travel timer, the confirm field, the causes and the call point filter of a zone, the queue key and position, the
levels of a shutter's sides, the reading of a temperature channel and its tick, the last accepted frame and echo window of
a detector channel, a manual order, the outputs and inputs of a line's fans), the airflow history without a count, and
fault reasons numbered from 0 without 'absent' are the model's choices of log row 20; the instance kind and number of
CODES_CLOSE are that of log row 36, and the effective draw in every mode that of log row 40. That the derate flags are one
mask is of log row 20 too, and that READ LINE lists gates in use only is the model's reading of log row 53. -/
def Obligations.ReadsAnswerRecords : Prop :=
  (∀ s : State, s.listens →
    exec (.readStatus 0 []) s = .next (s.replyWith (.ok s.statusRecord)) ∧
    exec (.readNotices 0 []) s = .next (s.replyWith (.ok s.noticeRecord)) ∧
    (s.mode ≠ .committing →
      (∀ (t : Half) (d : ChanId), t.toNat = d.val →
        exec (.readChannel t []) s = .next (s.replyWith (.ok (s.channelRecord d)))) ∧
      (∀ (t : Half) (a : AirId), t.toNat = a.val →
        exec (.readAirflow t []) s = .next (s.replyWith (.ok (s.airflowRecord a)))) ∧
      (∀ (t : Half) (i : TempId), t.toNat = i.val →
        exec (.readTemperature t []) s = .next (s.replyWith (.ok (s.tempRecord i)))) ∧
      (∀ (t : Half) (z : ZoneId), t.toNat = z.val →
        exec (.readZone t []) s = .next (s.replyWith (.ok (s.zoneRecord z)))) ∧
      (∀ (t : Half) (x : StationId), t.toNat = x.val →
        exec (.readStation t []) s = .next (s.replyWith (.ok (s.stationRecord x)))) ∧
      (∀ (t : Half) (l : LineId), t.toNat = l.val →
        exec (.readLine t []) s = .next (s.replyWith (.ok (s.lineRecord l)))) ∧
      (∀ (t : Half) (g : GateId), t.toNat = g.val →
        exec (.readGate t []) s = .next (s.replyWith (.ok (s.gateRecord g)))) ∧
      (∀ (t : Half) (h : ShutterId), t.toNat = h.val →
        exec (.readShutter t []) s = .next (s.replyWith (.ok (s.shutterRecord h)))) ∧
      (∀ (t : Half) (y : SirenId), t.toNat = y.val →
        exec (.readSiren t []) s = .next (s.replyWith (.ok (s.sirenRecord y)))) ∧
      (∀ (t : Half) (i : SlotId) (k : Track), t.toNat / 256 = i.val → s.track? i = some k →
        s.slots[i].gen = t.setWidth 8 →
        exec (.lookupTrack t []) s = .next (s.replyWith (.ok (s.trackRecord i k)))))) ∧
  -- the encodings of R190
  ((∀ n : Nat, u8 n = [BitVec.ofNat 8 n] ∧ u16 n = [BitVec.ofNat 8 (n / 256), BitVec.ofNat 8 n] ∧
      u24 n = [BitVec.ofNat 8 (n / 65536), BitVec.ofNat 8 (n / 256), BitVec.ofNat 8 n] ∧
      u32 n = [BitVec.ofNat 8 (n / 16777216), BitVec.ofNat 8 (n / 65536), BitVec.ofNat 8 (n / 256), BitVec.ofNat 8 n] ∧
      tickField n = u32 n) ∧
    (∀ n : Int, i16 n = [(BitVec.ofInt 16 n >>> 8).setWidth 8, (BitVec.ofInt 16 n).setWidth 8]) ∧
    (∀ (width : Nat) (f : Nat → List Byte), optField width f none = 0 :: List.replicate width 0 ∧
      ∀ n, optField width f (some n) = 1 :: f n) ∧
    wordField none = [0xFF] ∧ (∀ n : Nat, wordField (some n) = u8 n) ∧
    (∀ (f : Nat → List Byte) (l : List Nat), listField f l = u8 l.length ++ l.flatMap f) ∧
    (∀ h : Handle, handleField h = [BitVec.ofNat 8 h.slot.val, h.gen]) ∧
    [Level.normal, .watch, .alarm, .fire].map levelField = [u8 0, u8 1, u8 2, u8 3]) ∧
  -- R191, R194
  (∀ s : State,
    let tracks (k : TrackState) : Nat := (List.finRange 48).countP fun i => (s.track? i).any fun t => t.state == k
    s.statusRecord = u8 ([Mode.config, .committing, .guarded].idxOf s.mode) ++
      (match s.result with
        | .none => u8 0 ++ u8 0 ++ u8 0 ++ u8 0
        | .failed v => u8 1 ++ u8 v.check ++ u8 v.kind ++ u8 v.number
        | .passed => u8 2 ++ u8 0 ++ u8 0 ++ u8 0) ++
      u8 (tracks .flight) ++ u8 (tracks .stalled) ++ u8 (tracks .spent) ++ u8 (tracks .escaped) ++
      u8 ((List.finRange 16).countP fun z => s.zones[z].level == .alarm) ++
      u8 ((List.finRange 16).countP fun z => s.zones[z].level == .fire) ++
      u8 ((List.finRange 8).countP fun l => s.lines[l].state == .running) ++ u8 s.freeUnits ++ tickField s.now) ∧
  (∀ s : State, s.noticeRecord = u16 s.notices.flags.toNat ++ u16 s.notices.mask.toNat ++
    optField 1 (fun e => u8 ([LinkError.parity, .crc, .short].idxOf e)) s.notices.lastError ++
    u8 s.notices.parity ++ u8 s.notices.crc ++ u8 s.notices.short) ∧
  -- R35, R43, R50
  (∀ (s : State) (d : ChanId),
    let q := s.channels[d]
    s.channelRecord d = u8 ([ChanType.off, .spark, .ember, .dual].idxOf q.type) ++ u8 q.tolerant.toNat ++ [q.threshold] ++
      u8 ([ChanState.off, .inService, .blind].idxOf q.state) ++ u8 q.missed ++ u8 q.errors ++
      optField 5 (fun a : Accepted => u8 a.sequence ++ tickField a.time) q.lastAccepted ++
      optField 4 tickField q.echoWindow ++ u8 q.published.toNat ++ u8 q.publishedErrors) ∧
  (∀ (s : State) (a : AirId),
    let q := s.airflows[a]
    s.airflowRecord a = u8 q.inUse.toNat ++ u16 q.scale ++ u16 q.count ++ u16 q.sample ++
      optField 8 (fun h : History => u16 h.oldest ++ u16 h.second ++ u16 h.third ++ u16 h.newest) q.history ++
      optField 2 u16 q.smoothed ++ u8 ([StallState.none, .flowing, .stalled].idxOf q.stall) ++
      optField 4 tickField q.stallChanged) ∧
  (∀ (s : State) (i : TempId),
    let q := s.temps[i]
    s.tempRecord i = u8 q.inUse.toNat ++ u8 q.zone.val ++ i16 q.hotAt ++ i16 q.alarmAt ++ i16 q.fireAt ++
      optField 2 i16 q.reading ++ optField 4 tickField q.readingTick ++ u8 q.missing ++
      u8 ([TempState.none, .reading, .sensorFault].idxOf q.state) ++
      u8 (q.hot.toNat + 2 * q.alarm.toNat + 4 * q.fire.toNat) ++ u8 q.derate.toNat) ∧
  -- R158
  (∀ (s : State) (z : ZoneId),
    let q := s.zones[z]
    let tempAlarm : Bool := decide (∃ i : TempId, s.temps[i].inUse = true ∧ s.temps[i].zone = z ∧ s.temps[i].alarm = true)
    let tempFire : Bool := decide (∃ i : TempId, s.temps[i].inUse = true ∧ s.temps[i].zone = z ∧ s.temps[i].fire = true)
    s.causesField z = u8 ((decide (q.live ≠ 0)).toNat + 2 * (decide (q.escaped ≠ 0)).toNat + 4 * tempAlarm.toNat +
        8 * tempFire.toNat + 16 * q.callActive.toNat + 32 * q.burst.toNat + 64 * q.tableFull.toNat +
        128 * q.linkCall.isSome.toNat) ++ optField 1 (fun l : Level => u8 l.val) q.linkCall ∧
    s.zoneRecord z = u8 q.level.val ++ u8 q.latched.val ++ s.causesField z ++ u8 q.live ++ u8 q.escaped ++
      u8 q.faults.toNat ++ u8 q.acknowledged.toNat ++ optField 4 tickField q.levelChanged ++ u8 q.callActive.toNat ++
      tickField q.callChanged ++ u8 q.callRaw.toNat) ∧
  -- R125
  (∀ (s : State) (x : StationId),
    let q := s.stations[x]
    let waits : Bool := q.state == .requesting || q.state == .suspended
    let key := q.key s.now
    s.stationRecord x = u8 q.inUse.toNat ++ u8 q.draw ++ u16 q.lead ++ u16 q.holdSpark ++ u16 q.holdEmber ++
      u8 q.confirmTime ++ u8 q.maxRelease ++ u8 q.purgeTime ++ wordField (q.link.map Fin.val) ++ u8 q.flood.toNat ++
      u8 (min q.draw s.limits.units) ++
      u8 ([StationState.idle, .requesting, .releasing, .suspended, .purging, .locked, .fault].idxOf q.state) ++
      optField 1 (fun r => u8 ([StationFault.noConfirm, .pressureLost].idxOf r)) q.faultReason ++
      listField (fun e : Served => handleField e.handle ++ tickField e.opens ++ tickField e.closes ++
        tickField e.deadline ++ u8 e.active.toNat) q.served ++
      optField 8 (fun m : ManualOrder => tickField m.orderTick ++ tickField m.endTick) q.manual ++
      u8 q.floodDemand.toNat ++
      optField 5 (fun k : KeyClass × Tick => u8 ([KeyClass.deadline, .overdue, .flood].idxOf k.1) ++ tickField k.2)
        (if waits then some key else none) ++
      optField 1 u8 (if waits then s.arbiterQueue.findIdx? fun y => y == x else none) ++
      optField 4 tickField q.requestTick ++ optField 4 tickField q.releaseStart ++ optField 4 tickField q.cutStart ++
      (match q.confirm with
        | .absent => u8 0 ++ u32 0
        | .waiting t => u8 1 ++ tickField t
        | .confirmed => u8 2 ++ u32 0) ++
      u8 q.debt ++ u32 q.accumulation ++ optField 4 tickField q.purgeEnd ++ u8 s.freeUnits) ∧
  -- R144, R132
  (∀ (s : State) (l : LineId),
    let q := s.lines[l]
    let fans := q.firstFan :: q.secondFan.toList
    let fansOn : Bool := q.state == .starting || q.state == .running || q.state == .stopping
    let gateCode (g : GateId) : Nat := [GateState.normal, .toAbort, .abort, .toNormal, .fault].idxOf s.gates[g].state
    s.lineRecord l = u8 q.inUse.toNat ++ u8 q.firstFan.val ++ wordField (q.secondFan.map Fin.val) ++ u8 q.runUp ++
      u8 q.runDown ++ u8 q.burstCount ++ u16 q.burstWindow ++ u16 q.zones.toNat ++
      listField (fun g : GateId => u8 g.val ++ u8 (gateCode g))
        ((List.finRange 8).filter fun g => s.gates[g].inUse && s.segments[s.gates[g].owner].line == l) ++
      u8 ([LineState.stopped, .startWait, .starting, .running, .stopping].idxOf q.state) ++
      u8 ([StopCause.reset, .config, .escape, .burst, .tableFull, .fire, .gateFault, .fanFault, .link].idxOf q.cause) ++
      listField tickField q.burst ++ optField 4 tickField q.runUpEnd ++ optField 4 tickField q.runDownEnd ++
      optField 1 u8 (s.startQueue.findIdx? fun k => k == l) ++ listField (fun _ : FanId => u8 fansOn.toNat) fans ++
      listField (fun m : FanId => u8 s.fanFeedback[m].toNat) fans ++ u8 (decide (q.state ≠ .running)).toNat ++
      listField tickField s.startList ++
      u8 (s.startList.countP fun t => decide (s.now - t < 600000))) ∧
  (∀ (s : State) (g : GateId),
    let q := s.gates[g]
    s.gateRecord g = u8 q.inUse.toNat ++ u8 q.owner.val ++ u8 q.normalOut.val ++ u8 q.abortOut.val ++ u8 q.stroke ++
      u8 q.onShutdown.toNat ++ u8 s.segments[q.owner].line.val ++
      u8 ([GateState.normal, .toAbort, .abort, .toNormal, .fault].idxOf q.state) ++ u8 q.normalLimit.toNat ++
      u8 q.abortLimit.toNat ++ u8 (decide (q.state = .normal ∨ q.state = .toNormal)).toNat ++
      optField 4 tickField q.timer ++ optField 1 (fun r => u8 ([GateFault.timeout, .limitLost].idxOf r)) q.faultReason ++
      optField 4 tickField q.stateChanged ++ listField handleField q.diversions) ∧
  -- R173
  (∀ (s : State) (h : ShutterId),
    let q := s.shutters[h]
    let demand : Prop := s.mode ≠ .guarded ∨ q.granted = false ∨ q.closeLevel.val ≤ s.zones[q.sideA].level.val ∨
      ∃ z, q.sideB = some z ∧ q.closeLevel.val ≤ s.zones[z].level.val
    ∃ present : Bool, (present = true ↔ demand) ∧
      s.shutterRecord h = u8 q.sideA.val ++ wordField (q.sideB.map Fin.val) ++ u8 q.closeLevel.val ++ u8 q.timeout ++
        u8 (if q.granted then 0 else 1) ++
        u8 ([ShutterState.closed, .opening, .opened, .closing, .paused, .dropping, .fault].idxOf q.state) ++
        optField 1 (fun r => u8 ([ShutterFault.dropTimeout, .openTimeout].idxOf r)) q.faultReason ++ u8 present.toNat ++
        u8 s.zones[q.sideA].level.val ++ optField 1 (fun z : ZoneId => u8 s.zones[z].level.val) q.sideB ++
        u8 q.obstructions ++
        (match q.travel with
          | .absent => u8 0 ++ u32 0
          | .running e => u8 1 ++ tickField e
          | .frozen n => u8 2 ++ u32 n) ++
        optField 4 tickField q.pauseStart ++ optField 4 tickField q.rearmEnd ++ optField 4 tickField q.stateChanged ++
        u8 (decide (q.state = .opened ∨ q.state = .paused ∨ q.state = .closed)).toNat ++
        u8 (decide (q.state = .opening)).toNat ++ u8 (decide (q.state = .closing)).toNat ++ u8 q.openLimit.toNat ++
        u8 q.closedLimit.toNat ++ u8 q.obstructed.toNat) ∧
  -- R183
  (∀ (s : State) (y : SirenId),
    let q := s.sirens[y]
    let pattern (p : Pattern) : List Byte := u8 p.empty.toNat ++ u8 p.blast ++ u8 p.gap ++ u8 p.blasts ++
      u16 p.groupGap ++ u8 p.groups ++ u8 p.report
    ∃ derate : Bool,
      (derate = true ↔ ∃ t, q.link = some t ∧ s.temps[t].inUse = true ∧ s.temps[t].derate.getLsbD y.val = true) ∧
      s.sirenRecord y = u16 q.zones.toNat ++ wordField (q.link.map Fin.val) ++ i16 q.derateAt ++ pattern q.watch ++
        pattern q.alarm ++ pattern q.fire ++ u8 q.cls.val ++ u8 q.sounding.val ++
        optField 1 (fun l : Level => u8 l.val) q.pendingCls ++ optField 1 (fun l : Level => u8 l.val) q.silenced ++
        u8 ([Phase.quiet, .blast, .gap, .pause, .done].idxOf q.phase) ++ optField 4 tickField q.phaseEnd ++
        u8 q.blastIndex ++ u16 q.groupIndex ++ u8 q.reportCount ++ u16 q.groupsSounded ++ u8 q.derated.toNat ++
        u8 derate.toNat ++ u8 (decide (q.phase = .blast)).toNat) ∧
  -- R192
  (∀ (s : State) (i : SlotId) (k : Track),
    let condition (conds : List Cond) (low : Nat) : Nat :=
      match conds with
      | [] => 0
      | c :: _ => low * (1 + 2 * c.gate.val + 16 * [Side.normal, .abort].idxOf c.side)
    let kindOf (e : EndOf) : Nat := [EndOf.protectedEnd, .safeEnd, .horizon, .stallEnd].idxOf e
    let ends := k.route.filterMap fun r =>
      match r.item with
      | .terminal e m resolved =>
        some (u8 (kindOf e) ++ wordField (m.map Fin.val) ++ u8 (condition r.conds 1 + 128 * resolved.toNat))
      | _ => none
    let plan := (planOf k.route).map fun p =>
      (match p.2.item with
        | .station x => u8 0 ++ u8 x.val
        | .detector d => u8 1 ++ u8 d.val
        | .gate g => u8 2 ++ u8 g.val
        | .terminal e _ _ => u8 3 ++ u8 (kindOf e)
        | .entry _ => []) ++ u8 p.2.covering.toNat ++
      u8 (p.2.lateStart.toNat + 2 * p.2.openEnd.toNat + 4 * p.2.unserved.toNat + condition p.2.conds 8) ++
      u24 p.2.early ++ u24 p.2.late
    s.trackRecord i k = [BitVec.ofNat 8 i.val, s.slots[i].gen] ++ u32 k.seq.toNat ++ tickField k.birthTick ++
      u8 k.origin.val ++ u8 ([Glow.spark, .ember].idxOf k.glow) ++ [k.intensity] ++
      u8 ([TrackState.flight, .stalled, .spent, .escaped].idxOf k.state) ++ u8 k.current.val ++
      u8 s.segments[k.current].line.val ++ tickField k.base ++
      u8 (k.covered.toNat + 2 * k.injected.toNat + 4 * k.diverted.toNat + 8 * k.hold.toNat + 16 * k.blindPass.toNat) ++
      u8 k.survived ++ u8 k.stationsCovered ++ u8 k.stationsUncovered ++
      u8 (k.note.isSome.toNat + 2 * k.escapeReason.isSome.toNat + 4 * k.stalledSince.isSome.toNat +
        8 * (match k.lingerEnd with | .absent => 0 | .until _ => 1 | .expired => 2) +
        32 * (match k.lastUncovered with
          | none => 0
          | some r => 1 + [Uncovered.fault, .locked, .stationFull, .lateGrant, .cut].idxOf r)) ++
      [k.note.getD 0] ++
      u8 (match k.escapeReason with
        | none => 0
        | some r => [EscapeReason.uncovered, .stall, .noStation, .horizon].idxOf r) ++
      tickField (k.stalledSince.getD 0) ++
      tickField (match k.lingerEnd with | .until t => t | _ => 0) ++
      u8 (k.route.countP fun r => match r.item with | .entry _ => true | _ => false) ++ u8 ends.length ++
      u8 plan.length ++ ends.flatten ++ plan.flatten)

/-- LIST TRACKS answers at most 32 handles, oldest first, of the live tracks that the mask and the filter match, from the
first or from below the age of the start track; a start handle whose slot is no slot is NO_SUCH and a stale one STALE, and after
it a zone filter that names no zone is NO_SUCH; the length of a LOOKUP TRACK record is 38 + 3e + 10p. That the start handle is
judged before the zone filter is the model's reading of log row 22. -/
def Obligations.TrackListing : Prop :=
  (∀ (s : State) (t : Half) (zone mask : Byte) (z : Option ZoneId) (start : Option Nat),
    s.listens → s.mode ≠ .committing → instOrWord 16 zone.toNat = .ok z → s.listStart t = .ok start →
    exec (.listTracks t [zone, mask]) s =
      let found := (s.matching z mask).filter fun p => start.all fun age => decide (p.2 < age)
      .next (s.replyWith (.ok (u8 (found.take 32).length ++ u8 (decide (32 < found.length)).toNat ++
        (found.take 32).flatMap fun p => handleField (s.handleOf p.1))))) ∧
  (∀ (s : State) (z : Option ZoneId) (mask : Byte) (i : SlotId) (age : Nat),
    (i, age) ∈ s.matching z mask ↔
      ∃ k, s.track? i = some k ∧ mask.getLsbD k.state.code = true ∧ age = s.ageOf k ∧
        ∀ w, z = some w → s.segments[k.current].zone = w) ∧
  (∀ (s : State) (z : Option ZoneId) (mask : Byte), (s.matching z mask).Pairwise fun p q => q.2 ≤ p.2) ∧
  (∀ (s : State) (i : SlotId) (k : Track),
    (s.trackRecord i k).length = 38 + 3 * (endsOf k.route).length + 10 * (planOf k.route).length) ∧
  -- the start handle, then the zone filter (R53, R77, R190)
  (∀ (s : State) (t : Half) (zone mask : Byte), s.listens → s.mode ≠ .committing →
    (t ≠ 0xFFFF → 48 ≤ (t >>> 8).toNat → exec (.listTracks t [zone, mask]) s = .next (s.replyWith (.bare .noSuch))) ∧
    (∀ i : SlotId, (t >>> 8).toNat = i.val →
      (s.slots[i].track = none ∨ s.slots[i].gen ≠ t.setWidth 8) →
      exec (.listTracks t [zone, mask]) s = .next (s.replyWith (.bare .stale))) ∧
    (16 ≤ zone.toNat → zone ≠ 255 →
      (t = 0xFFFF ∨ ∃ (i : SlotId) (k : Track), (t >>> 8).toNat = i.val ∧ s.slots[i].track = some k ∧
        s.slots[i].gen = t.setWidth 8) →
      exec (.listTracks t [zone, mask]) s = .next (s.replyWith (.bare .noSuch))) ∧
    (t = 0xFFFF → s.listStart t = .ok none) ∧
    (∀ (i : SlotId) (k : Track), (t >>> 8).toNat = i.val → s.slots[i].track = some k →
      s.slots[i].gen = t.setWidth 8 → s.listStart t = .ok (some (s.ageOf k))))

/-- The notice commands change the flags, the mask and the link error record as R194 says, and nothing else. -/
def Obligations.NoticeCommands : Prop :=
  ∀ (s : State) (a b : Byte), s.listens →
    exec (.readNotices 0 []) s = .next (s.replyWith (.ok s.noticeRecord)) ∧
    (s.mode ≠ .committing →
      let bits : BitVec 12 := (halfAt [a, b] 0).setWidth 12
      exec (.clearNotices 0 [a, b]) s = .next ({ s with
        notices := if bits.getLsbD 10 = true then
          { s.notices with flags := s.notices.flags &&& ~~~bits, lastError := none, parity := 0, crc := 0, short := 0 }
        else { s.notices with flags := s.notices.flags &&& ~~~bits } }.replyWith (.ok [])) ∧
      exec (.setNotices 0 [a, b]) s = .next ({ s with
        notices := { s.notices with flags := s.notices.flags ||| bits } }.replyWith (.ok [])) ∧
      exec (.maskNotices 0 [a, b]) s = .next ({ s with
        notices := { s.notices with mask := bits } }.replyWith (.ok [])))

/-! ## Loads -/

/-- LOAD LIMITS writes every limit clamped into its range, raises the fixed velocities below the new v_stall, and in CONFIG
sets the free units to P; nothing else changes. -/
def Obligations.LoadLimitsWrites : Prop :=
  ∀ (s : State) (d : List Byte), s.listens → s.mode = .config → d.length = 13 →
    let l : Limits :=
      { units := clamp 1 12 (natAt d 0), tol := clamp 0 30 (natAt d 1), vStall := clamp 10 100 (natAt d 2),
        stallLimit := clamp 1 60 (natAt d 3), linger := clamp 1 600 (natAt2 d 4), budget := clamp 1 4 (natAt d 6),
        supervision := clamp 1 60 (natAt d 7), purgeInterval := clamp 10 3600 (natAt2 d 8),
        floodMin := clamp 5 100 (natAt d 10), sparkCode := byteAt d 11, emberCode := byteAt d 12 }
    exec (.loadLimits 0 d) s = .next ({ s with
      limits := l,
      segments := s.segments.map (fun g : Segment => { g with fixedVel := max l.vStall g.fixedVel }),
      freeUnits := l.units }.replyWith (.loaded
        ((s.segments.any fun g => decide (g.fixedVel < l.vStall)) || l.numbers != limitsAsked d)))

/-- LOAD SEGMENT writes the whole record with the length and the fixed velocity clamped; out of use it loses its points. A
field that names no instance is answered NO_SUCH, and then a field that is none of its choices BAD_FIELD, and nothing is
stored. That END accepts and stores any outlet target is the model's choice of log row 21. That the outlet target of an
outlet that is none of its choices is not judged is of log row 21 too. -/
def Obligations.LoadSegmentWrites : Prop :=
  (∀ (s : State) (t : Half) (d : List Byte) (i : SegId) (source : Option AirId) (zone : ZoneId) (line : LineId)
    (inUse : Bool) (outlet : Outlet) (kind : EndKind),
    s.listens → s.mode = .config → d.length = 11 → t.toNat = i.val →
    instOrWord 16 (natAt d 3) = .ok source → instOf 16 (natAt d 6) = .ok zone → instOf 8 (natAt d 7) = .ok line →
    flagOf (natAt d 0) = .ok inUse → outletOf (natAt d 8) (natAt d 9) = .ok outlet →
    oneOf [.protectedEnd, .safeEnd] (natAt d 10) = .ok kind →
    let length := clamp 1 20000 (natAt2 d 1)
    let vel := clamp s.limits.vStall 600 (natAt2 d 4)
    exec (.loadSegment t d) s = .next ({ s with segments := updAt s.segments i fun g =>
      { inUse := inUse, length := length, source := source, fixedVel := vel, zone := zone, line := line,
        outlet := outlet, endKind := kind, points := if inUse then g.points else [] } }.replyWith
      (.loaded (length != natAt2 d 1 || vel != natAt2 d 4)))) ∧
  (∀ (s : State) (t : Half) (d : List Byte) (i : SegId), s.listens → s.mode = .config → d.length = 11 →
    t.toNat = i.val →
    let badInstance : Prop := (16 ≤ natAt d 3 ∧ natAt d 3 ≠ 255) ∨ 16 ≤ natAt d 6 ∨ 8 ≤ natAt d 7 ∨
      (natAt d 8 = 0 ∧ 128 ≤ natAt d 9) ∨ (natAt d 8 = 1 ∧ 8 ≤ natAt d 9)
    let badChoice : Prop := 2 ≤ natAt d 0 ∨ 3 ≤ natAt d 8 ∨ 2 ≤ natAt d 10
    (badInstance → exec (.loadSegment t d) s = .next (s.replyWith (.bare .noSuch))) ∧
    (¬badInstance → badChoice → exec (.loadSegment t d) s = .next (s.replyWith (.refused .badField))))

/-- LOAD POINT places a point in its order, or refuses it POINTS_FULL, NOT_IN_USE or ALREADY_PLACED in that order; REMOVE
takes it out, or answers NO_SUCH. An instance that its kind does not have is NO_SUCH, and a kind or an action that is none of
the choices BAD_FIELD. That REMOVE is never CLAMPED, and that the instance of a kind that is no choice is judged as a
detector's, are the model's choices of log row 21. -/
def Obligations.LoadPointPlaces : Prop :=
  (∀ (s : State) (t : Half) (d : List Byte) (i : SegId) (what : Placed),
    s.listens → s.mode = .config → d.length = 5 → t.toNat = i.val → placedOf (natAt d 1) (natAt d 2) = .ok what →
    (natAt d 0 = 0 →
      (4 ≤ s.segments[i].points.length →
        exec (.loadPoint t d) s = .next (s.replyWith (.refused .pointsFull))) ∧
      (s.segments[i].points.length < 4 → s.segments[i].inUse = false →
        exec (.loadPoint t d) s = .next (s.replyWith (.refused .notInUse))) ∧
      (s.segments[i].points.length < 4 → s.segments[i].inUse = true → (∃ p ∈ s.segments[i].points, p.what = what) →
        exec (.loadPoint t d) s = .next (s.replyWith (.refused .alreadyPlaced))) ∧
      (s.segments[i].points.length < 4 → s.segments[i].inUse = true → (∀ p ∈ s.segments[i].points, p.what ≠ what) →
        exec (.loadPoint t d) s = .next ({ s with segments := updAt s.segments i fun g =>
          { g with points := insertAfter Point.key { what := what, position := clamp 0 19999 (natAt2 d 3) } g.points } }.replyWith
          (.loaded (clamp 0 19999 (natAt2 d 3) != natAt2 d 3))))) ∧
    (natAt d 0 = 1 →
      ((∀ p ∈ s.segments[i].points, p.what ≠ what) → exec (.loadPoint t d) s = .next (s.replyWith (.bare .noSuch))) ∧
      ((∃ p ∈ s.segments[i].points, p.what = what) →
        exec (.loadPoint t d) s = .next ({ s with segments := updAt s.segments i fun g =>
          { g with points := g.points.filter fun p => p.what != what } }.replyWith (.bare .ok)))) ∧
    (2 ≤ natAt d 0 → exec (.loadPoint t d) s = .next (s.replyWith (.refused .badField)))) ∧
  (∀ (s : State) (t : Half) (d : List Byte) (i : SegId), s.listens → s.mode = .config → d.length = 5 →
    t.toNat = i.val →
    let badInstance : Prop := (natAt d 1 ≠ 1 ∧ 32 ≤ natAt d 2) ∨ (natAt d 1 = 1 ∧ 24 ≤ natAt d 2)
    let badChoice : Prop := 2 ≤ natAt d 0 ∨ 2 ≤ natAt d 1
    (badInstance → exec (.loadPoint t d) s = .next (s.replyWith (.bare .noSuch))) ∧
    (¬badInstance → badChoice → exec (.loadPoint t d) s = .next (s.replyWith (.refused .badField))))

/-- LOAD GATE writes the whole record; out of use the gate stands in TO_ABORT without timer; brought into use with its
ABORT pair standing it is confirmed in the same event. A field that names no segment is answered NO_SUCH, and then a flag
that is neither set nor clear BAD_FIELD. That the fault reason of a gate taken out of use becomes absent is the model's
reading of log row 56. -/
def Obligations.LoadGateWrites : Prop :=
  (∀ (s : State) (t : Half) (d : List Byte) (g : GateId) (owner normalOut abortOut : SegId) (inUse onShutdown : Bool),
    s.listens → s.mode = .config → d.length = 6 → t.toNat = g.val →
    instOf 128 (natAt d 1) = .ok owner → instOf 128 (natAt d 2) = .ok normalOut → instOf 128 (natAt d 3) = .ok abortOut →
    flagOf (natAt d 0) = .ok inUse → flagOf (natAt d 5) = .ok onShutdown →
    let stroke := clamp 2 100 (natAt d 4)
    let u : State := { s with gates := updAt s.gates g fun q =>
      { q with
        inUse := inUse, owner := owner, normalOut := normalOut, abortOut := abortOut, stroke := stroke,
        onShutdown := onShutdown,
        state := if inUse then q.state else .toAbort,
        timer := if inUse then q.timer else none,
        faultReason := if inUse then q.faultReason else none,
        diversions := if inUse then q.diversions else [],
        stateChanged := if inUse ∨ q.state = .toAbort then q.stateChanged else some s.now } }
    (inUse = false ∨ s.gates[g].inUse = true ∨
        (s.gates[g].state = .toAbort ∧ ¬(s.gates[g].abortLimit = true ∧ s.gates[g].normalLimit = false)) →
      exec (.loadGate t d) s = .next (u.replyWith (.loaded (stroke != natAt d 4)))) ∧
    (inUse = true → s.gates[g].inUse = false → s.gates[g].state = .toAbort → s.gates[g].abortLimit = true →
      s.gates[g].normalLimit = false →
      ∃ v : State, exec (.loadGate t d) s = .next (v.replyWith (.loaded (stroke != natAt d 4))) ∧
        v.gates[g].state = .abort ∧ v.raised .gate ∧ u.Framed v)) ∧
  (∀ (s : State) (t : Half) (d : List Byte) (i : GateId), s.listens → s.mode = .config → d.length = 6 →
    t.toNat = i.val →
    let badInstance : Prop := 128 ≤ natAt d 1 ∨ 128 ≤ natAt d 2 ∨ 128 ≤ natAt d 3
    let badChoice : Prop := 2 ≤ natAt d 0 ∨ 2 ≤ natAt d 5
    (badInstance → exec (.loadGate t d) s = .next (s.replyWith (.bare .noSuch))) ∧
    (¬badInstance → badChoice → exec (.loadGate t d) s = .next (s.replyWith (.refused .badField))))

/-- LOAD LINE and LOAD STATION write their loaded fields, each number clamped; a line taken out of use while STOPPING
stops, and one brought into use takes cause CONFIG. A field that names no instance is answered NO_SUCH, and then a flag that
is neither set nor clear BAD_FIELD. -/
def Obligations.LoadLineAndStationWrite : Prop :=
  (∀ (s : State) (t : Half) (d : List Byte) (l : LineId) (first : FanId) (second : Option FanId) (inUse : Bool),
    s.listens → s.mode = .config → d.length = 8 → t.toNat = l.val → instOf 8 (natAt d 1) = .ok first →
    instOrWord 8 (natAt d 2) = .ok second → flagOf (natAt d 0) = .ok inUse →
    ¬(inUse = false ∧ s.lines[l].state = .stopping) →
    exec (.loadLine t d) s = .next ({ s with lines := updAt s.lines l fun q =>
      { q with
        inUse := inUse, firstFan := first, secondFan := second, runUp := clamp 1 60 (natAt d 3),
        runDown := clamp 0 120 (natAt d 4), burstCount := clamp 2 16 (natAt d 5),
        burstWindow := clamp 1 600 (natAt2 d 6),
        cause := if inUse = true ∧ q.inUse = false then .config else q.cause } }.replyWith
      (.loaded (decide ([clamp 1 60 (natAt d 3), clamp 0 120 (natAt d 4), clamp 2 16 (natAt d 5),
        clamp 1 600 (natAt2 d 6)] ≠ [natAt d 3, natAt d 4, natAt d 5, natAt2 d 6]))))) ∧
  (∀ (s : State) (t : Half) (d : List Byte) (l : LineId) (first : FanId) (second : Option FanId),
    s.listens → s.mode = .config → d.length = 8 → t.toNat = l.val → instOf 8 (natAt d 1) = .ok first →
    instOrWord 8 (natAt d 2) = .ok second → natAt d 0 = 0 → s.lines[l].state = .stopping →
    ∃ (u : State) (r : Reply), exec (.loadLine t d) s = .next (u.replyWith r) ∧ u.lines[l].state = .stopped ∧ u.lines[l].inUse = false ∧
      u.lines[l].runDownEnd = none ∧ u.raised .line) ∧
  (∀ (s : State) (t : Half) (d : List Byte) (x : StationId) (link : Option TempId) (inUse flood : Bool),
    s.listens → s.mode = .config → d.length = 13 → t.toNat = x.val → instOrWord 16 (natAt d 11) = .ok link →
    flagOf (natAt d 0) = .ok inUse → flagOf (natAt d 12) = .ok flood →
    exec (.loadStation t d) s = .next ({ s with stations := updAt s.stations x fun q =>
      { q with
        inUse := inUse, draw := clamp 1 4 (natAt d 1), lead := clamp 0 5000 (natAt2 d 2),
        holdSpark := clamp 0 20000 (natAt2 d 4), holdEmber := clamp 0 20000 (natAt2 d 6),
        confirmTime := clamp 1 50 (natAt d 8), maxRelease := clamp 1 120 (natAt d 9),
        purgeTime := clamp 1 20 (natAt d 10), link := link, flood := flood } }.replyWith
      (.loaded (decide ([clamp 1 4 (natAt d 1), clamp 0 5000 (natAt2 d 2), clamp 0 20000 (natAt2 d 4),
        clamp 0 20000 (natAt2 d 6), clamp 1 50 (natAt d 8), clamp 1 120 (natAt d 9), clamp 1 20 (natAt d 10)] ≠
        [natAt d 1, natAt2 d 2, natAt2 d 4, natAt2 d 6, natAt d 8, natAt d 9, natAt d 10]))))) ∧
  (∀ (s : State) (t : Half) (d : List Byte) (i : LineId), s.listens → s.mode = .config → d.length = 8 →
    t.toNat = i.val →
    let badInstance : Prop := 8 ≤ natAt d 1 ∨ (8 ≤ natAt d 2 ∧ natAt d 2 ≠ 255)
    let badChoice : Prop := 2 ≤ natAt d 0
    (badInstance → exec (.loadLine t d) s = .next (s.replyWith (.bare .noSuch))) ∧
    (¬badInstance → badChoice → exec (.loadLine t d) s = .next (s.replyWith (.refused .badField)))) ∧
  (∀ (s : State) (t : Half) (d : List Byte) (i : StationId), s.listens → s.mode = .config → d.length = 13 →
    t.toNat = i.val →
    let badInstance : Prop := 16 ≤ natAt d 11 ∧ natAt d 11 ≠ 255
    let badChoice : Prop := 2 ≤ natAt d 0 ∨ 2 ≤ natAt d 12
    (badInstance → exec (.loadStation t d) s = .next (s.replyWith (.bare .noSuch))) ∧
    (¬badInstance → badChoice → exec (.loadStation t d) s = .next (s.replyWith (.refused .badField))))

/-- LOAD CHANNEL, LOAD AIRFLOW and LOAD TEMPERATURE write their loaded fields; a channel brought into use discards the
gate in progress. A zone that is none is answered NO_SUCH, and a type or a flag that is none of its choices BAD_FIELD.
What an airflow or a temperature channel keeps when it is taken out of use or loaded again is the model's choice of log
row 30, and that an airflow channel keeps the tick of its last change of stall state where a load takes it out of use or
brings it in is that of log row 45. -/
def Obligations.LoadInputChannelsWrite : Prop :=
  (∀ (s : State) (t : Half) (a b threshold : Byte) (d : ChanId) (type : ChanType) (tolerant : Bool),
    s.listens → s.mode = .config → t.toNat = d.val → oneOf [.off, .spark, .ember, .dual] a.toNat = .ok type →
    flagOf b.toNat = .ok tolerant →
    exec (.loadChannel t [a, b, threshold]) s = .next ({ s with channels := updAt s.channels d fun q =>
      { q with type := type, tolerant := tolerant, threshold := threshold } }.replyWith (.bare .ok))) ∧
  (∀ (s : State) (t : Half) (d : List Byte) (a : AirId) (inUse : Bool),
    s.listens → s.mode = .config → d.length = 3 → t.toNat = a.val → flagOf (natAt d 0) = .ok inUse →
    exec (.loadAirflow t d) s = .next ({ s with airflows := updAt s.airflows a fun q =>
      if inUse = true ∧ q.inUse = true then { q with scale := clamp 1 4096 (natAt2 d 1) }
      else { q with inUse := inUse, scale := clamp 1 4096 (natAt2 d 1), count := 0, sample := 0,
                    discard := inUse } }.replyWith
      (.loaded (clamp 1 4096 (natAt2 d 1) != natAt2 d 1)))) ∧
  (∀ (s : State) (t : Half) (d : List Byte) (i : TempId) (zone : ZoneId) (inUse : Bool),
    s.listens → s.mode = .config → d.length = 8 → t.toNat = i.val → instOf 16 (natAt d 1) = .ok zone →
    flagOf (natAt d 0) = .ok inUse →
    let hot := clampInt (-400) 2500 (intAt2 d 2)
    let alarm := clampInt (-400) 2500 (intAt2 d 4)
    let fire := clampInt (-400) 2500 (intAt2 d 6)
    exec (.loadTemperature t d) s = .next ({ s with temps := updAt s.temps i fun q =>
      if inUse = true ∧ q.inUse = true then { q with zone := zone, hotAt := hot, alarmAt := alarm, fireAt := fire }
      else if inUse = true then
        { q with inUse := true, zone := zone, hotAt := hot, alarmAt := alarm, fireAt := fire, reading := none,
                 readingTick := none, missing := 0, pulse := none, discard := true }
      else { q with inUse := false, zone := zone, hotAt := hot, alarmAt := alarm, fireAt := fire, pulse := none,
                    discard := false } }.replyWith
      (.loaded (hot != intAt2 d 2 || alarm != intAt2 d 4 || fire != intAt2 d 6)))) ∧
  (∀ (s : State) (t : Half) (a b threshold : Byte) (d : ChanId), s.listens → s.mode = .config → t.toNat = d.val →
    4 ≤ a.toNat ∨ 2 ≤ b.toNat →
    exec (.loadChannel t [a, b, threshold]) s = .next (s.replyWith (.refused .badField))) ∧
  (∀ (s : State) (t : Half) (d : List Byte) (a : AirId), s.listens → s.mode = .config → d.length = 3 →
    t.toNat = a.val → 2 ≤ natAt d 0 →
    exec (.loadAirflow t d) s = .next (s.replyWith (.refused .badField))) ∧
  (∀ (s : State) (t : Half) (d : List Byte) (i : TempId), s.listens → s.mode = .config → d.length = 8 →
    t.toNat = i.val →
    let badInstance : Prop := 16 ≤ natAt d 1
    let badChoice : Prop := 2 ≤ natAt d 0
    (badInstance → exec (.loadTemperature t d) s = .next (s.replyWith (.bare .noSuch))) ∧
    (¬badInstance → badChoice → exec (.loadTemperature t d) s = .next (s.replyWith (.refused .badField))))

/-- LOAD SHUTTER, LOAD SIREN and LOAD PATTERN write their loaded fields and no runtime field. A field that
names no instance is answered NO_SUCH, and then a level or a flag that is none of its choices BAD_FIELD. That YARD as side A
is BAD_FIELD is the model's choice of log row 21. -/
def Obligations.LoadShutterAndSirenWrite : Prop :=
  (∀ (s : State) (t : Half) (d : List Byte) (h : ShutterId) (a : ZoneId) (b : Option ZoneId) (level : Level),
    s.listens → s.mode = .config → d.length = 4 → t.toNat = h.val → natAt d 0 = a.val →
    instOrWord 16 (natAt d 1) = .ok b → natAt d 2 = level.val → 2 ≤ level.val →
    exec (.loadShutter t d) s = .next ({ s with shutters := updAt s.shutters h fun q =>
      { q with sideA := a, sideB := b, closeLevel := level, timeout := clamp 1 120 (natAt d 3) } }.replyWith
      (.loaded (clamp 1 120 (natAt d 3) != natAt d 3)))) ∧
  (∀ (s : State) (t : Half) (d : List Byte) (y : SirenId) (link : Option TempId),
    s.listens → s.mode = .config → d.length = 5 → t.toNat = y.val → instOrWord 16 (natAt d 2) = .ok link →
    exec (.loadSiren t d) s = .next ({ s with sirens := updAt s.sirens y fun q =>
      { q with zones := halfAt d 0, link := link, derateAt := clampInt (-400) 2500 (intAt2 d 3) } }.replyWith
      (.loaded (clampInt (-400) 2500 (intAt2 d 3) != intAt2 d 3)))) ∧
  (∀ (s : State) (t : Half) (d : List Byte) (y : SirenId) (cls : Level) (empty : Bool),
    s.listens → s.mode = .config → d.length = 9 → t.toNat = y.val → natAt d 0 = cls.val → cls ≠ .normal →
    flagOf (natAt d 1) = .ok empty →
    let p : Pattern :=
      { empty := empty, blast := clamp 1 100 (natAt d 2), gap := clamp 1 100 (natAt d 3),
        blasts := clamp 1 16 (natAt d 4), groupGap := clamp 1 600 (natAt2 d 5), groups := natAt d 7,
        report := natAt d 8 }
    exec (.loadPattern t d) s = .next ({ s with sirens := updAt s.sirens y fun q =>
      { q with watch := if cls = Level.watch then p else q.watch, alarm := if cls = Level.alarm then p else q.alarm,
               fire := if cls = Level.fire then p else q.fire } }.replyWith
      (.loaded (p.blast != natAt d 2 || p.gap != natAt d 3 || p.blasts != natAt d 4 || p.groupGap != natAt2 d 5)))) ∧
  (∀ (s : State) (t : Half) (d : List Byte) (i : ShutterId), s.listens → s.mode = .config → d.length = 4 →
    t.toNat = i.val →
    let badInstance : Prop := (16 ≤ natAt d 0 ∧ natAt d 0 ≠ 255) ∨ (16 ≤ natAt d 1 ∧ natAt d 1 ≠ 255)
    let badChoice : Prop := natAt d 0 = 255 ∨ (natAt d 2 ≠ 2 ∧ natAt d 2 ≠ 3)
    (badInstance → exec (.loadShutter t d) s = .next (s.replyWith (.bare .noSuch))) ∧
    (¬badInstance → badChoice → exec (.loadShutter t d) s = .next (s.replyWith (.refused .badField)))) ∧
  (∀ (s : State) (t : Half) (d : List Byte) (y : SirenId), s.listens → s.mode = .config → d.length = 5 →
    t.toNat = y.val → 16 ≤ natAt d 2 → natAt d 2 ≠ 255 →
    exec (.loadSiren t d) s = .next (s.replyWith (.bare .noSuch))) ∧
  (∀ (s : State) (t : Half) (d : List Byte) (y : SirenId), s.listens → s.mode = .config → d.length = 9 →
    t.toNat = y.val → natAt d 0 = 0 ∨ 4 ≤ natAt d 0 ∨ 2 ≤ natAt d 1 →
    exec (.loadPattern t d) s = .next (s.replyWith (.refused .badField)))

/-! ## Detectors and inputs -/

/-- A bit at a hunting receiver moves the window on, and begins a frame where its last eight bits match a code, exactly or
with the tolerant flag in all but one bit; a bit at a collecting receiver is kept. -/
def Obligations.BitsHuntAndCollect : Prop :=
  ∀ (s : State) (d : ChanId) (bit : Bool), s.resetLow = false →
    (¬(s.mode = .guarded ∧ s.channels[d].type ≠ .off) → exec (.detectorBitArrival d bit) s = .next s) ∧
    (s.mode = .guarded → s.channels[d].type ≠ .off →
      (∀ window : List Bool, s.channels[d].receiver = .hunting window →
        let w := lastEight (window ++ [bit])
        let near (code : Byte) : Prop :=
          w.length = 8 ∧ onesIn (bitsByte w ^^^ code) ≤ if s.channels[d].tolerant then 1 else 0
        let put (r : Receiver) : State := { s with channels := updAt s.channels d fun q => { q with receiver := r } }
        (near s.limits.sparkCode →
          exec (.detectorBitArrival d bit) s = .next (put (.collecting .spark s.now []))) ∧
        (¬near s.limits.sparkCode → near s.limits.emberCode →
          exec (.detectorBitArrival d bit) s = .next (put (.collecting .ember s.now []))) ∧
        (¬near s.limits.sparkCode → ¬near s.limits.emberCode →
          exec (.detectorBitArrival d bit) s = .next (put (.hunting w)))) ∧
      (∀ (glow : Glow) (time : Tick) (bits : List Bool), s.channels[d].receiver = .collecting glow time bits →
        bits.length < 31 →
        exec (.detectorBitArrival d bit) s = .next { s with
          channels := updAt s.channels d fun q => { q with receiver := .collecting glow time (bits ++ [bit]) } }))

/-- The 32nd code-byte bit completes a frame, which is judged in order: a class the type does not take, a frame error, a
repeat, a head fault, an echo, a glint, a qualified event. A frame error or a head fault makes an IN_SERVICE channel BLIND
and an echo brings it back, with the CHANNEL notice and the zone's DETECTOR flag. A qualified event is taken by the oldest
candidate; without one a track is born in the lowest free slot, else in that of the oldest SPENT track without HOLD, and with
neither the event is TABLE_FULL. A frame that stands incomplete 20 ticks after its event time is judged as a frame error;
that an abandoned frame of a class the type does not take latches FOREIGN is the model's reading of log row 18. -/
def Obligations.FramesJudged : Prop :=
  ∀ (s : State) (d : ChanId) (glow : Glow) (time : Tick) (bits : List Bool), s.resetLow = false → s.mode = .guarded →
    s.channels[d].type ≠ .off → s.channels[d].receiver = .collecting glow time bits →
    let put (f : Channel → Channel) : State :=
      { s with channels := updAt s.channels d fun q => f { q with receiver := .hunting [] } }
    let foreign : State := put fun q => { q with latch := q.latch ||| 8#7 }
    let error : State := put fun q => { q with latch := q.latch ||| 16#7, errors := q.errors + 1 }
    -- the channel has changed between IN_SERVICE and BLIND: the notice, and the flag of its zone
    let moved (t u : State) : Prop := t = { u with zones := t.zones, notices := t.notices } ∧ t.raised .channel ∧
      ∀ z : ZoneId, { t.zones[z] with faults := s.zones[z].faults } = s.zones[z] ∧
        (s.zoneOfPlaced (.detector d) = some z → (inSet t.zones[z].faults 0 = true ↔
          ∃ e : ChanId, t.channels[e].state = .blind ∧ s.zoneOfPlaced (.detector e) = some z))
    let erroneous (c : Instr) : Prop :=
      let failed (q : Channel) : Channel := { q with latch := q.latch ||| 16#7, errors := min 255 (q.errors + 1) }
      (s.channels[d].errors < 7 → exec c s = .next error) ∧
      (s.channels[d].state = .blind → exec c s = .next (put failed)) ∧
      (7 ≤ s.channels[d].errors → s.channels[d].state = .inService →
        ∃ t : State, exec c s = .next t ∧ moved t (put fun q => { failed q with state := .blind }))
    (∀ bit : Bool, bits.length = 31 →
      (s.channels[d].type.takes glow = false → exec (.frameComplete d bit) s = .next foreign) ∧
      (s.channels[d].type.takes glow = true → frameOf (bits ++ [bit]) = none →
        erroneous (.frameComplete d bit) ∧
        (s.channels[d].errors = 7 → s.channels[d].state = .inService →
          ∃ t : State, exec (.frameComplete d bit) s = .next t ∧ t.channels[d].state = .blind ∧
            t.channels[d].errors = 8 ∧ t.raised .channel)) ∧
      (∀ f : Frame, s.channels[d].type.takes glow = true → frameOf (bits ++ [bit]) = some f →
        (s.channels[d].repeats f time = true → exec (.frameComplete d bit) s = .next (put id)) ∧
        (s.channels[d].repeats f time = false →
          (f.kind = .event → f.intensity < s.channels[d].threshold.toNat →
            exec (.frameComplete d bit) s = .next (put fun q =>
              { q with latch := q.latch ||| 4#7, lastAccepted := some { sequence := f.sequence, time := time } })) ∧
          (f.kind = .testEcho →
            let echoed (q : Channel) : Channel :=
              { q with latch := q.latch ||| 32#7, missed := 0, echoWindow := none,
                       lastAccepted := some { sequence := f.sequence, time := time } }
            (s.channels[d].state = .inService → exec (.frameComplete d bit) s = .next (put echoed)) ∧
            (s.channels[d].state = .blind → ∃ t : State, exec (.frameComplete d bit) s = .next t ∧
              moved t (put fun q => { echoed q with state := .inService }))) ∧
          (f.kind = .headFault →
            let faulty (q : Channel) : Channel :=
              { q with latch := q.latch ||| 64#7, lastAccepted := some { sequence := f.sequence, time := time } }
            (s.channels[d].state = .blind → exec (.frameComplete d bit) s = .next (put faulty)) ∧
            (s.channels[d].state = .inService → ∃ t : State, exec (.frameComplete d bit) s = .next t ∧
              moved t (put fun q => { faulty q with state := .blind }))) ∧
          -- a qualified event of a placed detector
          (∀ (seg : SegId) (position : Nat), f.kind = .event → s.channels[d].threshold.toNat ≤ f.intensity →
            s.placeOf (.detector d) = some (seg, position) →
            let u : State := put fun q =>
              { q with latch := q.latch ||| (match glow with | .spark => 1#7 | .ember => 2#7),
                       lastAccepted := some { sequence := f.sequence, time := time } }
            let candidate (k : Track) : Prop := (k.state = .flight ∨ k.state = .escaped) ∧ k.injected = false ∧
              ((∃ r ∈ k.route, r.joined = true ∧ r.item = .detector d ∧ k.base + r.early ≤ time ∧
                  time ≤ k.base + r.late) ∨
                ∃ p ∈ k.passes, p.detector = d ∧ p.opens ≤ time ∧ time ≤ p.closes)
            let oldest (p : Track → Prop) (i : SlotId) (k : Track) : Prop := s.track? i = some k ∧ p k ∧
              ∀ (j : SlotId) (l : Track), j ≠ i → s.track? j = some l → p l → s.ageOf l < s.ageOf k
            let spare (k : Track) : Prop := k.state = .spent ∧ k.hold = false
            let others (i : SlotId) (t : State) : Prop := ∀ j : SlotId, j ≠ i →
              t.slots[j].gen = s.slots[j].gen ∧ (t.track? j).isSome = (s.track? j).isSome
            let born (i : SlotId) (gen : BitVec 8) : Prop := ∃ (t : State) (k : Track),
              exec (.frameComplete d bit) s = .next t ∧ t.track? i = some k ∧ t.slots[i].gen = gen ∧ k.seq = s.nextSeq ∧
              k.birthTick = time ∧ k.base = time ∧ k.origin = d ∧ k.glow = glow ∧
              k.intensity = BitVec.ofNat 8 f.intensity ∧ k.injected = false ∧ k.hold = false ∧ k.note = none ∧
              k.survived = 0 ∧ t.nextSeq = s.nextSeq + 1 ∧ t.raised .born ∧ others i t ∧ u.Framed t
            (∀ (i : SlotId) (k : Track), oldest candidate i k → ∃ (t : State) (v : Track),
              exec (.frameComplete d bit) s = .next t ∧ t.track? i = some v ∧ t.slots[i].gen = s.slots[i].gen ∧
              v.seq = k.seq ∧ v.birthTick = k.birthTick ∧ v.origin = k.origin ∧ v.base = time ∧ v.glow = glow ∧
              v.intensity = BitVec.ofNat 8 f.intensity ∧
              v.survived = (if k.covered then min 15 (k.survived + 1) else k.survived) ∧ v.hold = k.hold ∧
              v.note = k.note ∧ t.nextSeq = s.nextSeq ∧ others i t ∧ u.Framed t) ∧
            ((∀ (i : SlotId) (k : Track), s.track? i = some k → ¬candidate k) →
              (∀ i : SlotId, s.track? i = none → (∀ j : SlotId, j < i → s.track? j ≠ none) →
                born i s.slots[i].gen) ∧
              ((∀ i : SlotId, s.track? i ≠ none) →
                (∀ (i : SlotId) (k : Track), oldest spare i k → born i (s.slots[i].gen + 1)) ∧
                ((∀ (i : SlotId) (k : Track), s.track? i = some k → ¬spare k) →
                  let z := s.segments[seg].zone
                  let l := s.segments[seg].line
                  ∃ t : State, exec (.frameComplete d bit) s = .next t ∧ t.raised .tableFull ∧
                    t.zones[z].tableFull = true ∧ 2 ≤ t.zones[z].latched.val ∧ 2 ≤ t.zones[z].level.val ∧
                    t.zones[z].acknowledged = false ∧ t.nextSeq = s.nextSeq ∧
                    (∀ i : SlotId, t.slots[i].gen = s.slots[i].gen ∧ (t.track? i).isSome = true) ∧ u.Framed t ∧
                    (s.linesOrdered → s.lines[l].inUse = true →
                      t.lines[l].state = .stopped ∨ t.lines[l].state = .stopping)))))))) ∧
    (time + 20 ≤ s.now →
      (s.channels[d].type.takes glow = false → exec (.frameAbandoned d) s = .next foreign) ∧
      (s.channels[d].type.takes glow = true → erroneous (.frameAbandoned d)))

/-- A survey boundary publishes and empties each channel's latch and count; a supervision pulse drives the test and opens
the echo window; the drive ends; a window that stands open for 1,000 ticks is a missed echo, and the second makes the
channel BLIND. -/
def Obligations.SurveyAndSupervision : Prop :=
  (∀ s : State, s.resetLow = false → s.mode = .guarded → reached s.nextSurvey s.now = true →
    exec .surveyBoundary s = .next { s with
      channels := s.channels.map fun q =>
        if q.type = .off then q
        else { q with published := q.latch, publishedErrors := q.errors, latch := 0, errors := 0 },
      nextSurvey := s.nextSurvey.map fun t => t + 10000 }) ∧
  (∀ (s : State) (d : ChanId), s.resetLow = false → s.mode = .guarded → s.channels[d].type ≠ .off →
    reached s.channels[d].nextPulse s.now = true →
    exec (.supervisionPulse d) s = .next { s with
      channels := updAt s.channels d fun q =>
        { q with testDrive := some (s.now + 10), echoWindow := some s.now,
                 nextPulse := q.nextPulse.map fun t => t + s.limits.supervision * 10000 } }) ∧
  (∀ (s : State) (d : ChanId), s.resetLow = false → reached s.channels[d].testDrive s.now = true →
    exec (.testDriveEnd d) s = .next { s with
      channels := updAt s.channels d fun q => { q with testDrive := none } }) ∧
  (∀ (s : State) (d : ChanId) (t : Tick), s.resetLow = false → s.mode = .guarded → s.channels[d].type ≠ .off →
    s.channels[d].echoWindow = some t → t + 1000 ≤ s.now →
    (s.channels[d].missed = 0 →
      exec (.echoWindowExpiry d) s = .next { s with
        channels := updAt s.channels d fun q => { q with missed := 1, echoWindow := none } }) ∧
    (s.channels[d].missed = 1 → s.channels[d].state = .inService →
      ∃ u : State, exec (.echoWindowExpiry d) s = .next u ∧ u.channels[d].state = .blind ∧ u.channels[d].missed = 2 ∧
        u.channels[d].echoWindow = none ∧ u.raised .channel))

/-- Pulses are counted while their channel is in use; a gate boundary outside GUARD forms the samples and takes the
readings, and in GUARD it leaves those of the boundary too: a valid pulse is read and judged for every flag and derate flag, and
a flag that becomes set arrives in its zone; a boundary without a valid reading counts as missing and changes no flag, the tenth
in a row is SENSOR_FAULT, and a zone's SENSOR flag stands as long as a channel in use of it is in SENSOR_FAULT. A channel that
becomes STALLED stalls the track on it, and one that becomes FLOWING has it planned afresh from that tick. That a discarded gate
forms no sample is the model's reading of log row 34. -/
def Obligations.InputPulsesAndGates : Prop :=
  (∀ (s : State) (a : AirId), s.resetLow = false →
    exec (.airflowPulse a) s = .next { s with
      airflows := updAt s.airflows a fun q => if q.inUse then { q with count := min 65535 (q.count + 1) } else q }) ∧
  (∀ (s : State) (t : TempId) (width : Nat), s.resetLow = false →
    exec (.temperaturePulse t width) s = .next { s with
      temps := updAt s.temps t fun q => if q.inUse then { q with pulse := some width } else q }) ∧
  (∀ s : State, s.resetLow = false → s.nextGate ≤ s.now → s.mode ≠ .guarded →
    ∃ t : State, exec .sampleGateBoundary s = .next t ∧
      t = { s with airflows := t.airflows, temps := t.temps, nextGate := s.nextGate + 1000 } ∧
      (∀ a : AirId, t.airflows[a] =
        if s.airflows[a].inUse = false then s.airflows[a]
        else if s.airflows[a].discard = true then { s.airflows[a] with count := 0, discard := false }
        else { s.airflows[a] with sample := min 600 (s.airflows[a].count * s.airflows[a].scale / 64), count := 0 }) ∧
      (∀ i : TempId, s.temps[i].inUse = true → s.temps[i].discard = false →
        (∀ w, s.temps[i].pulse = some w → 500 ≤ w → w ≤ 3400 → t.temps[i] =
          { s.temps[i] with
            reading := some ((w : Int) - 900), readingTick := some s.now, missing := 0, pulse := none }) ∧
        (s.temps[i].pulse = none → t.temps[i] = { s.temps[i] with missing := min 10 (s.temps[i].missing + 1) }) ∧
        (∀ w, s.temps[i].pulse = some w → w < 500 ∨ 3400 < w → t.temps[i] =
          { s.temps[i] with missing := min 10 (s.temps[i].missing + 1), pulse := none }))) ∧
  (∀ s : State, s.resetLow = false → s.nextGate ≤ s.now → s.mode = .guarded →
    ∃ t : State, exec .sampleGateBoundary s = .next t ∧ t.nextGate = s.nextGate + 1000 ∧ t.now = s.now ∧
      t.mode = .guarded ∧ t.limits = s.limits ∧ t.segments = s.segments ∧ t.channels = s.channels ∧
      (∀ (a : AirId) (h : History), s.airflows[a].inUse = true → s.airflows[a].discard = false →
        s.airflows[a].history = some h →
        let sample := min 600 (s.airflows[a].count * s.airflows[a].scale / 64)
        let smoothed := (h.second + h.third + h.newest + sample) / 4
        t.airflows[a].sample = sample ∧ t.airflows[a].count = 0 ∧
        t.airflows[a].history =
          some { oldest := h.second, second := h.third, third := h.newest, newest := sample } ∧
        t.airflows[a].smoothed = some smoothed ∧
        (s.airflows[a].stall = .flowing →
          t.airflows[a].stall = if smoothed < s.limits.vStall then .stalled else .flowing) ∧
        (s.airflows[a].stall = .stalled →
          t.airflows[a].stall = if s.limits.vStall + 5 ≤ smoothed then .flowing else .stalled)) ∧
      (∀ (i : TempId) (w : Nat), s.temps[i].inUse = true → s.temps[i].discard = false → s.temps[i].pulse = some w →
        500 ≤ w → w ≤ 3400 →
        let r : Int := (w : Int) - 900
        t.temps[i].reading = some r ∧ t.temps[i].state = .reading ∧ t.temps[i].missing = 0 ∧
        (t.temps[i].hot = true ↔
          if s.temps[i].hot then s.temps[i].hotAt - 20 < r else s.temps[i].hotAt ≤ r) ∧
        (t.temps[i].alarm = true ↔
          if s.temps[i].alarm then s.temps[i].alarmAt - 20 < r else s.temps[i].alarmAt ≤ r) ∧
        (t.temps[i].fire = true ↔
          if s.temps[i].fire then s.temps[i].fireAt - 20 < r else s.temps[i].fireAt ≤ r) ∧
        (∀ y : SirenId, t.temps[i].derate.getLsbD y.val = true ↔ s.sirens[y].link = some i ∧
          if s.temps[i].derate.getLsbD y.val then s.sirens[y].derateAt - 20 < r else s.sirens[y].derateAt ≤ r) ∧
        (t.temps[i].alarm = true → s.temps[i].alarm = false →
          2 ≤ t.zones[s.temps[i].zone].latched.val ∧ t.zones[s.temps[i].zone].acknowledged = false) ∧
        (t.temps[i].fire = true → s.temps[i].fire = false →
          t.zones[s.temps[i].zone].latched = .fire ∧ t.zones[s.temps[i].zone].acknowledged = false)) ∧
      -- no valid reading (R45, R47)
      (∀ i : TempId, s.temps[i].inUse = true → s.temps[i].discard = false →
        (∀ w, s.temps[i].pulse = some w → w < 500 ∨ 3400 < w) →
        t.temps[i] =
          { s.temps[i] with
            missing := min 10 (s.temps[i].missing + 1), pulse := none,
            state := if 9 ≤ s.temps[i].missing then .sensorFault else s.temps[i].state }) ∧
      (∀ z : ZoneId, t.zones[z].faults.getLsbD 4 = true ↔
        ∃ i : TempId, s.temps[i].inUse = true ∧ t.temps[i].state = .sensorFault ∧ s.temps[i].zone = z) ∧
      -- the stall events at a track (R41, R61, R63)
      (∀ (c : AirId) (i : SlotId) (k : Track), s.track? i = some k → (∀ j : SlotId, j ≠ i → s.track? j = none) →
        s.segments[k.current].source = some c →
        (s.airflows[c].stall ≠ .stalled → t.airflows[c].stall = .stalled → k.stalledSince = none →
          k.state = .flight ∨ k.state = .escaped →
          (∃ v : Track, t.track? i = some v ∧ v.stalledSince = some s.now ∧ v.base = k.base ∧
            (k.state = .flight → v.state = .stalled) ∧
            (k.state = .escaped → v.state = .escaped ∧ v.escapeReason = k.escapeReason)) ∧
          ((∀ j : TempId, s.temps[j].inUse = false) → s.levelsComputed →
            (∀ z : ZoneId, s.zones[z].faults.getLsbD 4 = false) →
            (∀ x : StationId, ∀ e ∈ s.stations[x].served, e.handle = s.handleOf i → e.active = true) →
            ∃ r : RouteItem, (∃ m, r.item = .entry m) ∧ r.seg = k.current ∧ r.conds = [] ∧
              t = { s with
                airflows := t.airflows, temps := t.temps, nextGate := s.nextGate + 1000,
                slots := updAt s.slots i fun q =>
                  { q with track := some { k with
                    state := if k.state = .flight then .stalled else k.state, route := [r], passes := [],
                    stalledSince := some s.now } } })) ∧
        (s.airflows[c].stall = .stalled → t.airflows[c].stall = .flowing → k.stalledSince ≠ none →
          ∃ v : Track, t.track? i = some v ∧ v.base = s.now ∧ v.survived = k.survived ∧
            (k.covered = true → v.covered = true) ∧
            (k.state = .escaped → v.state = .escaped ∧ v.escapeReason = k.escapeReason) ∧
            ((∀ b : AirId, t.airflows[b].stall ≠ .stalled) → v.stalledSince = none ∧
              (k.state = .stalled → v.state ≠ .stalled)))))

/-- The arithmetic the rules fix: the code byte with its one-bit correction and two-bit detection, the CRC-16 of the nine
digits, and the early and late pieces as floor and ceiling. -/
def Obligations.FixedArithmetic : Prop :=
  (∀ n : BitVec 4, decodeCode (encodeCode n) = some n.toNat ∧
    (∀ i : Fin 8, decodeCode (encodeCode n ^^^ (1#8 <<< i.val)) = some n.toNat) ∧
    (∀ i j : Fin 8, i ≠ j → decodeCode (encodeCode n ^^^ (1#8 <<< i.val) ^^^ (1#8 <<< j.val)) = none)) ∧
  crc16 [0x31, 0x32, 0x33, 0x34, 0x35, 0x36, 0x37, 0x38, 0x39] = 0x29B1 ∧
  (∀ tol v d : Nat, 0 < v → tol < 100 →
    (earlyPiece tol v d * (v * (100 + tol)) ≤ d * 100000 ∧
      d * 100000 < (earlyPiece tol v d + 1) * (v * (100 + tol))) ∧
    (d * 100000 ≤ latePiece tol v d * (v * (100 - tol)) ∧
      ∀ n, d * 100000 ≤ n * (v * (100 - tol)) → latePiece tol v d ≤ n))

/-- The outputs follow the states: valve and purge, gate drive, fans and feeder stop, brake and motor, siren driver,
NOTICE and ALERT. -/
def Obligations.OutputsFollowStates : Prop :=
  (∀ q : Station, (q.valve = true ↔ q.state = .releasing) ∧ (q.purge = true ↔ q.state = .purging)) ∧
  (∀ g : Gate, g.drive = true ↔ g.state = .normal ∨ g.state = .toNormal) ∧
  (∀ l : Line, (l.fansOn = true ↔ l.state = .starting ∨ l.state = .running ∨ l.state = .stopping) ∧
    (l.feederStop = true ↔ l.state ≠ .running)) ∧
  (∀ h : Shutter, (h.brake = true ↔ h.state = .opened ∨ h.state = .paused ∨ h.state = .closed) ∧
    (h.motorUp = true ↔ h.state = .opening) ∧ (h.motorDown = true ↔ h.state = .closing)) ∧
  (∀ y : Siren, y.driver = true ↔ y.phase = .blast) ∧
  (∀ s : State, (s.noticeLow = true ↔ ∃ i : Fin 12, s.notices.flags.getLsbD i.val = true ∧
      s.notices.mask.getLsbD i.val = true) ∧
    (s.alertLow = true ↔ s.link.alert ≠ .idle))

/-! ## Tracks and plans -/

/-- ANNOTATE TRACK sets, clears or keeps the note and HOLD of a live track, sets a fresh linger end where HOLD is cleared on
an EXPIRED track, and answers state, note and flags; an action outside its choices is BAD_FIELD. -/
def Obligations.AnnotateTrack : Prop :=
  ∀ (s : State) (t : Half) (note value hold : Byte) (i : SlotId) (k : Track), s.listens → s.mode = .guarded →
    t.toNat / 256 = i.val → s.track? i = some k → s.slots[i].gen = t.setWidth 8 →
    (3 ≤ note.toNat ∨ 3 ≤ hold.toNat →
      exec (.annotateTrack t [note, value, hold]) s = .next (s.replyWith (.refused .badField))) ∧
    (note.toNat < 3 → hold.toNat < 3 →
      let u : Track := { k with
        note := if note = 1 then some value else if note = 2 then none else k.note,
        hold := if hold = 1 then true else if hold = 2 then false else k.hold,
        lingerEnd := if hold = 2 ∧ k.state = .spent ∧ k.lingerEnd = .expired then
          .until (s.now + s.limits.linger * 10000) else k.lingerEnd }
      exec (.annotateTrack t [note, value, hold]) s = .next ({ s with
        slots := updAt s.slots i fun q => { q with track := some u } }.replyWith
          (.ok (u8 u.state.code ++ optField 1 (fun b => [b]) u.note ++
            u8 (u.injected.toNat + 2 * u.diverted.toNat + 4 * u.hold.toNat + 8 * u.blindPass.toNat)))))

/-- A track is retired by RETIRE TRACK, in SPENT or ESCAPED, and by the linger end of a SPENT track without HOLD: its slot
is free and its generation moves on, every other slot keeps its own, and no served list or diversion list keeps its
handle at the retirement; with HOLD the linger end becomes EXPIRED. -/
def Obligations.TracksRetired : Prop :=
  (∀ (s : State) (t : Half) (i : SlotId) (k : Track), s.listens → s.mode = .guarded → t.toNat / 256 = i.val →
    s.track? i = some k → s.slots[i].gen = t.setWidth 8 →
    (k.state = .flight ∨ k.state = .stalled →
      exec (.retireTrack t []) s = .next (s.replyWith (.refused .trackActive))) ∧
    (k.state = .spent ∨ k.state = .escaped →
      ∃ u : State, exec (.retireTrack t []) s = .next (u.replyWith (.ok [])) ∧
        u.slots[i] = { gen := s.slots[i].gen + 1, track := none } ∧
        (∀ j : SlotId, j ≠ i → u.slots[j].gen = s.slots[j].gen ∧ (u.track? j).isSome = (s.track? j).isSome) ∧
        u.nextSeq = s.nextSeq ∧ s.Framed u)) ∧
  (∀ (s : State) (i : SlotId) (k : Track) (stop : Tick), s.resetLow = false → s.track? i = some k → k.state = .spent →
    k.lingerEnd = .until stop → stop ≤ s.now →
    (k.hold = true → exec (.lingerExpiry i) s = .next { s with
      slots := updAt s.slots i fun q => { q with track := some { k with lingerEnd := .expired } } }) ∧
    (k.hold = false → ∃ u : State, exec (.lingerExpiry i) s = .next u ∧
      u.slots[i] = { gen := s.slots[i].gen + 1, track := none } ∧
      (∀ j : SlotId, j ≠ i → u.slots[j].gen = s.slots[j].gen ∧ (u.track? j).isSome = (s.track? j).isSome) ∧
      u.nextSeq = s.nextSeq ∧ s.Framed u)) ∧
  (∀ (s : State) (i : SlotId) (k : Track), s.track? i = some k →
    let u := (s.begin.retire i).st
    (∀ x : StationId, u.stations[x] =
      { s.stations[x] with served := s.stations[x].served.filter fun e => e.handle != s.handleOf i }) ∧
    (∀ g : GateId, u.gates[g] =
      { s.gates[g] with diversions := s.gates[g].diversions.filter fun h => h != s.handleOf i }))

/-- INJECT TRACK: a detector whose type is OFF is NOT_PLACED, a full table without a SPENT track to reclaim is TABLE_FULL,
and otherwise a track is born INJECTED with the next birth sequence, and BORN is raised: in the lowest free slot, or in a full
table in the slot of the oldest SPENT track without HOLD, which is reclaimed and whose generation moves on. -/
def Obligations.InjectTrackBirth : Prop :=
  ∀ (s : State) (t : Half) (a intensity : Byte) (d : ChanId) (glow : Glow), s.listens → s.mode = .guarded →
    t.toNat = d.val → oneOf [.spark, .ember] a.toNat = .ok glow →
    (s.channels[d].type = .off →
      exec (.injectTrack t [a, intensity]) s = .next (s.replyWith (.refused .notPlaced))) ∧
    (∀ (seg : SegId) (position : Nat), s.channels[d].type ≠ .off →
      s.placeOf (.detector d) = some (seg, position) →
      let born (i : SlotId) (gen : BitVec 8) : Prop :=
        ∃ (u : State) (k : Track),
          exec (.injectTrack t [a, intensity]) s = .next (u.replyWith (.ok [BitVec.ofNat 8 i.val, gen])) ∧
          u.track? i = some k ∧ u.slots[i].gen = gen ∧ k.seq = s.nextSeq ∧ k.birthTick = s.now ∧ k.base = s.now ∧
          k.origin = d ∧ k.glow = glow ∧ k.intensity = intensity ∧ k.injected = true ∧ k.hold = false ∧
          k.note = none ∧ k.survived = 0 ∧ u.nextSeq = s.nextSeq + 1 ∧ u.raised .born ∧ s.Framed u ∧
          (∀ j : SlotId, j ≠ i → u.slots[j].gen = s.slots[j].gen ∧ (u.track? j).isSome = (s.track? j).isSome)
      ((∀ i : SlotId, ∃ k, s.track? i = some k ∧ (k.state = .spent → k.hold = true)) →
        exec (.injectTrack t [a, intensity]) s = .next (s.replyWith (.refused .tableFull))) ∧
      (∀ i : SlotId, s.track? i = none → (∀ j : SlotId, j < i → s.track? j ≠ none) → born i s.slots[i].gen) ∧
      (∀ (i : SlotId) (k : Track), (∀ j : SlotId, s.track? j ≠ none) → s.track? i = some k → k.state = .spent →
        k.hold = false →
        (∀ (j : SlotId) (l : Track), j ≠ i → s.track? j = some l → l.state = .spent → l.hold = false →
          s.ageOf l < s.ageOf k) →
        born i (s.slots[i].gen + 1)))

/-- The timers of a track: the stall limit of a STALLED track escapes it with reason STALL, the current segment advances
where the route says so, and recent passes leave. The route says so by its last unconditional entry that is due. An
advance into another zone moves the track's membership there, with the levels of both zones; an advance into stalled air
stalls the track; an advance into the segment of an unconditional STALL_END whose air has returned has the route walked on
from there with its bounds. That a recent pass leaves at the end of its tick even where it joined late is the model's
reading of log row 24, and that the track looks at the segment it has come to once the advance is made that of log row 37. -/
def Obligations.TrackTimers : Prop :=
  (∀ (s : State) (i : SlotId) (k : Track) (since : Tick), s.resetLow = false → s.track? i = some k →
    k.state = .stalled → k.stalledSince = some since → since + s.limits.stallLimit * 10000 ≤ s.now →
    ∃ (u : State) (v : Track), exec (.stallLimitExpiry i) s = .next u ∧ u.track? i = some v ∧ v.state = .escaped ∧
      v.escapeReason = some .stall ∧ u.raised .escaped ∧ s.Framed u ∧ u.nextSeq = s.nextSeq) ∧
  (∀ (s : State) (i : SlotId) (k : Track) (seg : SegId), s.resetLow = false → s.track? i = some k →
    (k.state = .flight ∨ k.state = .escaped) → k.stalledSince = none → currentOf k.route k.base s.now = some seg →
    seg ≠ k.current → s.membershipOf { k with current := seg } = k.member → s.segStalled seg = false →
    (∀ r ∈ k.route, ∀ m b, r.item ≠ .terminal .stallEnd m b) →
    exec (.segmentAdvance i) s = .next { s with
      slots := updAt s.slots i fun q => { q with track := some { k with current := seg } } }) ∧
  -- where the route puts the track (R54, R84)
  (∀ (route : List RouteItem) (base now : Tick) (seg : SegId),
    let due (r : RouteItem) : Prop := (∃ via, r.item = .entry via) ∧ r.conds = [] ∧ base + r.early ≤ now
    currentOf route base now = some seg ↔ ∃ (n : Nat) (r : RouteItem), route[n]? = some r ∧ due r ∧ r.seg = seg ∧
      ∀ (m : Nat) (q : RouteItem), n < m → route[m]? = some q → ¬due q) ∧
  (∀ (s : State) (i : SlotId) (k : Track) (seg : SegId), s.resetLow = false → s.track? i = some k →
    (k.state = .flight ∨ k.state = .escaped) → k.stalledSince = none → currentOf k.route k.base s.now = some seg →
    seg ≠ k.current →
    let put (l : Track) : State := { s with slots := updAt s.slots i fun q => { q with track := some l } }
    -- into another zone (R75, R148)
    (∀ z y : ZoneId, s.segStalled seg = false → s.segments[seg].zone = y → y ≠ z → s.levelsComputed →
      (∀ r ∈ k.route, r.seg = seg → r.conds = [] → ∀ m b, r.item ≠ .terminal .stallEnd m b) →
      let judged (old new : Zone) : Zone :=
        { new with level := new.computed,
                   levelChanged := if new.computed = old.level then old.levelChanged else some s.now }
      let moved (l : Track) (left come : Zone) : Prop :=
        ∃ t : State, exec (.segmentAdvance i) s = .next t ∧
          t = { put l with zones := t.zones, shutters := t.shutters, sirens := t.sirens, notices := t.notices } ∧
          t.zones[z] = judged s.zones[z] left ∧ t.zones[y] = judged s.zones[y] come ∧
          ∀ w : ZoneId, w ≠ z → w ≠ y → t.zones[w] = s.zones[w]
      (k.state = .flight → k.member = some (.live z) →
        moved { k with current := seg, member := some (.live y) } { s.zones[z] with live := s.zones[z].live - 1 }
          { s.zones[y] with live := s.zones[y].live + 1 }) ∧
      (k.state = .escaped → k.member = some (.escaped z) →
        moved { k with current := seg, member := some (.escaped y) }
          { s.zones[z] with escaped := s.zones[z].escaped - 1 }
          { s.zones[y] with
            escaped := s.zones[y].escaped + 1, latched := s.zones[y].latched.sup .alarm, acknowledged := false })) ∧
    -- into stalled air (R54, R61)
    (s.segStalled seg = true →
      (∃ (t : State) (v : Track), exec (.segmentAdvance i) s = .next t ∧ t.track? i = some v ∧ v.base = k.base ∧
        v.stalledSince = some s.now ∧ (k.state = .flight → v.state = .stalled) ∧
        (k.state = .escaped → v.state = .escaped ∧ v.escapeReason = k.escapeReason) ∧ s.Framed t ∧
        t.nextSeq = s.nextSeq) ∧
      (s.membershipOf { k with current := seg } = k.member →
        (∀ x : StationId, ∀ e ∈ s.stations[x].served, e.handle = s.handleOf i → e.active = true) →
        ∃ r : RouteItem, (∃ m, r.item = .entry m) ∧ r.seg = seg ∧ r.conds = [] ∧
          exec (.segmentAdvance i) s = .next (put { k with
            current := seg, state := if k.state = .flight then .stalled else k.state, route := [r], passes := [],
            stalledSince := some s.now }))) ∧
    -- into the segment of a STALL_END whose air has returned (R64, R98)
    (s.segStalled seg = false →
      (∃ (t : State) (v : Track), exec (.segmentAdvance i) s = .next t ∧ t.track? i = some v ∧ v.base = k.base ∧
        v.survived = k.survived ∧ (k.covered = true → v.covered = true) ∧ s.Framed t ∧ t.nextSeq = s.nextSeq ∧
        ((∀ o : SegId, s.segStalled o = false) → v.stalledSince = none ∧ v.state ≠ .stalled)) ∧
      (∀ (front : List RouteItem) (e : RouteItem) (m : Option StationId) (tag : Byte),
        k.route = front ++ [e] → (∀ r ∈ front, (∃ via, r.item = .entry via) ∧ r.conds = []) →
        e.item = .terminal .stallEnd m false → e.seg = seg → e.conds = [] →
        s.segments[seg].points = [] → s.segments[seg].outlet = .ends tag → s.segments[seg].endKind = .safeEnd →
        s.membershipOf { k with current := seg } = k.member →
        (∀ x : StationId, ∀ f ∈ s.stations[x].served, f.handle ≠ s.handleOf i) →
        let early := e.early + earlyPiece s.limits.tol (s.velocity seg) s.segments[seg].length
        let late := e.late + latePiece s.limits.tol (s.velocity seg) s.segments[seg].length
        early < 200000 → s.now < k.base + min 200000 late →
        exec (.segmentAdvance i) s = .next (put { k with
          current := seg,
          route := front ++ [{
            item := .terminal .safeEnd none false, seg := seg, early := early, late := min 200000 late,
            openEnd := e.openEnd || decide (200000 < late), conds := [], depth := e.depth, joined := true,
            covering := false, lateStart := false, unserved := false, holds := false }] })))) ∧
  (∀ (s : State) (i : SlotId) (k : Track), s.resetLow = false → s.track? i = some k →
    (∃ p ∈ k.passes, p.leaves ≤ s.now) →
    exec (.recentPassExpiry i) s = .next { s with
      slots := updAt s.slots i fun q =>
        { q with track := some { k with passes := k.passes.filter fun p => !decide (p.leaves ≤ s.now) } } })

/-- Plan entries at their bounds: the early-bound test of R88; a PENDING entry at a RELEASING station becomes COVERING and
at any other resolves UNCOVERED with its reason, which lets an uncovered FLIGHT track escape at the marker of an end that
calls for it; a COVERING one at its late bound covers the track; a DETECTOR entry joins the recent passes, a GATE entry
leaves the plan; a TERMINAL resolves, and with the last one a FLIGHT track is SPENT. The tick at which a recent pass
leaves is the model's reading of log row 24, that an unconditional STALL_END does not resolve at its bound that of log row
37, and the mark `resolved` on a served entry is the model's field of log row 38. That a SPENT track keeps its ends and
entries and drops the points left in its route is the model's reading of log row 15, that its recent passes are emptied
that of log row 39, and `holds` on a plan entry is the model's field of log row 38. -/
def Obligations.PlanEntryBounds : Prop :=
  (∀ (q : Station) (unserved : Bool), q.earlyTest unserved =
    if q.state = .releasing then none else if q.state = .fault then some .fault
    else if q.state = .locked then some .locked
    else some (if unserved then .stationFull else .lateGrant)) ∧
  (∀ (s : State) (i : SlotId) (place n : Nat) (k : Track) (r : RouteItem) (x : StationId), s.resetLow = false →
    s.track? i = some k → s.planEntry i place = some (n, r) → r.item = .station x →
    (r.covering = false → k.base + r.early ≤ s.now → s.stations[x].state = .releasing →
      (∀ p ∈ k.route, p.isPoint = true → p.joined = true) →
      exec (.stationEarlyBound i place) s = .next { s with
        slots := updAt s.slots i fun q =>
          { q with track := some { k with route := k.route.modify n fun p => { p with covering := true } } } }) ∧
    (∀ reason : Uncovered, r.covering = false → k.base + r.early ≤ s.now →
      s.stations[x].earlyTest r.unserved = some reason →
      let escapes : Prop := k.state = .flight ∧ k.covered = false ∧
        ∃ p ∈ k.route, ∃ kind b, p.item = .terminal kind (some x) b ∧ kind ≠ .safeEnd ∧ r.conds <:+ p.conds
      (escapes → ∃ (u : State) (v : Track), exec (.stationEarlyBound i place) s = .next u ∧ u.track? i = some v ∧
        v.state = .escaped ∧ v.escapeReason = some .uncovered ∧ u.raised .escaped ∧ s.Framed u ∧
        u.nextSeq = s.nextSeq ∧ min 255 (k.stationsUncovered + 1) ≤ v.stationsUncovered) ∧
      (¬escapes → (∀ p ∈ k.route, p.isPoint = true → p.joined = true) →
        (∀ (m : Nat) (p : RouteItem), m ≠ n → k.route[m]? = some p → p.item ≠ .station x) →
        (∀ y : StationId, y ≠ x ∨ r.holds = false → ∀ e ∈ s.stations[y].served, e.handle ≠ s.handleOf i) →
        exec (.stationEarlyBound i place) s = .next { s with
          slots := updAt s.slots i fun q =>
            { q with track := some { k with
              route := k.route.eraseIdx n, stationsUncovered := min 255 (k.stationsUncovered + 1),
              lastUncovered := some reason } },
          stations := updAt s.stations x fun q =>
            { q with served := q.served.map fun e =>
                if e.handle = s.handleOf i then { e with resolved := true } else e } })) ∧
    (r.covering = true → k.base + r.late ≤ s.now →
      ∃ (u : State) (v : Track), exec (.stationLateBound i place) s = .next u ∧ u.track? i = some v ∧
        v.covered = true ∧ s.Framed u ∧ u.nextSeq = s.nextSeq ∧
        min 255 (k.stationsCovered + 1) ≤ v.stationsCovered) ∧
    (r.covering = true → k.base + r.late ≤ s.now → (∀ p ∈ k.route, p.isPoint = true → p.joined = true) →
      (∀ (m : Nat) (p : RouteItem), m ≠ n → k.route[m]? = some p → p.item ≠ .station x) →
      (∀ y : StationId, y ≠ x ∨ r.holds = false → ∀ e ∈ s.stations[y].served, e.handle ≠ s.handleOf i) →
      exec (.stationLateBound i place) s = .next { s with
        slots := updAt s.slots i fun q =>
          { q with track := some { k with
            route := k.route.eraseIdx n, covered := true, stationsCovered := min 255 (k.stationsCovered + 1) } },
        stations := updAt s.stations x fun q =>
          { q with served := q.served.map fun e =>
              if e.handle = s.handleOf i then { e with resolved := true } else e } }) ∧
    -- the entry is taken whatever else the plan holds (R86)
    ((r.covering = false → k.base + r.early ≤ s.now →
        ∃ (u : State) (v : Track), exec (.stationEarlyBound i place) s = .next u ∧ u.track? i = some v ∧
          v.base = k.base ∧ s.Framed u ∧ u.nextSeq = s.nextSeq) ∧
      (r.covering = true → k.base + r.early ≤ s.now → exec (.stationEarlyBound i place) s = .next s) ∧
      (r.covering = false → exec (.stationLateBound i place) s = .next s))) ∧
  (∀ (s : State) (i : SlotId) (place n : Nat) (k : Track) (r : RouteItem), s.resetLow = false →
    s.track? i = some k → s.planEntry i place = some (n, r) → k.base + r.late ≤ s.now →
    (∀ p ∈ k.route, p.isPoint = true → p.joined = true) →
    (∀ d : ChanId, r.item = .detector d →
      exec (.entryLateBound i place) s = .next { s with
        slots := updAt s.slots i fun q =>
          { q with track := some { k with
            route := k.route.eraseIdx n,
            passes := k.passes ++ [{ detector := d, opens := k.base + r.early, closes := k.base + r.late,
                                     leaves := max (k.base + r.late + 16) s.now }],
            blindPass := k.blindPass || (s.channels[d].state == .blind) } } }) ∧
    (∀ g : GateId, r.item = .gate g →
      exec (.entryLateBound i place) s = .next { s with
        slots := updAt s.slots i fun q => { q with track := some { k with route := k.route.eraseIdx n } } })) ∧
  (∀ (s : State) (i : SlotId) (place n : Nat) (k : Track) (r : RouteItem), s.resetLow = false →
    s.track? i = some k → s.planEntry i place = some (n, r) → k.base + r.late ≤ s.now →
    (∃ d : ChanId, r.item = .detector d) ∨ (∃ g : GateId, r.item = .gate g) ∨
      (∃ kind m done, r.item = .terminal kind m done) →
    ∃ (u : State) (v : Track), exec (.entryLateBound i place) s = .next u ∧ u.track? i = some v ∧
      v.base = k.base ∧ s.Framed u ∧ u.nextSeq = s.nextSeq) ∧
  (∀ (s : State) (i : SlotId) (place n : Nat) (k : Track) (r : RouteItem) (kind : EndOf) (m : Option StationId) (b : Bool),
    s.resetLow = false → s.track? i = some k → s.planEntry i place = some (n, r) → k.base + r.late ≤ s.now →
    r.item = .terminal kind m b →
    let others : Prop := ∃ (j : Nat) (p : RouteItem) (kind' : EndOf) (m' : Option StationId), j ≠ n ∧
      k.route[j]? = some p ∧ p.item = .terminal kind' m' false
    let after : List RouteItem := k.route.modify n fun p => { p with item := .terminal kind m true, joined := false }
    (kind = .stallEnd → r.conds = [] → exec (.entryLateBound i place) s = .next s) ∧
    (kind ≠ .stallEnd ∨ r.conds ≠ [] →
      (k.state ≠ .flight ∨ others → (∀ p ∈ k.route, p.isPoint = true → p.joined = true) →
        exec (.entryLateBound i place) s = .next { s with
          slots := updAt s.slots i fun q => { q with track := some { k with route := after } } }) ∧
      (k.state = .flight → ¬others →
        (∃ (u : State) (v : Track), exec (.entryLateBound i place) s = .next u ∧ u.track? i = some v ∧
          v.state = .spent ∧ s.Framed u ∧ u.nextSeq = s.nextSeq) ∧
        (∀ z : ZoneId, k.member = some (.live z) →
          s.zones[z].level = { s.zones[z] with live := s.zones[z].live - 1 }.computed →
          (∀ y : StationId, ∀ e ∈ s.stations[y].served, e.handle ≠ s.handleOf i) →
          exec (.entryLateBound i place) s = .next { s with
            slots := updAt s.slots i fun q =>
              { q with track := some { k with
                state := .spent,
                route := after.filter fun p =>
                  match p.item with
                  | .entry _ => true
                  | .terminal _ _ _ => true
                  | _ => false,
                passes := [], lingerEnd := .until (s.now + s.limits.linger * 10000), member := none } },
            zones := updAt s.zones z fun q => { q with live := q.live - 1 } }))))

/-! ## Stations -/

/-- A served entry that opens is demand: an IDLE station with nothing else waiting and units free is granted at once, a
LOCKED one stays LOCKED; the close of the last demand of a RELEASING station takes it to IDLE and returns its units. That the
request tick is kept through the grant is the model's reading of log row 17, and `minRunAt` is its own field of log row 1. -/
def Obligations.ServedEntryEvents : Prop :=
  ∀ (s : State) (x : StationId) (e : Served), s.resetLow = false → s.mode = .guarded → s.stations[x].served = [e] →
    s.stations[x].manual = none → s.stations[x].floodDemand = false → (∀ y : StationId, s.stations[y].waits = false) →
    (e.active = false → e.opens ≤ s.now → s.stations[x].state = .idle →
      min s.stations[x].draw s.limits.units ≤ s.freeUnits →
      exec (.servedEntryOpen x e.handle.slot) s = .next { s with
        stations := updAt s.stations x fun q =>
          { q with
            served := [{ e with active := true }], state := .releasing, requestTick := some s.now,
            releaseStart := some s.now, confirm := if q.pressure then .confirmed else .waiting s.now,
            cutStart := some s.now, minRunAt := some (s.now + s.limits.floodMin * 1000), purgeEnd := none },
        freeUnits := s.freeUnits - min s.stations[x].draw s.limits.units }) ∧
    (e.active = false → e.opens ≤ s.now → s.stations[x].state = .locked →
      exec (.servedEntryOpen x e.handle.slot) s = .next { s with
        stations := updAt s.stations x fun q => { q with served := [{ e with active := true }] } }) ∧
    (e.closes ≤ s.now → s.stations[x].state = .releasing → s.stations[x].debt = 0 →
      (∀ (i : SlotId) (k : Track), s.track? i = some k → ∀ r ∈ k.route, r.item = .station x → r.covering = false) →
      exec (.servedEntryClose x e.handle.slot) s = .next { s with
        stations := updAt s.stations x fun q =>
          { q with
            served := [], state := .idle, releaseStart := none, cutStart := none, confirm := .absent,
            minRunAt := none },
        freeUnits := s.freeUnits + min s.stations[x].draw s.limits.units })

/-- The arbiter's queue holds the waiting stations by class, key and number, each keyed as R108 says. It is granted head
after head as long as the units last; a head that does not fit suspends floods that have run their minimum where their
units make up for it, and keeps everything waiting where they do not or where it is itself of class FLOOD. A deadline that
passes and a minimum run that ends have the arbiter act; where nothing waits they change only `Served.noted` and
`Station.minRunAt`, the model's own fields of log row 1. That the request tick is kept through a grant is its reading of
log row 17. -/
def Obligations.ArbiterQueueOrdered : Prop :=
  (∀ (s : State) (x : StationId), x ∈ s.arbiterQueue ↔
    s.stations[x].state = .requesting ∨ s.stations[x].state = .suspended) ∧
  (∀ s : State, s.arbiterQueue.Pairwise fun x y =>
    let a := s.stations[x].key s.now
    let b := s.stations[y].key s.now
    a.1.rank < b.1.rank ∨ (a.1.rank = b.1.rank ∧ (a.2 < b.2 ∨ (a.2 = b.2 ∧ x.val < y.val)))) ∧
  (∀ (s : State) (x : StationId), s.arbiterQueue.head? = some x → (s.stations[x].key s.now).1 = .flood →
    s.freeUnits < min s.stations[x].draw s.limits.units → s.begin.arbitrate.st = s) ∧
  (∀ (s : State) (x : StationId) (e : Served), s.resetLow = false → (∀ y : StationId, s.stations[y].waits = false) →
    s.stations[x].served = [e] → e.noted = false → e.deadline < s.now →
    exec (.deadlinePassed x e.handle.slot) s = .next { s with
      stations := updAt s.stations x fun q => { q with served := [{ e with noted := true }] } }) ∧
  (∀ (s : State) (x : StationId) (start due : Tick), s.resetLow = false →
    (∀ y : StationId, s.stations[y].waits = false) → s.stations[x].state = .releasing →
    s.stations[x].floodDemand = true → s.stations[x].manual = none →
    (∀ e ∈ s.stations[x].served, e.active = false) → s.stations[x].releaseStart = some start →
    start + s.limits.floodMin * 1000 ≤ s.now → s.stations[x].minRunAt = some due → due ≤ s.now →
    exec (.floodMinimumRun x) s = .next { s with
      stations := updAt s.stations x fun q => { q with minRunAt := none } }) ∧
  -- the keys, and the floods that may be suspended (R108, R110)
  (∀ (q : Station) (now : Tick),
    let keyed : Prop := (∃ e ∈ q.served, e.active = true) ∨ q.manual ≠ none
    let counts (k : Tick) : Prop :=
      (∃ m, q.manual = some m ∧ k = m.orderTick) ∨ ∃ e ∈ q.served, k = e.deadline ∧ now ≤ e.deadline
    (∀ k, keyed → counts k → (∀ j, counts j → k ≤ j) → q.key now = (.deadline, k)) ∧
    (keyed → (∀ k, ¬counts k) → q.key now = (.overdue, q.requestTick.getD 0)) ∧
    (¬keyed → q.key now = (.flood, q.requestTick.getD 0))) ∧
  [KeyClass.deadline, .overdue, .flood].map KeyClass.rank = [0, 1, 2] ∧
  (∀ (s : State) (y : StationId), s.eligible y = true ↔
    s.stations[y].state = .releasing ∧ s.stations[y].floodDemand = true ∧ s.stations[y].manual = none ∧
      (∀ e ∈ s.stations[y].served, e.active = false) ∧
      ∃ t, s.stations[y].releaseStart = some t ∧ t + s.limits.floodMin * 1000 ≤ s.now) ∧
  -- a head that does not fit even with the units of the eligible floods (R109, R110)
  (∀ (s : State) (x : StationId), s.arbiterQueue.head? = some x →
    s.freeUnits + ((List.finRange 24).map fun y =>
        if s.eligible y then min s.stations[y].draw s.limits.units else 0).sum <
      min s.stations[x].draw s.limits.units →
    s.begin.arbitrate.st = s) ∧
  -- every waiting station fits (R109, R113, R115)
  (∀ (s : State) (x : StationId) (e : Served), s.resetLow = false → s.mode = .guarded →
    s.stations[x].served = [e] → e.noted = false → e.deadline < s.now →
    let taken : Nat := ((List.finRange 24).map fun y =>
      if s.stations[y].waits then min s.stations[y].draw s.limits.units else 0).sum
    taken ≤ s.freeUnits →
    exec (.deadlinePassed x e.handle.slot) s = .next { s with
      stations := Vector.ofFn fun y : StationId =>
        let q : Station := if y = x then { s.stations[y] with served := [{ e with noted := true }] } else s.stations[y]
        if q.waits then
          { q with state := .releasing, releaseStart := some s.now,
                   confirm := if q.pressure then .confirmed else .waiting s.now,
                   cutStart := if q.floodDemand then none else some s.now,
                   minRunAt := some (s.now + s.limits.floodMin * 1000) }
        else q,
      freeUnits := s.freeUnits - taken }) ∧
  -- one flood is suspended for the one station that waits (R110, R111)
  (∀ (s : State) (x y : StationId) (due : Tick), s.resetLow = false → s.mode = .guarded → s.arbiterQueue = [x] →
    (s.stations[x].key s.now).1 ≠ .flood → s.eligible y = true → s.stations[y].minRunAt = some due → due ≤ s.now →
    (∀ z : StationId, z ≠ y → s.eligible z = false) →
    s.freeUnits < min s.stations[x].draw s.limits.units →
    min s.stations[x].draw s.limits.units ≤ s.freeUnits + min s.stations[y].draw s.limits.units →
    (∀ (i : SlotId) (k : Track), s.track? i = some k → ∀ r ∈ k.route, r.item = .station y → r.covering = false) →
    exec (.floodMinimumRun y) s = .next { s with
      stations := updAt (updAt s.stations y fun q =>
          { q with state := .suspended, releaseStart := none, cutStart := none, confirm := .absent, minRunAt := none,
                   requestTick := some s.now }) x fun q =>
        { q with state := .releasing, releaseStart := some s.now,
                 confirm := if q.pressure then .confirmed else .waiting s.now,
                 cutStart := if q.floodDemand then none else some s.now,
                 minRunAt := some (s.now + s.limits.floodMin * 1000) },
      freeUnits := s.freeUnits + min s.stations[y].draw s.limits.units -
        min s.stations[x].draw s.limits.units })

/-- The pressure input confirms a release or loses it, and the confirm time runs out: FAULT with its reason and the
STATION notice; in other states only the level is seen. A due cut raises STATION and removes the order. That the request
tick is kept to the end of the release is the model's reading of log row 17, and `minRunAt` is its own field of log row 1. -/
def Obligations.StationFaultsAndCuts : Prop :=
  (∀ (s : State) (x : StationId) (shown : Bool), s.resetLow = false → s.stations[x].state ≠ .releasing →
    exec (.pressureConfirmInput x shown) s = .next { s with
      stations := updAt s.stations x fun q => { q with pressure := shown } }) ∧
  (∀ (s : State) (x : StationId) (since : Tick), s.resetLow = false → s.stations[x].state = .releasing →
    s.stations[x].confirm = .waiting since →
    exec (.pressureConfirmInput x true) s = .next { s with
      stations := updAt s.stations x fun q => { q with pressure := true, confirm := .confirmed } } ∧
    exec (.pressureConfirmInput x false) s = .next { s with
      stations := updAt s.stations x fun q => { q with pressure := false } } ∧
    (since + s.stations[x].confirmTime * 1000 ≤ s.now →
      ∃ u : State, exec (.confirmTimeout x) s = .next u ∧ u.stations[x].state = .fault ∧
        u.stations[x].faultReason = some .noConfirm ∧ u.stations[x].manual = none ∧ u.raised .station ∧
        s.Framed u ∧ u.nextSeq = s.nextSeq)) ∧
  (∀ (s : State) (x : StationId), s.resetLow = false → s.stations[x].state = .releasing →
    s.stations[x].confirm = .confirmed →
    exec (.pressureConfirmInput x true) s = .next { s with
      stations := updAt s.stations x fun q => { q with pressure := true } } ∧
    ∃ u : State, exec (.pressureConfirmInput x false) s = .next u ∧ u.stations[x].state = .fault ∧
      u.stations[x].faultReason = some .pressureLost ∧ u.stations[x].manual = none ∧ u.raised .station ∧
      u.nextSeq = s.nextSeq) ∧
  (∀ (s : State) (x : StationId) (t : Tick), s.resetLow = false → s.stations[x].state = .releasing →
    s.stations[x].cutStart = some t → t + s.stations[x].maxRelease * 10000 ≤ s.now →
    (∃ u : State, exec (.maxReleaseCut x) s = .next u ∧ u.stations[x].manual = none ∧ u.raised .station ∧
      s.Framed u ∧ u.nextSeq = s.nextSeq) ∧
    ((∀ i : SlotId, s.track? i = none) → (∀ y : StationId, s.stations[y].waits = false) →
      s.stations[x].floodDemand = false → s.stations[x].debt = 0 →
      exec (.maxReleaseCut x) s = .next { s with
        stations := updAt s.stations x fun q =>
          { q with
            served := [], manual := none, state := .idle, releaseStart := none, cutStart := none,
            confirm := .absent, minRunAt := none },
        freeUnits := s.freeUnits + min s.stations[x].draw s.limits.units,
        notices := { s.notices with flags := s.notices.flags ||| Notice.station.flag } }))

/-- MANUAL RELEASE is refused for a station not in use, LOCKED or in FAULT, and else sets the order with its clamped
duration; CANCEL RELEASE and the order's end remove it. That CANCEL RELEASE of a station not in use is NOT_IN_USE is the
model's reading of log row 35. -/
def Obligations.ManualOrders : Prop :=
  (∀ (s : State) (t : Half) (d : List Byte) (x : StationId), s.listens → s.mode = .guarded → d.length = 2 →
    t.toNat = x.val →
    (s.stations[x].inUse = false →
      exec (.manualRelease t d) s = .next (s.replyWith (.refused .notInUse)) ∧
      exec (.cancelRelease t []) s = .next (s.replyWith (.refused .notInUse))) ∧
    (s.stations[x].inUse = true →
      (s.stations[x].state = .locked → exec (.manualRelease t d) s = .next (s.replyWith (.refused .locked))) ∧
      (s.stations[x].state = .fault → exec (.manualRelease t d) s = .next (s.replyWith (.refused .faulted))) ∧
      (s.stations[x].state ≠ .locked → s.stations[x].state ≠ .fault →
        ∃ u : State, exec (.manualRelease t d) s =
            .next (u.replyWith (.loaded (clamp 1 600 (natAt2 d 0) != natAt2 d 0))) ∧
          u.stations[x].manual =
            some { orderTick := s.now, endTick := s.now + clamp 1 600 (natAt2 d 0) * 1000 } ∧
          (∀ y : StationId, y ≠ x → u.stations[y].manual = s.stations[y].manual) ∧ s.Framed u) ∧
      (s.stations[x].manual = none →
        exec (.cancelRelease t []) s = .next (s.replyWith (.refused .noOrder))) ∧
      (s.stations[x].manual ≠ none →
        ∃ u : State, exec (.cancelRelease t []) s = .next (u.replyWith (.ok [])) ∧ u.stations[x].manual = none ∧
          (∀ y : StationId, y ≠ x → u.stations[y].manual = s.stations[y].manual) ∧ s.Framed u))) ∧
  (∀ (s : State) (x : StationId) (m : ManualOrder), s.resetLow = false → s.stations[x].manual = some m →
    m.endTick ≤ s.now →
    ∃ u : State, exec (.manualOrderEnd x) s = .next u ∧ u.stations[x].manual = none ∧
      (∀ y : StationId, y ≠ x → u.stations[y].manual = s.stations[y].manual) ∧ s.Framed u)

/-- LOCK STATION, UNLOCK STATION and CLEAR STATION by the state of the station. -/
def Obligations.LockUnlockClear : Prop :=
  ∀ (s : State) (t : Half) (x : StationId), s.listens → s.mode = .guarded → t.toNat = x.val →
    (s.stations[x].state = .fault → exec (.lockStation t []) s = .next (s.replyWith (.refused .faulted))) ∧
    (s.stations[x].state = .locked → exec (.lockStation t []) s = .next (s.replyWith (.ok []))) ∧
    (s.stations[x].state ≠ .fault →
      ∃ u : State, exec (.lockStation t []) s = .next (u.replyWith (.ok [])) ∧ u.stations[x].state = .locked ∧
        s.Framed u ∧ (s.stations[x].state ≠ .locked → u.stations[x].manual = none)) ∧
    (s.stations[x].state ≠ .locked →
      exec (.unlockStation t []) s = .next (s.replyWith (.refused .notLocked))) ∧
    (s.stations[x].state = .locked →
      ∃ u : State, exec (.unlockStation t []) s = .next (u.replyWith (.ok [])) ∧ u.stations[x].state ≠ .locked ∧
        s.Framed u ∧
        (s.stations[x].demand = false → s.stations[x].debt = 0 → (∀ y : StationId, s.stations[y].waits = false) →
          u = { s with stations := updAt s.stations x fun q => { q with state := .idle } })) ∧
    (s.stations[x].inUse = false →
      exec (.clearStation t []) s = .next (s.replyWith (.refused .notInUse))) ∧
    (s.stations[x].inUse = true → s.stations[x].state ≠ .fault →
      exec (.clearStation t []) s = .next (s.replyWith (.refused .notFaulted))) ∧
    (s.stations[x].inUse = true → s.stations[x].state = .fault →
      ∃ u : State, exec (.clearStation t []) s = .next (u.replyWith (.ok [])) ∧ u.stations[x].state ≠ .fault ∧
        u.stations[x].faultReason = none ∧ s.Framed u)

/-- A purge that falls due raises the debt, to 4 at most, empties the accumulation, and raises STATION where the debt
reaches 4; a station IDLE without demand then runs it; its end lowers the debt. -/
def Obligations.Purges : Prop :=
  (∀ (s : State) (x : StationId), s.resetLow = false → s.mode = .guarded → s.stations[x].inUse = true →
    s.limits.purgeInterval * 10000 ≤ s.stations[x].accumulation →
    ∃ u : State, exec (.purgeDue x) s = .next u ∧ u.stations[x].debt = min 4 (s.stations[x].debt + 1) ∧
      u.stations[x].accumulation = 0 ∧ (s.stations[x].debt = 3 → u.raised .station) ∧ s.Framed u ∧
      (∀ y : StationId, y ≠ x → u.stations[y].debt = s.stations[y].debt ∧
        u.stations[y].accumulation = s.stations[y].accumulation) ∧
      (s.stations[x].state = .idle → s.stations[x].demand = false → s.stations[x].debt < 3 →
        (∀ y : StationId, s.stations[y].waits = false) →
        u = { s with stations := updAt s.stations x fun q =>
              { q with debt := q.debt + 1, accumulation := 0, state := .purging,
                       purgeEnd := some (s.now + q.purgeTime * 1000) } })) ∧
  (∀ (s : State) (x : StationId) (stop : Tick), s.resetLow = false → s.stations[x].state = .purging →
    s.stations[x].purgeEnd = some stop → stop ≤ s.now →
    ∃ u : State, exec (.purgeEnd x) s = .next u ∧ u.stations[x].debt = s.stations[x].debt - 1 ∧ s.Framed u ∧
      (∀ y : StationId, y ≠ x → u.stations[y].debt = s.stations[y].debt))

/-! ## Lines and gates -/

/-- RESTART LINE is judged in order and else queues the line: behind others it waits, at the head it starts where the budget
allows. -/
def Obligations.RestartLineJudged : Prop :=
  ∀ (s : State) (t : Half) (l : LineId), s.listens → s.mode = .guarded → t.toNat = l.val →
    let zonesQuiet : Prop := ∀ z : ZoneId, inSet s.lines[l].zones z.val = true → s.zones[z].level.val < 2
    let noTrack : Prop :=
      ∀ (i : SlotId) (k : Track), s.track? i = some k → k.state ≠ .spent → s.segments[k.current].line ≠ l
    let gatesNormal : Prop :=
      ∀ g : GateId, s.gates[g].inUse = true → s.segments[s.gates[g].owner].line = l → s.gates[g].state = .normal
    (s.lines[l].inUse = false → exec (.restartLine t []) s = .next (s.replyWith (.refused .notInUse))) ∧
    (s.lines[l].inUse = true →
      (s.lines[l].state ≠ .stopped → exec (.restartLine t []) s = .next (s.replyWith (.refused .notStopped))) ∧
      (s.lines[l].state = .stopped →
        (¬zonesQuiet → exec (.restartLine t []) s = .next (s.replyWith (.refused .zoneActive))) ∧
        (zonesQuiet → ¬noTrack → exec (.restartLine t []) s = .next (s.replyWith (.refused .trackActive))) ∧
        (zonesQuiet → noTrack → ¬gatesNormal →
          exec (.restartLine t []) s = .next (s.replyWith (.refused .gateNotNormal))) ∧
        (zonesQuiet → noTrack → gatesNormal →
          (s.startQueue ≠ [] → exec (.restartLine t []) s = .next ({ s with
            startQueue := s.startQueue ++ [l],
            lines := updAt s.lines l fun q => { q with state := .startWait },
            notices := { s.notices with flags := s.notices.flags ||| Notice.line.flag } }.replyWith (.ok []))) ∧
          (s.startQueue = [] → s.limits.budget ≤ s.recentStarts.length →
            exec (.restartLine t []) s = .next ({ s with
              startQueue := [l],
              lines := updAt s.lines l fun q => { q with state := .startWait },
              notices := { s.notices with flags := s.notices.flags ||| Notice.line.flag } }.replyWith (.ok []))) ∧
          (s.startQueue = [] → s.recentStarts.length < s.limits.budget → s.fansRunning l = false →
            exec (.restartLine t []) s = .next ({ s with
              startList := s.recentStarts ++ [s.now],
              lines := updAt s.lines l fun q =>
                { q with state := .starting, runUpEnd := some (s.now + q.runUp * 10000) },
              notices := { s.notices with flags := s.notices.flags ||| Notice.line.flag } }.replyWith (.ok []))))))

/-- STOP LINE and a run-up without feedback shut a line down, a run-down ends STOPPED; a line that waits leaves the queue;
a line that is down already stands as it is; the shutdown drives the line's abort-on-shutdown gates. That the run-up end
of a STARTING line becomes absent at its shutdown is the model's reading of log row 52. -/
def Obligations.LineShutdown : Prop :=
  (∀ (s : State) (t : Half) (l : LineId), s.listens → s.mode = .guarded → t.toNat = l.val →
    (s.lines[l].inUse = false → exec (.stopLine t []) s = .next (s.replyWith (.refused .notInUse))) ∧
    (s.lines[l].inUse = true →
      (s.lines[l].state = .stopped ∨ s.lines[l].state = .stopping →
        exec (.stopLine t []) s = .next (s.replyWith (.ok []))) ∧
      (s.lines[l].state = .running ∨ s.lines[l].state = .starting →
        (∀ g : GateId, s.gates[g].inUse = true → s.gates[g].onShutdown = true →
          s.segments[s.gates[g].owner].line ≠ l) →
        exec (.stopLine t []) s = .next ({ s with
          lines := updAt s.lines l fun q =>
            { q with
              cause := .link, runUpEnd := none,
              state := if q.runDown = 0 then .stopped else .stopping,
              runDownEnd := if q.runDown = 0 then none else some (s.now + q.runDown * 10000) },
          notices := { s.notices with flags := s.notices.flags ||| Notice.line.flag } }.replyWith (.ok []))) ∧
      (s.lines[l].state = .startWait → s.startQueue.Nodup →
        ∃ u : State, exec (.stopLine t []) s = .next (u.replyWith (.ok [])) ∧ u.lines[l].state = .stopped ∧
          l ∉ u.startQueue ∧ s.Framed u) ∧
      (∀ g : GateId, s.lines[l].state = .running ∨ s.lines[l].state = .starting → s.gates[g].inUse = true →
        s.gates[g].onShutdown = true → s.segments[s.gates[g].owner].line = l → s.gates[g].state = .normal →
        ∃ u : State, exec (.stopLine t []) s = .next (u.replyWith (.ok [])) ∧
          (u.gates[g].state = .toAbort ∨ u.gates[g].state = .abort) ∧ s.Framed u))) ∧
  (∀ (s : State) (l : LineId) (stop : Tick), s.resetLow = false → s.lines[l].inUse = true →
    s.lines[l].state = .starting → s.lines[l].runUpEnd = some stop → stop ≤ s.now →
    (∀ g : GateId, s.gates[g].inUse = true → s.gates[g].onShutdown = true →
      s.segments[s.gates[g].owner].line ≠ l) →
    exec (.runUpEnd l) s = .next { s with
      lines := updAt s.lines l fun q =>
        { q with
          cause := .fanFault, runUpEnd := none,
          state := if q.runDown = 0 then .stopped else .stopping,
          runDownEnd := if q.runDown = 0 then none else some (s.now + q.runDown * 10000) },
      notices := { s.notices with flags := s.notices.flags ||| Notice.line.flag } }) ∧
  (∀ (s : State) (l : LineId) (stop : Tick), s.resetLow = false → s.lines[l].state = .stopping →
    s.lines[l].runDownEnd = some stop → stop ≤ s.now →
    exec (.runDownEnd l) s = .next { s with
      lines := updAt s.lines l fun q => { q with state := .stopped, runDownEnd := none, runUpEnd := none },
      notices := { s.notices with flags := s.notices.flags ||| Notice.line.flag } })

/-- A start-list entry leaves at its 600,000th tick, and the line that waits starts where the budget allows, RUNNING at
once where its fans show feedback; the feedback of the last fan of a STARTING line makes it RUNNING, one fan of two does
not; the loss of a fan's feedback in RUNNING shuts the line down with cause FAN_FAULT; feedback at lines that do not read
it is only seen. That a shutdown leaves the run-up end absent is the model's reading of log row 52. -/
def Obligations.StartsAndFans : Prop :=
  (∀ (s : State) (t : Tick) (rest : List Tick), s.resetLow = false → s.startQueue = [] → s.startList = t :: rest →
    t + 600000 ≤ s.now → exec .startListExpiry s = .next { s with startList := rest }) ∧
  (∀ (s : State) (m : FanId) (running : Bool), s.resetLow = false →
    (∀ l : LineId, s.lines[l].state ≠ .starting ∧ s.lines[l].state ≠ .running) →
    exec (.fanFeedbackChange m running) s = .next { s with fanFeedback := updAt s.fanFeedback m fun _ => running }) ∧
  (∀ (s : State) (l : LineId) (m : FanId), s.resetLow = false → s.lines[l].inUse = true →
    s.lines[l].state = .starting → s.lines[l].firstFan = m → s.lines[l].secondFan = none → s.fanFeedback[m] = false →
    (∀ k : LineId, k ≠ l → s.lines[k].state ≠ .starting ∧ s.lines[k].state ≠ .running) →
    exec (.fanFeedbackChange m true) s = .next { s with
      fanFeedback := updAt s.fanFeedback m fun _ => true,
      lines := updAt s.lines l fun q => { q with state := .running, runUpEnd := none },
      notices := { s.notices with flags := s.notices.flags ||| Notice.line.flag } }) ∧
  -- a line waits at the head (R142, R143)
  (∀ (s : State) (t : Tick) (rest : List Tick) (l : LineId), s.resetLow = false → s.mode = .guarded →
    s.startQueue = [l] → s.lines[l].state = .startWait → s.startList = t :: rest → t + 600000 ≤ s.now →
    let recent : List Tick := rest.filter fun u => decide (s.now - u < 600000)
    let fansShow : Prop :=
      ∀ m : FanId, s.lines[l].firstFan = m ∨ s.lines[l].secondFan = some m → s.fanFeedback[m] = true
    let started (f : Line → Line) : State := { s with
      startQueue := [], startList := recent ++ [s.now], lines := updAt s.lines l f,
      notices := { s.notices with flags := s.notices.flags ||| Notice.line.flag } }
    (s.limits.budget ≤ recent.length → exec .startListExpiry s = .next { s with startList := rest }) ∧
    (recent.length < s.limits.budget → ¬fansShow → exec .startListExpiry s = .next (started fun q =>
      { q with state := .starting, runUpEnd := some (s.now + q.runUp * 10000) })) ∧
    (recent.length < s.limits.budget → fansShow → exec .startListExpiry s = .next (started fun q =>
      { q with state := .running, runUpEnd := none }))) ∧
  -- a line of two fans, and the loss of feedback (R134, R143)
  (∀ (s : State) (l : LineId) (m : FanId), s.resetLow = false → s.lines[l].inUse = true →
    (∀ k : LineId, k ≠ l → s.lines[k].state ≠ .starting ∧ s.lines[k].state ≠ .running) →
    (∀ o : FanId, o ≠ m → s.lines[l].state = .starting → s.fanFeedback[m] = false →
      (s.lines[l].firstFan = m ∧ s.lines[l].secondFan = some o) ∨
        (s.lines[l].firstFan = o ∧ s.lines[l].secondFan = some m) →
      (s.fanFeedback[o] = false →
        exec (.fanFeedbackChange m true) s = .next { s with fanFeedback := updAt s.fanFeedback m fun _ => true }) ∧
      (s.fanFeedback[o] = true →
        exec (.fanFeedbackChange m true) s = .next { s with
          fanFeedback := updAt s.fanFeedback m fun _ => true,
          lines := updAt s.lines l fun q => { q with state := .running, runUpEnd := none },
          notices := { s.notices with flags := s.notices.flags ||| Notice.line.flag } })) ∧
    (s.lines[l].state = .running → s.fanFeedback[m] = true →
      s.lines[l].firstFan = m ∨ s.lines[l].secondFan = some m →
      (∀ g : GateId, s.gates[g].inUse = true → s.gates[g].onShutdown = true →
        s.segments[s.gates[g].owner].line ≠ l) →
      exec (.fanFeedbackChange m false) s = .next { s with
        fanFeedback := updAt s.fanFeedback m fun _ => false,
        lines := updAt s.lines l fun q =>
          { q with
            cause := .fanFault, runUpEnd := none,
            state := if q.runDown = 0 then .stopped else .stopping,
            runDownEnd := if q.runDown = 0 then none else some (s.now + q.runDown * 10000) },
        notices := { s.notices with flags := s.notices.flags ||| Notice.line.flag } }))

/-- The limits of a gate confirm its travel, in ABORT or in NORMAL, or lose its position, and its travel timer runs out;
the limits of a gate not in use or in FAULT are only seen. A SPENT track whose route forks at the gate is settled too, and
its current segment advances. That both levels of one event are judged together is the model's choice of log row 51, and
that a SPENT track enters no stall there its reading of log row 47. -/
def Obligations.GateLimitsAndTimeout : Prop :=
  (∀ (s : State) (g : GateId) (n a : Bool), s.resetLow = false →
    let seen : State := { s with gates := updAt s.gates g fun q => { q with normalLimit := n, abortLimit := a } }
    (s.gates[g].inUse = false ∨ s.gates[g].state = .fault →
      exec (.gateLimitChange g n a) s = .next seen) ∧
    (s.gates[g].inUse = true → s.gates[g].state = .toAbort → n = false → a = true →
      (s.gates[g].normalLimit ≠ n ∨ s.gates[g].abortLimit ≠ a) →
      ∃ u : State, exec (.gateLimitChange g n a) s = .next u ∧ u.gates[g].state = .abort ∧ u.raised .gate ∧
        seen.Framed u ∧ u.nextSeq = s.nextSeq) ∧
    (s.gates[g].inUse = true → s.gates[g].state = .toNormal → n = true → a = false →
      (s.gates[g].normalLimit ≠ n ∨ s.gates[g].abortLimit ≠ a) →
      (∀ (i : SlotId) (k : Track), s.track? i = some k → ∀ r ∈ k.route, ∀ c ∈ r.conds, c.gate ≠ g) →
      exec (.gateLimitChange g n a) s = .next { s with
        gates := updAt s.gates g fun q =>
          { q with normalLimit := true, abortLimit := false, state := .normal, timer := none,
                   stateChanged := some s.now },
        notices := { s.notices with flags := s.notices.flags ||| Notice.gate.flag } }) ∧
    -- a SPENT track that forks at the gate (R51, R84, R95)
    (∀ (i : SlotId) (k : Track), s.gates[g].inUse = true → s.gates[g].state = .toNormal → n = true → a = false →
      (s.gates[g].normalLimit ≠ n ∨ s.gates[g].abortLimit ≠ a) →
      s.track? i = some k → k.state = .spent → k.member = none → (∃ r ∈ k.route, ∃ c ∈ r.conds, c.gate = g) →
      (∀ j : SlotId, j ≠ i → s.track? j = none) →
      (∀ x : StationId, ∀ e ∈ s.stations[x].served, e.handle ≠ s.handleOf i) →
      let settled : List RouteItem :=
        (k.route.filter fun r => r.conds.all fun c => c.gate != g || c.side == .normal).map fun r =>
          { r with conds := r.conds.filter fun c => c.gate != g }
      exec (.gateLimitChange g n a) s = .next { s with
        gates := updAt s.gates g fun q =>
          { q with normalLimit := true, abortLimit := false, state := .normal, timer := none,
                   stateChanged := some s.now },
        notices := { s.notices with flags := s.notices.flags ||| Notice.gate.flag },
        slots := updAt s.slots i fun q => { q with track := some { k with
          route := settled, current := (currentOf settled k.base s.now).getD k.current } } }) ∧
    (s.gates[g].inUse = true → s.mode = .guarded →
      (s.gates[g].state = .normal ∧ s.gates[g].normalLimit = true ∧ n = false) ∨
      (s.gates[g].state = .abort ∧ s.gates[g].abortLimit = true ∧ a = false) →
      ∃ u : State, exec (.gateLimitChange g n a) s = .next u ∧ u.gates[g].state = .fault ∧
        u.gates[g].faultReason = some .limitLost ∧ u.raised .gate ∧ seen.Framed u ∧ u.nextSeq = s.nextSeq)) ∧
  (∀ (s : State) (g : GateId) (due : Tick), s.resetLow = false → s.mode = .guarded → s.gates[g].inUse = true →
    (s.gates[g].state = .toAbort ∨ s.gates[g].state = .toNormal) → s.gates[g].timer = some due → due ≤ s.now →
    ∃ u : State, exec (.gateTravelTimeout g) s = .next u ∧ u.gates[g].state = .fault ∧
      u.gates[g].faultReason = some .timeout ∧ u.raised .gate ∧ s.Framed u ∧ u.nextSeq = s.nextSeq)

/-- GATE NORMAL and CLEAR GATE, judged in order; taken, the one drives the gate to NORMAL, the other clears the fault and
drives it to ABORT. -/
def Obligations.GateCommands : Prop :=
  ∀ (s : State) (t : Half) (g : GateId), s.listens → s.mode = .guarded → t.toNat = g.val →
    let line := s.segments[s.gates[g].owner].line
    let burning : Prop := ∃ z : ZoneId, inSet s.lines[line].zones z.val = true ∧ s.zones[z].level = .fire
    let crossed : Prop := ∃ (i : SlotId) (k : Track), s.track? i = some k ∧ crosses g k.route = true
    (s.gates[g].inUse = false →
      exec (.gateNormal t []) s = .next (s.replyWith (.refused .notInUse)) ∧
      exec (.clearGate t []) s = .next (s.replyWith (.refused .notInUse))) ∧
    (s.gates[g].inUse = true →
      (s.gates[g].state ≠ .abort → exec (.gateNormal t []) s = .next (s.replyWith (.refused .notAbort))) ∧
      (s.gates[g].state = .abort → burning → exec (.gateNormal t []) s = .next (s.replyWith (.refused .zoneFire))) ∧
      (s.gates[g].state = .abort → ¬burning → crossed →
        exec (.gateNormal t []) s = .next (s.replyWith (.refused .trackOnGate))) ∧
      (s.gates[g].state = .abort → ¬burning → ¬crossed →
        ¬(s.gates[g].normalLimit = true ∧ s.gates[g].abortLimit = false) →
        exec (.gateNormal t []) s = .next ({ s with
          gates := updAt s.gates g fun q =>
            { q with state := .toNormal, stateChanged := some s.now,
                     timer := some (s.now + 2 * q.stroke * 1000) } }.replyWith (.ok []))) ∧
      (s.gates[g].state ≠ .fault → exec (.clearGate t []) s = .next (s.replyWith (.refused .notFaulted))) ∧
      (s.gates[g].state = .fault →
        ∃ u : State, exec (.clearGate t []) s = .next (u.replyWith (.ok [])) ∧ u.gates[g].faultReason = none ∧
          (u.gates[g].state = .toAbort ∨ u.gates[g].state = .abort) ∧ s.Framed u))

/-! ## Zones, shutters and sirens -/

/-- ACK ZONE removes the instant causes and lowers the latched level to that of the standing causes; CALL ZONE enters
LINK_CALL, and each answers the level, the latched level and what else R152 and R154 name as they stand after it. A change
of level reaches the lines, the flood stations, the shutters and the sirens of the zone: FIRE stops its lines with cause
FIRE, gives its flood stations flood demand and drops its shutters, ALARM closes the shutters whose close level it
reaches. A call point's input is seen, and its filter follows after 500 ticks. That the request tick of a flood station is
kept through its grant is the model's reading of log row 17, and `minRunAt` is its own field of log row 1. -/
def Obligations.ZoneCommandsAndCallPoints : Prop :=
  -- the levels that the causes give (R148, R150, R152)
  (∀ q : Zone, q.computed = if q.live ≠ 0 ∧ q.latched = .normal then .watch else q.latched) ∧
  (∀ (s : State) (z : ZoneId), s.standingLevel z =
    if (∃ i : TempId, s.temps[i].inUse = true ∧ s.temps[i].zone = z ∧ s.temps[i].fire = true) ∨
        s.zones[z].callActive = true then .fire
    else if (∃ i : TempId, s.temps[i].inUse = true ∧ s.temps[i].zone = z ∧ s.temps[i].alarm = true) ∨
        s.zones[z].escaped ≠ 0 then .alarm
    else .normal) ∧
  -- ACK ZONE
  (∀ (s : State) (t : Half) (z : ZoneId), s.listens → s.mode = .guarded → t.toNat = z.val →
    let answered (u : State) : State := u.replyWith (.ok
      (u8 u.zones[z].level.val ++ u8 u.zones[z].latched.val ++ u.causesField z))
    let acked (q : Zone) : Zone :=
      { q with burst := false, tableFull := false, linkCall := none, latched := s.standingLevel z,
               acknowledged := true }
    let new : Level := (acked s.zones[z]).computed
    (∃ u : State, exec (.ackZone t []) s = .next (answered u) ∧
      u.zones[z].burst = false ∧ u.zones[z].tableFull = false ∧ u.zones[z].linkCall = none ∧
      (s.standingLevel z).val ≤ u.zones[z].latched.val ∧ s.Framed u ∧ u.nextSeq = s.nextSeq) ∧
    (s.zones[z].level = new →
      exec (.ackZone t []) s = .next (answered { s with zones := updAt s.zones z acked })) ∧
    (s.zones[z].level ≠ new → new ≠ .fire →
      (s.zones[z].level = .fire → ∀ x : StationId, s.stations[x].inUse = true → s.stations[x].flood = true →
        s.zoneOfPlaced (.station x) ≠ some z) →
      let leveled : State := { s with
        zones := updAt s.zones z fun q => { acked q with level := new, levelChanged := some s.now },
        notices := { s.notices with flags := s.notices.flags ||| Notice.zone.flag } }
      let burning (h : ShutterId) : Prop := leveled.zones[s.shutters[h].sideA].level = .fire ∨
        ∃ y, s.shutters[h].sideB = some y ∧ leveled.zones[y].level = .fire
      let high (h : ShutterId) : Prop :=
        s.shutters[h].closeLevel.val ≤ leveled.zones[s.shutters[h].sideA].level.val ∨
          ∃ y, s.shutters[h].sideB = some y ∧ s.shutters[h].closeLevel.val ≤ leveled.zones[y].level.val
      (∀ h : ShutterId, s.shutters[h].sideA = z ∨ s.shutters[h].sideB = some z →
        s.shutters[h].state = .closed ∨ s.shutters[h].state = .dropping ∨ s.shutters[h].state = .fault ∨
        (¬burning h ∧ (s.shutters[h].state = .closing ∨ s.shutters[h].state = .paused ∨
          (s.shutters[h].granted = true ∧ ¬high h)))) →
      exec (.ackZone t []) s = .next (answered { leveled with
        sirens := Vector.ofFn fun y : SirenId =>
          if inSet s.sirens[y].zones z.val then
            s.sirens[y].changeClass (leveled.classOf y) (s.derateOf y) s.now
          else s.sirens[y] }))) ∧
  -- CALL ZONE
  (∀ (s : State) (t : Half) (v : Byte) (z : ZoneId), s.listens → s.mode = .guarded → t.toNat = z.val →
    let answered (u : State) : State := u.replyWith (.ok (u8 u.zones[z].level.val ++ u8 u.zones[z].latched.val))
    (v.toNat ≠ 2 ∧ v.toNat ≠ 3 → exec (.callZone t [v]) s = .next (s.replyWith (.refused .badField))) ∧
    (∀ level : Level, level.val = v.toNat → 2 ≤ v.toNat →
      ∃ u : State, exec (.callZone t [v]) s = .next (answered u) ∧
        (∃ c, u.zones[z].linkCall = some c ∧
          c.val = max ((s.zones[z].linkCall.map Level.val).getD 0) level.val) ∧
        level.val ≤ u.zones[z].latched.val ∧ s.zones[z].latched.val ≤ u.zones[z].latched.val ∧
        u.zones[z].acknowledged = false ∧ s.Framed u ∧ u.nextSeq = s.nextSeq ∧
        (level = .fire → s.zones[z].level ≠ .fire → s.linesOrdered →
          u.zones[z].level = .fire ∧ u.zones[z].levelChanged = some s.now ∧ u.raised .zone ∧
          (∀ l : LineId, s.lines[l].inUse = true → inSet s.lines[l].zones z.val = true →
            u.lines[l].state = .stopped ∧ u.lines[l].cause = .fire) ∧
          (∀ h : ShutterId, s.shutters[h].sideA = z ∨ s.shutters[h].sideB = some z →
            u.shutters[h] =
              if s.shutters[h].state = .closed ∨ s.shutters[h].state = .dropping ∨ s.shutters[h].state = .fault then
                s.shutters[h]
              else { s.shutters[h] with
                state := .dropping, travel := .running (s.now + s.shutters[h].timeout * 10000), pauseStart := none,
                rearmEnd := none, stateChanged := some s.now }))) ∧
    -- FIRE in a zone whose one flood station stands IDLE and can be granted
    (∀ x : StationId, v = 3 → s.zones[z].level ≠ .fire →
      (∀ l : LineId, inSet s.lines[l].zones z.val = false) →
      (∀ h : ShutterId, s.shutters[h].sideA ≠ z ∧ s.shutters[h].sideB ≠ some z) →
      (∀ y : StationId, s.stations[y].waits = false) →
      (∀ y : StationId, y ≠ x → s.stations[y].inUse = true → s.stations[y].flood = true →
        s.zoneOfPlaced (.station y) ≠ some z) →
      s.stations[x].inUse = true → s.stations[x].flood = true → s.zoneOfPlaced (.station x) = some z →
      s.stations[x].state = .idle → min s.stations[x].draw s.limits.units ≤ s.freeUnits →
      let leveled : State := { s with
        zones := updAt s.zones z fun q =>
          { q with linkCall := some .fire, latched := .fire, acknowledged := false, level := .fire,
                   levelChanged := some s.now },
        notices := { s.notices with flags := s.notices.flags ||| Notice.zone.flag } }
      exec (.callZone t [v]) s = .next (answered { leveled with
        stations := updAt s.stations x fun q =>
          { q with floodDemand := true, state := .releasing, requestTick := some s.now, purgeEnd := none,
                   releaseStart := some s.now, confirm := if q.pressure then .confirmed else .waiting s.now,
                   cutStart := none, minRunAt := some (s.now + s.limits.floodMin * 1000) },
        freeUnits := s.freeUnits - min s.stations[x].draw s.limits.units,
        sirens := Vector.ofFn fun y : SirenId =>
          if inSet s.sirens[y].zones z.val then
            s.sirens[y].changeClass (leveled.classOf y) (s.derateOf y) s.now
          else s.sirens[y] })) ∧
    -- ALARM in a zone below ALARM
    (v = 2 → s.zones[z].level.val < 2 → s.zones[z].latched.val ≤ 2 →
      (∀ h : ShutterId, s.shutters[h].sideA = z ∨ s.shutters[h].sideB = some z →
        s.shutters[h].granted = true ∧ s.shutters[h].obstructed = false ∧
        s.zones[s.shutters[h].sideA].level ≠ .fire ∧
        ∀ y, s.shutters[h].sideB = some y → s.zones[y].level ≠ .fire) →
      (∀ h : ShutterId, s.shutters[h].sideA = z ∨ s.shutters[h].sideB = some z → s.shutters[h].closeLevel = .fire ∨
        s.shutters[h].closeLevel = .alarm) →
      let leveled : State := { s with
        zones := updAt s.zones z fun q =>
          { q with linkCall := some (if q.linkCall = some .fire then .fire else .alarm), latched := .alarm,
                   acknowledged := false, level := .alarm, levelChanged := some s.now },
        notices := { s.notices with flags := s.notices.flags ||| Notice.zone.flag } }
      exec (.callZone t [v]) s = .next (answered { leveled with
        shutters := Vector.ofFn fun h : ShutterId =>
          let q := s.shutters[h]
          if (q.sideA = z ∨ q.sideB = some z) ∧ q.closeLevel = .alarm ∧ (q.state = .opened ∨ q.state = .opening) then
            { q with state := .closing, travel := .running (s.now + q.timeout * 10000), stateChanged := some s.now }
          else q,
        sirens := Vector.ofFn fun y : SirenId =>
          if inSet s.sirens[y].zones z.val then
            s.sirens[y].changeClass (leveled.classOf y) (s.derateOf y) s.now
          else s.sirens[y] }))) ∧
  -- flood demand follows the changes to FIRE and from it (R104, R156)
  (∀ (w : Work) (z : ZoneId) (old new : Level),
    (w.stationsSee z old new).st = { w.st with
      stations := Vector.ofFn fun x : StationId =>
        if (old = .fire ∨ new = .fire) ∧ w.st.stations[x].inUse = true ∧ w.st.stations[x].flood = true ∧
            w.st.zoneOfPlaced (.station x) = some z then
          { w.st.stations[x] with floodDemand := decide (new = .fire) }
        else w.st.stations[x] }) ∧
  -- the call points (R153)
  (∀ (s : State) (z : ZoneId) (active : Bool),
    exec (.callPointInput z active) s = .next (if s.zones[z].callRaw = active then s else { s with
      zones := updAt s.zones z fun q => { q with callRaw := active, callChanged := s.now } })) ∧
  (∀ (s : State) (z : ZoneId), s.resetLow = false → s.mode = .guarded →
    max s.zones[z].callChanged (s.guardEntry.getD 0) + 500 ≤ s.now →
    (s.zones[z].callRaw = false → s.zones[z].callActive = true →
      exec (.callPointFilter z) s = .next { s with
        zones := updAt s.zones z fun q => { q with callActive := false } }) ∧
    (s.zones[z].callRaw = true → s.zones[z].callActive = false →
      ∃ u : State, exec (.callPointFilter z) s = .next u ∧ u.zones[z].callActive = true ∧
        u.zones[z].latched = .fire ∧ u.zones[z].level = .fire ∧ u.zones[z].acknowledged = false ∧ s.Framed u ∧
        u.nextSeq = s.nextSeq))

/-- The permit commands set permits and answer the permit and the state they leave; a grant moves no shutter, and a revoke
closes an OPEN or OPENING shutter, or with its obstruction input active pauses it at once, or drops it at the third
obstruction, with the SHUTTER notice. GRANT ALL and REVOKE ALL do the same to all twelve. CLEAR SHUTTER takes a faulted shutter
to CLOSED or DROPPING by its closed limit. -/
def Obligations.ShutterPermitsAndClear : Prop :=
  (∀ (s : State) (t : Half) (h : ShutterId), s.listens → s.mode = .guarded → t.toNat = h.val →
    exec (.grantHold t []) s = .next ({ s with
      shutters := updAt s.shutters h fun q => { q with granted := true } }.replyWith
        (.ok (u8 0 ++ u8 s.shutters[h].state.code))) ∧
    (s.shutters[h].state ≠ .opened → s.shutters[h].state ≠ .opening →
      exec (.revokeHold t []) s = .next ({ s with
        shutters := updAt s.shutters h fun q => { q with granted := false } }.replyWith
          (.ok (u8 1 ++ u8 s.shutters[h].state.code)))) ∧
    (s.shutters[h].state = .opened ∨ s.shutters[h].state = .opening → s.shutters[h].obstructed = true →
      s.shutters[h].obstructions < 2 →
      exec (.revokeHold t []) s = .next ({ s with
        shutters := updAt s.shutters h fun q =>
          { q with granted := false, state := .paused, obstructions := q.obstructions + 1,
                   travel := .frozen (q.timeout * 10000), pauseStart := some s.now, rearmEnd := none,
                   stateChanged := some s.now } }.replyWith (.ok (u8 1 ++ u8 4)))) ∧
    (s.shutters[h].state = .opened ∨ s.shutters[h].state = .opening → s.shutters[h].obstructed = true →
      2 ≤ s.shutters[h].obstructions →
      exec (.revokeHold t []) s = .next ({ s with
        shutters := updAt s.shutters h fun q =>
          { q with granted := false, state := .dropping, obstructions := q.obstructions + 1,
                   travel := .running (s.now + q.timeout * 10000), pauseStart := none, rearmEnd := none,
                   stateChanged := some s.now },
        notices := { s.notices with flags := s.notices.flags ||| Notice.shutter.flag } }.replyWith
          (.ok (u8 1 ++ u8 5)))) ∧
    (s.shutters[h].state = .opened ∨ s.shutters[h].state = .opening → s.shutters[h].obstructed = false →
      exec (.revokeHold t []) s = .next ({ s with
        shutters := updAt s.shutters h fun q =>
          { q with granted := false, state := .closing, travel := .running (s.now + q.timeout * 10000),
                   stateChanged := some s.now } }.replyWith (.ok (u8 1 ++ u8 3)))) ∧
    (s.shutters[h].state ≠ .fault → exec (.clearShutter t []) s = .next (s.replyWith (.refused .notFaulted))) ∧
    (s.shutters[h].state = .fault →
      ∃ u : State, exec (.clearShutter t []) s = .next (u.replyWith (.ok [])) ∧
        u.shutters = updAt s.shutters h (fun q =>
          if q.closedLimit then
            { q with faultReason := none, state := .closed, travel := .absent, pauseStart := none, rearmEnd := none,
                     obstructions := 0, stateChanged := some s.now }
          else
            { q with faultReason := none, state := .dropping, travel := .running (s.now + q.timeout * 10000),
                     pauseStart := none, rearmEnd := none, stateChanged := some s.now }) ∧
        u.raised .shutter ∧ u.sirens = s.sirens ∧ u.lines = s.lines ∧ u.stations = s.stations)) ∧
  [ShutterState.closed, .opening, .opened, .closing, .paused, .dropping, .fault].map ShutterState.code =
    [0, 1, 2, 3, 4, 5, 6] ∧
  (∀ s : State, s.listens → s.mode = .guarded →
    let up (q : Shutter) : Prop := q.state = .opened ∨ q.state = .opening
    exec (.grantAll 0 []) s = .next ({ s with
      shutters := s.shutters.map (fun q : Shutter => { q with granted := true }) }.replyWith (.ok [])) ∧
    ∃ u : State, exec (.revokeAll 0 []) s = .next (u.replyWith (.ok [])) ∧
      u = { s with shutters := u.shutters, notices := { s.notices with flags := u.notices.flags } } ∧
      (∀ h : ShutterId,
        let q := s.shutters[h]
        (¬up q → u.shutters[h] = { q with granted := false }) ∧
        (up q → q.obstructed = false → u.shutters[h] =
          { q with granted := false, state := .closing, travel := .running (s.now + q.timeout * 10000),
                   stateChanged := some s.now }) ∧
        (up q → q.obstructed = true → q.obstructions < 2 → u.shutters[h] =
          { q with granted := false, state := .paused, obstructions := q.obstructions + 1,
                   travel := .frozen (q.timeout * 10000), pauseStart := some s.now, rearmEnd := none,
                   stateChanged := some s.now }) ∧
        (up q → q.obstructed = true → 2 ≤ q.obstructions → u.shutters[h] =
          { q with granted := false, state := .dropping, obstructions := q.obstructions + 1,
                   travel := .running (s.now + q.timeout * 10000), pauseStart := none, rearmEnd := none,
                   stateChanged := some s.now })) ∧
      ((∃ h : ShutterId, up s.shutters[h] ∧ s.shutters[h].obstructed = true ∧ 2 ≤ s.shutters[h].obstructions) →
        u.notices.flags = s.notices.flags ||| Notice.shutter.flag) ∧
      ((∀ h : ShutterId, up s.shutters[h] → s.shutters[h].obstructed = true → s.shutters[h].obstructions < 2) →
        u.notices.flags = s.notices.flags))

/-- OPEN SHUTTER, judged for mode, target, state, permit and sides in that order; taken, the shutter enters OPENING with a
fresh timer and no obstructions, or OPEN at once where the open limit is active. That a target whose high byte is not 0 is
NO_SUCH is the model's reading of log row 50. -/
def Obligations.OpenShutterJudged : Prop :=
  (∀ (s : State) (t : Half), s.listens →
    (s.mode = .config → exec (.openShutter t []) s = .next (s.replyWith (.bare .wrongMode))) ∧
    (s.mode = .committing → exec (.openShutter t []) s = .next (s.replyWith (.bare .busy))) ∧
    (s.mode = .guarded → 12 ≤ t.toNat → exec (.openShutter t []) s = .next (s.replyWith (.bare .noSuch)))) ∧
  (∀ (s : State) (t : Half) (h : ShutterId), s.listens → s.mode = .guarded → t.toNat = h.val →
    let high : Prop := s.shutters[h].closeLevel.val ≤ s.zones[s.shutters[h].sideA].level.val ∨
      ∃ z, s.shutters[h].sideB = some z ∧ s.shutters[h].closeLevel.val ≤ s.zones[z].level.val
    (s.shutters[h].state ≠ .closed → exec (.openShutter t []) s = .next (s.replyWith (.refused .notClosed))) ∧
    (s.shutters[h].state = .closed → s.shutters[h].granted = false →
      exec (.openShutter t []) s = .next (s.replyWith (.refused .noPermit))) ∧
    (s.shutters[h].state = .closed → s.shutters[h].granted = true → high →
      exec (.openShutter t []) s = .next (s.replyWith (.refused .zoneActive))) ∧
    (s.shutters[h].state = .closed → s.shutters[h].granted = true → ¬high →
      (s.shutters[h].openLimit = false → exec (.openShutter t []) s = .next ({ s with
        shutters := updAt s.shutters h fun q =>
          { q with state := .opening, travel := .running (s.now + q.timeout * 10000), obstructions := 0,
                   stateChanged := some s.now } }.replyWith (.ok []))) ∧
      (s.shutters[h].openLimit = true → exec (.openShutter t []) s = .next ({ s with
        shutters := updAt s.shutters h fun q =>
          { q with state := .opened, travel := .absent, obstructions := 0, stateChanged := some s.now },
        notices := { s.notices with flags := s.notices.flags ||| Notice.shutter.flag } }.replyWith (.ok [])))))

/-- The limit inputs act by the state of the shutter, as the table of R164 says; where it shows a dash, only the level is
seen. -/
def Obligations.ShutterLimits : Prop :=
  ∀ (s : State) (h : ShutterId), s.resetLow = false →
    let q := s.shutters[h]
    let announced (q' : Shutter) : State := { s with
      shutters := updAt s.shutters h fun _ => q',
      notices := { s.notices with flags := s.notices.flags ||| Notice.shutter.flag } }
    let seen (q' : Shutter) : State := { s with shutters := updAt s.shutters h fun _ => q' }
    let dropping (q' : Shutter) : Shutter :=
      { q' with state := .dropping, travel := .running (s.now + q'.timeout * 10000), pauseStart := none,
                rearmEnd := none, stateChanged := some s.now }
    (q.closedLimit = false →
      (q.state = .closing ∨ q.state = .paused ∨ q.state = .dropping →
        exec (.shutterLimitChange h q.openLimit true) s = .next (announced
          { q with closedLimit := true, state := .closed, travel := .absent, pauseStart := none, rearmEnd := none,
                   obstructions := 0, stateChanged := some s.now })) ∧
      (¬(q.state = .closing ∨ q.state = .paused ∨ q.state = .dropping) →
        exec (.shutterLimitChange h q.openLimit true) s = .next (seen { q with closedLimit := true }))) ∧
    (q.closedLimit = true →
      (q.state = .closed →
        exec (.shutterLimitChange h q.openLimit false) s =
          .next (announced (dropping { q with closedLimit := false }))) ∧
      (q.state ≠ .closed →
        exec (.shutterLimitChange h q.openLimit false) s = .next (seen { q with closedLimit := false }))) ∧
    (q.openLimit = false →
      (q.state = .opening →
        exec (.shutterLimitChange h true q.closedLimit) s = .next (announced
          { q with openLimit := true, state := .opened, travel := .absent, stateChanged := some s.now })) ∧
      (q.state ≠ .opening →
        exec (.shutterLimitChange h true q.closedLimit) s = .next (seen { q with openLimit := true }))) ∧
    (q.openLimit = true →
      (q.state = .opened →
        exec (.shutterLimitChange h false q.closedLimit) s =
          .next (announced (dropping { q with openLimit := false }))) ∧
      (q.state ≠ .opened →
        exec (.shutterLimitChange h false q.closedLimit) s = .next (seen { q with openLimit := false })))

/-- The travel timer, the obstruction input, the re-arm end and the pause limit of a shutter. -/
def Obligations.ShutterTimers : Prop :=
  ∀ (s : State) (h : ShutterId), s.resetLow = false →
    let q := s.shutters[h]
    let announced (q' : Shutter) : State := { s with
      shutters := updAt s.shutters h fun _ => q',
      notices := { s.notices with flags := s.notices.flags ||| Notice.shutter.flag } }
    let seen (q' : Shutter) : State := { s with shutters := updAt s.shutters h fun _ => q' }
    let dropping (q' : Shutter) : Shutter :=
      { q' with state := .dropping, travel := .running (s.now + q'.timeout * 10000), pauseStart := none,
                rearmEnd := none, stateChanged := some s.now }
    (∀ due : Tick, q.travel = .running due → due ≤ s.now →
      (q.state = .closing → exec (.shutterTravelTimeout h) s = .next (announced (dropping q))) ∧
      (q.state = .dropping ∨ q.state = .opening →
        ∃ u : State, exec (.shutterTravelTimeout h) s = .next u ∧
          u.shutters = updAt s.shutters h (fun q =>
            { q with
              state := .fault, travel := .absent, pauseStart := none, rearmEnd := none, stateChanged := some s.now,
              faultReason := some (if q.state = .dropping then .dropTimeout else .openTimeout) }) ∧
          u.raised .shutter)) ∧
    (q.obstructed = false → q.state = .closing →
      (q.obstructions < 2 → exec (.shutterObstruction h true) s = .next (seen
        { q with obstructed := true, obstructions := q.obstructions + 1, state := .paused,
                 travel := .frozen (q.travel.left s.now), pauseStart := some s.now, rearmEnd := none,
                 stateChanged := some s.now })) ∧
      (q.obstructions = 2 → exec (.shutterObstruction h true) s =
        .next (announced (dropping { q with obstructed := true, obstructions := 3 })))) ∧
    (q.state = .paused →
      (q.obstructed = true → exec (.shutterObstruction h false) s = .next (seen
        { q with obstructed := false, rearmEnd := some (s.now + 20000) })) ∧
      (q.obstructed = false → exec (.shutterObstruction h true) s = .next (seen
        { q with obstructed := true, rearmEnd := none })) ∧
      (∀ due : Tick, q.rearmEnd = some due → due ≤ s.now →
        (q.travel.left s.now ≠ 0 → exec (.rearmEnd h) s = .next (seen
          { q with state := .closing, travel := .running (s.now + q.travel.left s.now), pauseStart := none,
                   rearmEnd := none, stateChanged := some s.now })) ∧
        (q.travel.left s.now = 0 → exec (.rearmEnd h) s = .next (announced (dropping q)))) ∧
      (∀ t : Tick, q.pauseStart = some t → t + 300000 ≤ s.now →
        exec (.pauseLimit h) s = .next (announced (dropping q)))) ∧
    (q.state ≠ .closing → q.state ≠ .paused →
      ∀ active : Bool, exec (.shutterObstruction h active) s = .next (seen { q with obstructed := active }))

/-- A siren follows the highest level of its zones: a rise sounds at once, a fall waits for the end of the group that sounds,
and a silenced siren sounds again only above the level it was silenced at or after NORMAL. Its phases end: BLAST goes to GAP
or completes its group, GAP and PAUSE go to BLAST; a completed group is counted, and the run is over, pauses, or takes up the
pending class. -/
def Obligations.SirenPhases : Prop :=
  -- what a class sounds, and the class of a siren (R175, R176)
  (∀ (q : Siren) (c : Level) (p : Pattern), q.sounds c = some p ↔
    p.empty = false ∧ ((c = .watch ∧ p = q.watch) ∨ (c = .alarm ∧ p = q.alarm) ∨ (c = .fire ∧ p = q.fire))) ∧
  (∀ (s : State) (y : SirenId),
    (∀ z : ZoneId, inSet s.sirens[y].zones z.val = true → s.zones[z].level.val ≤ (s.classOf y).val) ∧
    (s.classOf y = .normal ∨
      ∃ z : ZoneId, inSet s.sirens[y].zones z.val = true ∧ s.zones[z].level = s.classOf y)) ∧
  (∀ (s : State) (z : ZoneId), s.sirensSee z = { s with
    sirens := Vector.ofFn fun y : SirenId =>
      if inSet s.sirens[y].zones z.val then s.sirens[y].changeClass (s.classOf y) (s.derateOf y) s.now
      else s.sirens[y] }) ∧
  -- changes of class (R178, R180)
  (∀ (q : Siren) (c : Level) (derate : Bool) (now : Tick),
    let risen : Siren :=
      match q.sounds c with
      | none => { q with cls := c, sounding := c, pendingCls := none, silenced := none, phase := .quiet,
                         phaseEnd := none, opening := false }
      | some p => { q with cls := c, sounding := c, pendingCls := none, silenced := none, groupIndex := 0,
                           blastIndex := 0, reportCount := 0, phase := .blast, opening := false, derated := derate,
                           phaseEnd := some (now + (if derate then max 1 (p.blast / 2) else p.blast) * 1000) }
    let fallen : Siren :=
      match q.sounds c with
      | none => { q with cls := c, sounding := c, pendingCls := none, phase := .quiet, phaseEnd := none,
                         opening := false }
      | some p => { q with cls := c, sounding := c, pendingCls := none, groupIndex := 0, blastIndex := 0,
                           reportCount := 0, phase := .pause, opening := true,
                           phaseEnd := some (now + p.groupGap * 1000) }
    (c = q.cls → q.changeClass c derate now = q) ∧
    (c ≠ q.cls → q.silenced = none →
      (q.sounding.val < c.val → q.changeClass c derate now = risen) ∧
      (c = q.sounding → q.changeClass c derate now = { q with cls := c, pendingCls := none }) ∧
      (c.val < q.sounding.val → q.phase = .blast ∨ q.phase = .gap →
        q.changeClass c derate now = { q with cls := c, pendingCls := some c }) ∧
      (c.val < q.sounding.val → q.phase ≠ .blast → q.phase ≠ .gap → q.changeClass c derate now = fallen)) ∧
    (∀ l : Level, c ≠ q.cls → q.silenced = some l →
      (l.val < c.val → q.changeClass c derate now = risen) ∧
      (c.val ≤ l.val → c = .normal →
        q.changeClass c derate now = { q with cls := c, silenced := none, sounding := .normal }) ∧
      (c.val ≤ l.val → c ≠ .normal → q.changeClass c derate now = { q with cls := c }))) ∧
  (∀ (s : State) (y : SirenId) (p : Pattern) (due : Tick), s.resetLow = false →
    s.sirens[y].sounds s.sirens[y].sounding = some p → s.sirens[y].phaseEnd = some due → due ≤ s.now →
    let q := s.sirens[y]
    let put (q' : Siren) : State := { s with sirens := updAt s.sirens y fun _ => q' }
    let blast (q' : Siren) : Siren :=
      { q' with phase := .blast, opening := false, derated := s.derateOf y,
                phaseEnd := some (s.now + (if s.derateOf y then max 1 (p.blast / 2) else p.blast) * 1000) }
    (q.phase = .blast → q.blastIndex + 1 < p.blasts →
      exec (.sirenPhaseEnd y) s = .next (put { q with phase := .gap, phaseEnd := some (s.now + p.gap * 1000) })) ∧
    (q.phase = .gap →
      exec (.sirenPhaseEnd y) s = .next (put (blast { q with blastIndex := q.blastIndex + 1 }))) ∧
    (q.phase = .pause → q.opening = true →
      exec (.sirenPhaseEnd y) s = .next (put (blast { q with blastIndex := 0 }))) ∧
    (q.phase = .pause → q.opening = false → q.groupIndex < 65535 →
      exec (.sirenPhaseEnd y) s = .next (put (blast { q with blastIndex := 0, groupIndex := q.groupIndex + 1 }))) ∧
    (q.phase = .blast → p.blasts ≤ q.blastIndex + 1 → q.pendingCls = none →
      (p.report = 0 → p.groups ≠ 0 → q.groupIndex + 1 = p.groups →
        exec (.sirenPhaseEnd y) s = .next (put
          { q with groupsSounded := min 65535 (q.groupsSounded + 1), phase := .done, phaseEnd := none })) ∧
      (p.report = 0 → ¬(p.groups ≠ 0 ∧ q.groupIndex + 1 = p.groups) →
        exec (.sirenPhaseEnd y) s = .next (put
          { q with groupsSounded := min 65535 (q.groupsSounded + 1), phase := .pause, opening := false,
                   phaseEnd := some (s.now + p.groupGap * 1000) })) ∧
      (p.report ≠ 0 → q.reportCount + 1 = p.report → p.groups = 0 →
        exec (.sirenPhaseEnd y) s = .next { (put
          { q with groupsSounded := min 65535 (q.groupsSounded + 1), reportCount := 0, phase := .pause,
                   opening := false, phaseEnd := some (s.now + p.groupGap * 1000) }) with
          notices := { s.notices with flags := s.notices.flags ||| Notice.siren.flag } })) ∧
    (∀ c : Level, q.phase = .blast → p.blasts ≤ q.blastIndex + 1 → q.pendingCls = some c → p.report = 0 →
      exec (.sirenPhaseEnd y) s = .next (put
        (match q.sounds c with
          | none => { q with groupsSounded := min 65535 (q.groupsSounded + 1), sounding := c, pendingCls := none,
                             phase := .quiet, phaseEnd := none, opening := false }
          | some p' => { q with groupsSounded := min 65535 (q.groupsSounded + 1), sounding := c, pendingCls := none,
                                groupIndex := 0, blastIndex := 0, reportCount := 0, phase := .pause, opening := true,
                                phaseEnd := some (s.now + p'.groupGap * 1000) }))) ∧
    (q.phase = .blast → p.blasts ≤ q.blastIndex + 1 → q.pendingCls = some .normal → p.report = 0 →
      exec (.sirenPhaseEnd y) s = .next (put
        { q with groupsSounded := min 65535 (q.groupsSounded + 1), sounding := .normal, pendingCls := none,
                 phase := .quiet, phaseEnd := none, opening := false })))

/-- SILENCE SIREN, judged for mode and target and then by the class. That a target whose high byte is not 0 is NO_SUCH is
the model's reading of log row 50, that the sounding class becomes the silenced level is R180's, and `opening` is the
model's field of log row 6. -/
def Obligations.SilenceSiren : Prop :=
  (∀ (s : State) (t : Half), s.listens →
    (s.mode = .config → exec (.silenceSiren t []) s = .next (s.replyWith (.bare .wrongMode))) ∧
    (s.mode = .committing → exec (.silenceSiren t []) s = .next (s.replyWith (.bare .busy))) ∧
    (s.mode = .guarded → 8 ≤ t.toNat → exec (.silenceSiren t []) s = .next (s.replyWith (.bare .noSuch)))) ∧
  (∀ (s : State) (t : Half) (y : SirenId), s.listens → s.mode = .guarded → t.toNat = y.val →
    (s.sirens[y].cls = .fire → exec (.silenceSiren t []) s = .next (s.replyWith (.refused .fireActive))) ∧
    (s.sirens[y].cls = .normal → exec (.silenceSiren t []) s = .next (s.replyWith (.refused .classNormal))) ∧
    (s.sirens[y].cls = .watch ∨ s.sirens[y].cls = .alarm →
      (s.sirens[y].silenced = some s.sirens[y].cls →
        exec (.silenceSiren t []) s = .next (s.replyWith (.ok []))) ∧
      (s.sirens[y].silenced ≠ some s.sirens[y].cls →
        exec (.silenceSiren t []) s = .next ({ s with
          sirens := updAt s.sirens y fun q =>
            { q with silenced := some q.cls, sounding := q.cls, pendingCls := none, phase := .quiet,
                     phaseEnd := none, opening := false } }.replyWith (.ok [])))))

/-! ## Invariants -/

/-- The invariants hold right after reset. -/
def Obligations.ResetMeetsInvariants : Prop :=
  State.reset.resetHeld ∧ State.reset.unitsBalance ∧ State.reset.levelsComputed ∧ State.reset.linesOrdered ∧
    State.reset.servedFits

/-- While the RESET line is low the part stays at mill time 0 in CONFIG. -/
def Obligations.ResetHeldKept : Prop := ∀ s t : State, s.resetHeld → step s = .next t → t.resetHeld

/-- Every step keeps the free units and the draws in RELEASING at the pressure units, and no station releases outside
GUARD. -/
def Obligations.UnitsBalanceKept : Prop := ∀ s t : State, s.unitsBalance → step s = .next t → t.unitsBalance

/-- Every step leaves every zone at the level that its latched level and its live count give. -/
def Obligations.LevelsComputedKept : Prop := ∀ s t : State, s.levelsComputed → step s = .next t → t.levelsComputed

/-- Every step keeps the start queue and the line states in accord. -/
def Obligations.LinesOrderedKept : Prop := ∀ s t : State, s.linesOrdered → step s = .next t → t.linesOrdered

/-- Every step keeps every served list within its eight entries. -/
def Obligations.ServedFitsKept : Prop := ∀ s t : State, s.servedFits → step s = .next t → t.servedFits

/-- Outside CONFIG nothing but a part reset changes a loaded field of any record. -/
def Obligations.LayoutFrozen : Prop :=
  ∀ (c : Instr) (s t : State), exec c s = .next t → s.mode ≠ .config → isPartReset c = false → s.loadedAlike t
end

