-- ==== Sys2Proof/Laws/State.lean ====
section
/-! SUPPORT. What each update of the state does to each field: one lemma per field per update, all of them true by
definition, so that no later proof unfolds a record update. -/
namespace Sys2Proof.Laws
open Sys2Proof.Machine

/-! ## Tables -/

@[simp] theorem updAt_getElem {α : Type} {n : Nat} (v : Vector α n) (i : Fin n) (f : α → α) (j : Nat) (h : j < n) :
    (updAt v i f)[j] = if j = i.val then f v[j] else v[j] := by
  unfold updAt
  rw [Vector.getElem_set]
  by_cases e : j = i.val
  · subst e; simp
  · simp [e, Ne.symm e]

theorem updAt_same {α : Type} {n : Nat} (v : Vector α n) (i : Fin n) (f : α → α) : (updAt v i f)[i] = f v[i] := by
  simp

theorem updAt_other {α : Type} {n : Nat} (v : Vector α n) (i j : Fin n) (f : α → α) (h : j ≠ i) :
    (updAt v i f)[j] = v[j] := by
  have e : j.val ≠ i.val := fun e => h (Fin.ext e)
  simp [e]

/-- A table seen through a projection that an update leaves alone. -/
theorem updAt_map {α β : Type} {n : Nat} (v : Vector α n) (i : Fin n) (f : α → α) (p : α → β)
    (h : ∀ x, p (f x) = p x) : (updAt v i f).map p = v.map p := by
  apply Vector.ext
  intro j hj
  simp only [Vector.getElem_map, updAt_getElem]
  split <;> simp [h]

/-! ## State.updSegment -/

section
variable (s : State) (i : SegId) (f : Segment → Segment)
@[simp] theorem updSegment_now : (s.updSegment i f).now = s.now := rfl
@[simp] theorem updSegment_resetLow : (s.updSegment i f).resetLow = s.resetLow := rfl
@[simp] theorem updSegment_mode : (s.updSegment i f).mode = s.mode := rfl
@[simp] theorem updSegment_walkEnd : (s.updSegment i f).walkEnd = s.walkEnd := rfl
@[simp] theorem updSegment_result : (s.updSegment i f).result = s.result := rfl
@[simp] theorem updSegment_guardEntry : (s.updSegment i f).guardEntry = s.guardEntry := rfl
@[simp] theorem updSegment_nextGate : (s.updSegment i f).nextGate = s.nextGate := rfl
@[simp] theorem updSegment_nextSurvey : (s.updSegment i f).nextSurvey = s.nextSurvey := rfl
@[simp] theorem updSegment_limits : (s.updSegment i f).limits = s.limits := rfl
@[simp] theorem updSegment_segments : (s.updSegment i f).segments = updAt s.segments i f := rfl
@[simp] theorem updSegment_gates : (s.updSegment i f).gates = s.gates := rfl
@[simp] theorem updSegment_lines : (s.updSegment i f).lines = s.lines := rfl
@[simp] theorem updSegment_startQueue : (s.updSegment i f).startQueue = s.startQueue := rfl
@[simp] theorem updSegment_startList : (s.updSegment i f).startList = s.startList := rfl
@[simp] theorem updSegment_fanFeedback : (s.updSegment i f).fanFeedback = s.fanFeedback := rfl
@[simp] theorem updSegment_channels : (s.updSegment i f).channels = s.channels := rfl
@[simp] theorem updSegment_airflows : (s.updSegment i f).airflows = s.airflows := rfl
@[simp] theorem updSegment_temps : (s.updSegment i f).temps = s.temps := rfl
@[simp] theorem updSegment_slots : (s.updSegment i f).slots = s.slots := rfl
@[simp] theorem updSegment_nextSeq : (s.updSegment i f).nextSeq = s.nextSeq := rfl
@[simp] theorem updSegment_stations : (s.updSegment i f).stations = s.stations := rfl
@[simp] theorem updSegment_freeUnits : (s.updSegment i f).freeUnits = s.freeUnits := rfl
@[simp] theorem updSegment_zones : (s.updSegment i f).zones = s.zones := rfl
@[simp] theorem updSegment_shutters : (s.updSegment i f).shutters = s.shutters := rfl
@[simp] theorem updSegment_sirens : (s.updSegment i f).sirens = s.sirens := rfl
@[simp] theorem updSegment_notices : (s.updSegment i f).notices = s.notices := rfl
@[simp] theorem updSegment_link : (s.updSegment i f).link = s.link := rfl
@[simp] theorem updSegment_pending : (s.updSegment i f).pending = s.pending := rfl
end

/-! ## State.updGate -/

section
variable (s : State) (i : GateId) (f : Gate → Gate)
@[simp] theorem updGate_now : (s.updGate i f).now = s.now := rfl
@[simp] theorem updGate_resetLow : (s.updGate i f).resetLow = s.resetLow := rfl
@[simp] theorem updGate_mode : (s.updGate i f).mode = s.mode := rfl
@[simp] theorem updGate_walkEnd : (s.updGate i f).walkEnd = s.walkEnd := rfl
@[simp] theorem updGate_result : (s.updGate i f).result = s.result := rfl
@[simp] theorem updGate_guardEntry : (s.updGate i f).guardEntry = s.guardEntry := rfl
@[simp] theorem updGate_nextGate : (s.updGate i f).nextGate = s.nextGate := rfl
@[simp] theorem updGate_nextSurvey : (s.updGate i f).nextSurvey = s.nextSurvey := rfl
@[simp] theorem updGate_limits : (s.updGate i f).limits = s.limits := rfl
@[simp] theorem updGate_segments : (s.updGate i f).segments = s.segments := rfl
@[simp] theorem updGate_gates : (s.updGate i f).gates = updAt s.gates i f := rfl
@[simp] theorem updGate_lines : (s.updGate i f).lines = s.lines := rfl
@[simp] theorem updGate_startQueue : (s.updGate i f).startQueue = s.startQueue := rfl
@[simp] theorem updGate_startList : (s.updGate i f).startList = s.startList := rfl
@[simp] theorem updGate_fanFeedback : (s.updGate i f).fanFeedback = s.fanFeedback := rfl
@[simp] theorem updGate_channels : (s.updGate i f).channels = s.channels := rfl
@[simp] theorem updGate_airflows : (s.updGate i f).airflows = s.airflows := rfl
@[simp] theorem updGate_temps : (s.updGate i f).temps = s.temps := rfl
@[simp] theorem updGate_slots : (s.updGate i f).slots = s.slots := rfl
@[simp] theorem updGate_nextSeq : (s.updGate i f).nextSeq = s.nextSeq := rfl
@[simp] theorem updGate_stations : (s.updGate i f).stations = s.stations := rfl
@[simp] theorem updGate_freeUnits : (s.updGate i f).freeUnits = s.freeUnits := rfl
@[simp] theorem updGate_zones : (s.updGate i f).zones = s.zones := rfl
@[simp] theorem updGate_shutters : (s.updGate i f).shutters = s.shutters := rfl
@[simp] theorem updGate_sirens : (s.updGate i f).sirens = s.sirens := rfl
@[simp] theorem updGate_notices : (s.updGate i f).notices = s.notices := rfl
@[simp] theorem updGate_link : (s.updGate i f).link = s.link := rfl
@[simp] theorem updGate_pending : (s.updGate i f).pending = s.pending := rfl
end

/-! ## State.updLine -/

section
variable (s : State) (i : LineId) (f : Line → Line)
@[simp] theorem updLine_now : (s.updLine i f).now = s.now := rfl
@[simp] theorem updLine_resetLow : (s.updLine i f).resetLow = s.resetLow := rfl
@[simp] theorem updLine_mode : (s.updLine i f).mode = s.mode := rfl
@[simp] theorem updLine_walkEnd : (s.updLine i f).walkEnd = s.walkEnd := rfl
@[simp] theorem updLine_result : (s.updLine i f).result = s.result := rfl
@[simp] theorem updLine_guardEntry : (s.updLine i f).guardEntry = s.guardEntry := rfl
@[simp] theorem updLine_nextGate : (s.updLine i f).nextGate = s.nextGate := rfl
@[simp] theorem updLine_nextSurvey : (s.updLine i f).nextSurvey = s.nextSurvey := rfl
@[simp] theorem updLine_limits : (s.updLine i f).limits = s.limits := rfl
@[simp] theorem updLine_segments : (s.updLine i f).segments = s.segments := rfl
@[simp] theorem updLine_gates : (s.updLine i f).gates = s.gates := rfl
@[simp] theorem updLine_lines : (s.updLine i f).lines = updAt s.lines i f := rfl
@[simp] theorem updLine_startQueue : (s.updLine i f).startQueue = s.startQueue := rfl
@[simp] theorem updLine_startList : (s.updLine i f).startList = s.startList := rfl
@[simp] theorem updLine_fanFeedback : (s.updLine i f).fanFeedback = s.fanFeedback := rfl
@[simp] theorem updLine_channels : (s.updLine i f).channels = s.channels := rfl
@[simp] theorem updLine_airflows : (s.updLine i f).airflows = s.airflows := rfl
@[simp] theorem updLine_temps : (s.updLine i f).temps = s.temps := rfl
@[simp] theorem updLine_slots : (s.updLine i f).slots = s.slots := rfl
@[simp] theorem updLine_nextSeq : (s.updLine i f).nextSeq = s.nextSeq := rfl
@[simp] theorem updLine_stations : (s.updLine i f).stations = s.stations := rfl
@[simp] theorem updLine_freeUnits : (s.updLine i f).freeUnits = s.freeUnits := rfl
@[simp] theorem updLine_zones : (s.updLine i f).zones = s.zones := rfl
@[simp] theorem updLine_shutters : (s.updLine i f).shutters = s.shutters := rfl
@[simp] theorem updLine_sirens : (s.updLine i f).sirens = s.sirens := rfl
@[simp] theorem updLine_notices : (s.updLine i f).notices = s.notices := rfl
@[simp] theorem updLine_link : (s.updLine i f).link = s.link := rfl
@[simp] theorem updLine_pending : (s.updLine i f).pending = s.pending := rfl
end

/-! ## State.updChannel -/

section
variable (s : State) (i : ChanId) (f : Channel → Channel)
@[simp] theorem updChannel_now : (s.updChannel i f).now = s.now := rfl
@[simp] theorem updChannel_resetLow : (s.updChannel i f).resetLow = s.resetLow := rfl
@[simp] theorem updChannel_mode : (s.updChannel i f).mode = s.mode := rfl
@[simp] theorem updChannel_walkEnd : (s.updChannel i f).walkEnd = s.walkEnd := rfl
@[simp] theorem updChannel_result : (s.updChannel i f).result = s.result := rfl
@[simp] theorem updChannel_guardEntry : (s.updChannel i f).guardEntry = s.guardEntry := rfl
@[simp] theorem updChannel_nextGate : (s.updChannel i f).nextGate = s.nextGate := rfl
@[simp] theorem updChannel_nextSurvey : (s.updChannel i f).nextSurvey = s.nextSurvey := rfl
@[simp] theorem updChannel_limits : (s.updChannel i f).limits = s.limits := rfl
@[simp] theorem updChannel_segments : (s.updChannel i f).segments = s.segments := rfl
@[simp] theorem updChannel_gates : (s.updChannel i f).gates = s.gates := rfl
@[simp] theorem updChannel_lines : (s.updChannel i f).lines = s.lines := rfl
@[simp] theorem updChannel_startQueue : (s.updChannel i f).startQueue = s.startQueue := rfl
@[simp] theorem updChannel_startList : (s.updChannel i f).startList = s.startList := rfl
@[simp] theorem updChannel_fanFeedback : (s.updChannel i f).fanFeedback = s.fanFeedback := rfl
@[simp] theorem updChannel_channels : (s.updChannel i f).channels = updAt s.channels i f := rfl
@[simp] theorem updChannel_airflows : (s.updChannel i f).airflows = s.airflows := rfl
@[simp] theorem updChannel_temps : (s.updChannel i f).temps = s.temps := rfl
@[simp] theorem updChannel_slots : (s.updChannel i f).slots = s.slots := rfl
@[simp] theorem updChannel_nextSeq : (s.updChannel i f).nextSeq = s.nextSeq := rfl
@[simp] theorem updChannel_stations : (s.updChannel i f).stations = s.stations := rfl
@[simp] theorem updChannel_freeUnits : (s.updChannel i f).freeUnits = s.freeUnits := rfl
@[simp] theorem updChannel_zones : (s.updChannel i f).zones = s.zones := rfl
@[simp] theorem updChannel_shutters : (s.updChannel i f).shutters = s.shutters := rfl
@[simp] theorem updChannel_sirens : (s.updChannel i f).sirens = s.sirens := rfl
@[simp] theorem updChannel_notices : (s.updChannel i f).notices = s.notices := rfl
@[simp] theorem updChannel_link : (s.updChannel i f).link = s.link := rfl
@[simp] theorem updChannel_pending : (s.updChannel i f).pending = s.pending := rfl
end

/-! ## State.updAirflow -/

section
variable (s : State) (i : AirId) (f : Airflow → Airflow)
@[simp] theorem updAirflow_now : (s.updAirflow i f).now = s.now := rfl
@[simp] theorem updAirflow_resetLow : (s.updAirflow i f).resetLow = s.resetLow := rfl
@[simp] theorem updAirflow_mode : (s.updAirflow i f).mode = s.mode := rfl
@[simp] theorem updAirflow_walkEnd : (s.updAirflow i f).walkEnd = s.walkEnd := rfl
@[simp] theorem updAirflow_result : (s.updAirflow i f).result = s.result := rfl
@[simp] theorem updAirflow_guardEntry : (s.updAirflow i f).guardEntry = s.guardEntry := rfl
@[simp] theorem updAirflow_nextGate : (s.updAirflow i f).nextGate = s.nextGate := rfl
@[simp] theorem updAirflow_nextSurvey : (s.updAirflow i f).nextSurvey = s.nextSurvey := rfl
@[simp] theorem updAirflow_limits : (s.updAirflow i f).limits = s.limits := rfl
@[simp] theorem updAirflow_segments : (s.updAirflow i f).segments = s.segments := rfl
@[simp] theorem updAirflow_gates : (s.updAirflow i f).gates = s.gates := rfl
@[simp] theorem updAirflow_lines : (s.updAirflow i f).lines = s.lines := rfl
@[simp] theorem updAirflow_startQueue : (s.updAirflow i f).startQueue = s.startQueue := rfl
@[simp] theorem updAirflow_startList : (s.updAirflow i f).startList = s.startList := rfl
@[simp] theorem updAirflow_fanFeedback : (s.updAirflow i f).fanFeedback = s.fanFeedback := rfl
@[simp] theorem updAirflow_channels : (s.updAirflow i f).channels = s.channels := rfl
@[simp] theorem updAirflow_airflows : (s.updAirflow i f).airflows = updAt s.airflows i f := rfl
@[simp] theorem updAirflow_temps : (s.updAirflow i f).temps = s.temps := rfl
@[simp] theorem updAirflow_slots : (s.updAirflow i f).slots = s.slots := rfl
@[simp] theorem updAirflow_nextSeq : (s.updAirflow i f).nextSeq = s.nextSeq := rfl
@[simp] theorem updAirflow_stations : (s.updAirflow i f).stations = s.stations := rfl
@[simp] theorem updAirflow_freeUnits : (s.updAirflow i f).freeUnits = s.freeUnits := rfl
@[simp] theorem updAirflow_zones : (s.updAirflow i f).zones = s.zones := rfl
@[simp] theorem updAirflow_shutters : (s.updAirflow i f).shutters = s.shutters := rfl
@[simp] theorem updAirflow_sirens : (s.updAirflow i f).sirens = s.sirens := rfl
@[simp] theorem updAirflow_notices : (s.updAirflow i f).notices = s.notices := rfl
@[simp] theorem updAirflow_link : (s.updAirflow i f).link = s.link := rfl
@[simp] theorem updAirflow_pending : (s.updAirflow i f).pending = s.pending := rfl
end

/-! ## State.updTemp -/

section
variable (s : State) (i : TempId) (f : Temperature → Temperature)
@[simp] theorem updTemp_now : (s.updTemp i f).now = s.now := rfl
@[simp] theorem updTemp_resetLow : (s.updTemp i f).resetLow = s.resetLow := rfl
@[simp] theorem updTemp_mode : (s.updTemp i f).mode = s.mode := rfl
@[simp] theorem updTemp_walkEnd : (s.updTemp i f).walkEnd = s.walkEnd := rfl
@[simp] theorem updTemp_result : (s.updTemp i f).result = s.result := rfl
@[simp] theorem updTemp_guardEntry : (s.updTemp i f).guardEntry = s.guardEntry := rfl
@[simp] theorem updTemp_nextGate : (s.updTemp i f).nextGate = s.nextGate := rfl
@[simp] theorem updTemp_nextSurvey : (s.updTemp i f).nextSurvey = s.nextSurvey := rfl
@[simp] theorem updTemp_limits : (s.updTemp i f).limits = s.limits := rfl
@[simp] theorem updTemp_segments : (s.updTemp i f).segments = s.segments := rfl
@[simp] theorem updTemp_gates : (s.updTemp i f).gates = s.gates := rfl
@[simp] theorem updTemp_lines : (s.updTemp i f).lines = s.lines := rfl
@[simp] theorem updTemp_startQueue : (s.updTemp i f).startQueue = s.startQueue := rfl
@[simp] theorem updTemp_startList : (s.updTemp i f).startList = s.startList := rfl
@[simp] theorem updTemp_fanFeedback : (s.updTemp i f).fanFeedback = s.fanFeedback := rfl
@[simp] theorem updTemp_channels : (s.updTemp i f).channels = s.channels := rfl
@[simp] theorem updTemp_airflows : (s.updTemp i f).airflows = s.airflows := rfl
@[simp] theorem updTemp_temps : (s.updTemp i f).temps = updAt s.temps i f := rfl
@[simp] theorem updTemp_slots : (s.updTemp i f).slots = s.slots := rfl
@[simp] theorem updTemp_nextSeq : (s.updTemp i f).nextSeq = s.nextSeq := rfl
@[simp] theorem updTemp_stations : (s.updTemp i f).stations = s.stations := rfl
@[simp] theorem updTemp_freeUnits : (s.updTemp i f).freeUnits = s.freeUnits := rfl
@[simp] theorem updTemp_zones : (s.updTemp i f).zones = s.zones := rfl
@[simp] theorem updTemp_shutters : (s.updTemp i f).shutters = s.shutters := rfl
@[simp] theorem updTemp_sirens : (s.updTemp i f).sirens = s.sirens := rfl
@[simp] theorem updTemp_notices : (s.updTemp i f).notices = s.notices := rfl
@[simp] theorem updTemp_link : (s.updTemp i f).link = s.link := rfl
@[simp] theorem updTemp_pending : (s.updTemp i f).pending = s.pending := rfl
end

/-! ## State.updSlot -/

section
variable (s : State) (i : SlotId) (f : Slot → Slot)
@[simp] theorem updSlot_now : (s.updSlot i f).now = s.now := rfl
@[simp] theorem updSlot_resetLow : (s.updSlot i f).resetLow = s.resetLow := rfl
@[simp] theorem updSlot_mode : (s.updSlot i f).mode = s.mode := rfl
@[simp] theorem updSlot_walkEnd : (s.updSlot i f).walkEnd = s.walkEnd := rfl
@[simp] theorem updSlot_result : (s.updSlot i f).result = s.result := rfl
@[simp] theorem updSlot_guardEntry : (s.updSlot i f).guardEntry = s.guardEntry := rfl
@[simp] theorem updSlot_nextGate : (s.updSlot i f).nextGate = s.nextGate := rfl
@[simp] theorem updSlot_nextSurvey : (s.updSlot i f).nextSurvey = s.nextSurvey := rfl
@[simp] theorem updSlot_limits : (s.updSlot i f).limits = s.limits := rfl
@[simp] theorem updSlot_segments : (s.updSlot i f).segments = s.segments := rfl
@[simp] theorem updSlot_gates : (s.updSlot i f).gates = s.gates := rfl
@[simp] theorem updSlot_lines : (s.updSlot i f).lines = s.lines := rfl
@[simp] theorem updSlot_startQueue : (s.updSlot i f).startQueue = s.startQueue := rfl
@[simp] theorem updSlot_startList : (s.updSlot i f).startList = s.startList := rfl
@[simp] theorem updSlot_fanFeedback : (s.updSlot i f).fanFeedback = s.fanFeedback := rfl
@[simp] theorem updSlot_channels : (s.updSlot i f).channels = s.channels := rfl
@[simp] theorem updSlot_airflows : (s.updSlot i f).airflows = s.airflows := rfl
@[simp] theorem updSlot_temps : (s.updSlot i f).temps = s.temps := rfl
@[simp] theorem updSlot_slots : (s.updSlot i f).slots = updAt s.slots i f := rfl
@[simp] theorem updSlot_nextSeq : (s.updSlot i f).nextSeq = s.nextSeq := rfl
@[simp] theorem updSlot_stations : (s.updSlot i f).stations = s.stations := rfl
@[simp] theorem updSlot_freeUnits : (s.updSlot i f).freeUnits = s.freeUnits := rfl
@[simp] theorem updSlot_zones : (s.updSlot i f).zones = s.zones := rfl
@[simp] theorem updSlot_shutters : (s.updSlot i f).shutters = s.shutters := rfl
@[simp] theorem updSlot_sirens : (s.updSlot i f).sirens = s.sirens := rfl
@[simp] theorem updSlot_notices : (s.updSlot i f).notices = s.notices := rfl
@[simp] theorem updSlot_link : (s.updSlot i f).link = s.link := rfl
@[simp] theorem updSlot_pending : (s.updSlot i f).pending = s.pending := rfl
end

/-! ## State.updStation -/

section
variable (s : State) (i : StationId) (f : Station → Station)
@[simp] theorem updStation_now : (s.updStation i f).now = s.now := rfl
@[simp] theorem updStation_resetLow : (s.updStation i f).resetLow = s.resetLow := rfl
@[simp] theorem updStation_mode : (s.updStation i f).mode = s.mode := rfl
@[simp] theorem updStation_walkEnd : (s.updStation i f).walkEnd = s.walkEnd := rfl
@[simp] theorem updStation_result : (s.updStation i f).result = s.result := rfl
@[simp] theorem updStation_guardEntry : (s.updStation i f).guardEntry = s.guardEntry := rfl
@[simp] theorem updStation_nextGate : (s.updStation i f).nextGate = s.nextGate := rfl
@[simp] theorem updStation_nextSurvey : (s.updStation i f).nextSurvey = s.nextSurvey := rfl
@[simp] theorem updStation_limits : (s.updStation i f).limits = s.limits := rfl
@[simp] theorem updStation_segments : (s.updStation i f).segments = s.segments := rfl
@[simp] theorem updStation_gates : (s.updStation i f).gates = s.gates := rfl
@[simp] theorem updStation_lines : (s.updStation i f).lines = s.lines := rfl
@[simp] theorem updStation_startQueue : (s.updStation i f).startQueue = s.startQueue := rfl
@[simp] theorem updStation_startList : (s.updStation i f).startList = s.startList := rfl
@[simp] theorem updStation_fanFeedback : (s.updStation i f).fanFeedback = s.fanFeedback := rfl
@[simp] theorem updStation_channels : (s.updStation i f).channels = s.channels := rfl
@[simp] theorem updStation_airflows : (s.updStation i f).airflows = s.airflows := rfl
@[simp] theorem updStation_temps : (s.updStation i f).temps = s.temps := rfl
@[simp] theorem updStation_slots : (s.updStation i f).slots = s.slots := rfl
@[simp] theorem updStation_nextSeq : (s.updStation i f).nextSeq = s.nextSeq := rfl
@[simp] theorem updStation_stations : (s.updStation i f).stations = updAt s.stations i f := rfl
@[simp] theorem updStation_freeUnits : (s.updStation i f).freeUnits = s.freeUnits := rfl
@[simp] theorem updStation_zones : (s.updStation i f).zones = s.zones := rfl
@[simp] theorem updStation_shutters : (s.updStation i f).shutters = s.shutters := rfl
@[simp] theorem updStation_sirens : (s.updStation i f).sirens = s.sirens := rfl
@[simp] theorem updStation_notices : (s.updStation i f).notices = s.notices := rfl
@[simp] theorem updStation_link : (s.updStation i f).link = s.link := rfl
@[simp] theorem updStation_pending : (s.updStation i f).pending = s.pending := rfl
end

/-! ## State.updZone -/

section
variable (s : State) (i : ZoneId) (f : Zone → Zone)
@[simp] theorem updZone_now : (s.updZone i f).now = s.now := rfl
@[simp] theorem updZone_resetLow : (s.updZone i f).resetLow = s.resetLow := rfl
@[simp] theorem updZone_mode : (s.updZone i f).mode = s.mode := rfl
@[simp] theorem updZone_walkEnd : (s.updZone i f).walkEnd = s.walkEnd := rfl
@[simp] theorem updZone_result : (s.updZone i f).result = s.result := rfl
@[simp] theorem updZone_guardEntry : (s.updZone i f).guardEntry = s.guardEntry := rfl
@[simp] theorem updZone_nextGate : (s.updZone i f).nextGate = s.nextGate := rfl
@[simp] theorem updZone_nextSurvey : (s.updZone i f).nextSurvey = s.nextSurvey := rfl
@[simp] theorem updZone_limits : (s.updZone i f).limits = s.limits := rfl
@[simp] theorem updZone_segments : (s.updZone i f).segments = s.segments := rfl
@[simp] theorem updZone_gates : (s.updZone i f).gates = s.gates := rfl
@[simp] theorem updZone_lines : (s.updZone i f).lines = s.lines := rfl
@[simp] theorem updZone_startQueue : (s.updZone i f).startQueue = s.startQueue := rfl
@[simp] theorem updZone_startList : (s.updZone i f).startList = s.startList := rfl
@[simp] theorem updZone_fanFeedback : (s.updZone i f).fanFeedback = s.fanFeedback := rfl
@[simp] theorem updZone_channels : (s.updZone i f).channels = s.channels := rfl
@[simp] theorem updZone_airflows : (s.updZone i f).airflows = s.airflows := rfl
@[simp] theorem updZone_temps : (s.updZone i f).temps = s.temps := rfl
@[simp] theorem updZone_slots : (s.updZone i f).slots = s.slots := rfl
@[simp] theorem updZone_nextSeq : (s.updZone i f).nextSeq = s.nextSeq := rfl
@[simp] theorem updZone_stations : (s.updZone i f).stations = s.stations := rfl
@[simp] theorem updZone_freeUnits : (s.updZone i f).freeUnits = s.freeUnits := rfl
@[simp] theorem updZone_zones : (s.updZone i f).zones = updAt s.zones i f := rfl
@[simp] theorem updZone_shutters : (s.updZone i f).shutters = s.shutters := rfl
@[simp] theorem updZone_sirens : (s.updZone i f).sirens = s.sirens := rfl
@[simp] theorem updZone_notices : (s.updZone i f).notices = s.notices := rfl
@[simp] theorem updZone_link : (s.updZone i f).link = s.link := rfl
@[simp] theorem updZone_pending : (s.updZone i f).pending = s.pending := rfl
end

/-! ## State.updShutter -/

section
variable (s : State) (i : ShutterId) (f : Shutter → Shutter)
@[simp] theorem updShutter_now : (s.updShutter i f).now = s.now := rfl
@[simp] theorem updShutter_resetLow : (s.updShutter i f).resetLow = s.resetLow := rfl
@[simp] theorem updShutter_mode : (s.updShutter i f).mode = s.mode := rfl
@[simp] theorem updShutter_walkEnd : (s.updShutter i f).walkEnd = s.walkEnd := rfl
@[simp] theorem updShutter_result : (s.updShutter i f).result = s.result := rfl
@[simp] theorem updShutter_guardEntry : (s.updShutter i f).guardEntry = s.guardEntry := rfl
@[simp] theorem updShutter_nextGate : (s.updShutter i f).nextGate = s.nextGate := rfl
@[simp] theorem updShutter_nextSurvey : (s.updShutter i f).nextSurvey = s.nextSurvey := rfl
@[simp] theorem updShutter_limits : (s.updShutter i f).limits = s.limits := rfl
@[simp] theorem updShutter_segments : (s.updShutter i f).segments = s.segments := rfl
@[simp] theorem updShutter_gates : (s.updShutter i f).gates = s.gates := rfl
@[simp] theorem updShutter_lines : (s.updShutter i f).lines = s.lines := rfl
@[simp] theorem updShutter_startQueue : (s.updShutter i f).startQueue = s.startQueue := rfl
@[simp] theorem updShutter_startList : (s.updShutter i f).startList = s.startList := rfl
@[simp] theorem updShutter_fanFeedback : (s.updShutter i f).fanFeedback = s.fanFeedback := rfl
@[simp] theorem updShutter_channels : (s.updShutter i f).channels = s.channels := rfl
@[simp] theorem updShutter_airflows : (s.updShutter i f).airflows = s.airflows := rfl
@[simp] theorem updShutter_temps : (s.updShutter i f).temps = s.temps := rfl
@[simp] theorem updShutter_slots : (s.updShutter i f).slots = s.slots := rfl
@[simp] theorem updShutter_nextSeq : (s.updShutter i f).nextSeq = s.nextSeq := rfl
@[simp] theorem updShutter_stations : (s.updShutter i f).stations = s.stations := rfl
@[simp] theorem updShutter_freeUnits : (s.updShutter i f).freeUnits = s.freeUnits := rfl
@[simp] theorem updShutter_zones : (s.updShutter i f).zones = s.zones := rfl
@[simp] theorem updShutter_shutters : (s.updShutter i f).shutters = updAt s.shutters i f := rfl
@[simp] theorem updShutter_sirens : (s.updShutter i f).sirens = s.sirens := rfl
@[simp] theorem updShutter_notices : (s.updShutter i f).notices = s.notices := rfl
@[simp] theorem updShutter_link : (s.updShutter i f).link = s.link := rfl
@[simp] theorem updShutter_pending : (s.updShutter i f).pending = s.pending := rfl
end

/-! ## State.updSiren -/

section
variable (s : State) (i : SirenId) (f : Siren → Siren)
@[simp] theorem updSiren_now : (s.updSiren i f).now = s.now := rfl
@[simp] theorem updSiren_resetLow : (s.updSiren i f).resetLow = s.resetLow := rfl
@[simp] theorem updSiren_mode : (s.updSiren i f).mode = s.mode := rfl
@[simp] theorem updSiren_walkEnd : (s.updSiren i f).walkEnd = s.walkEnd := rfl
@[simp] theorem updSiren_result : (s.updSiren i f).result = s.result := rfl
@[simp] theorem updSiren_guardEntry : (s.updSiren i f).guardEntry = s.guardEntry := rfl
@[simp] theorem updSiren_nextGate : (s.updSiren i f).nextGate = s.nextGate := rfl
@[simp] theorem updSiren_nextSurvey : (s.updSiren i f).nextSurvey = s.nextSurvey := rfl
@[simp] theorem updSiren_limits : (s.updSiren i f).limits = s.limits := rfl
@[simp] theorem updSiren_segments : (s.updSiren i f).segments = s.segments := rfl
@[simp] theorem updSiren_gates : (s.updSiren i f).gates = s.gates := rfl
@[simp] theorem updSiren_lines : (s.updSiren i f).lines = s.lines := rfl
@[simp] theorem updSiren_startQueue : (s.updSiren i f).startQueue = s.startQueue := rfl
@[simp] theorem updSiren_startList : (s.updSiren i f).startList = s.startList := rfl
@[simp] theorem updSiren_fanFeedback : (s.updSiren i f).fanFeedback = s.fanFeedback := rfl
@[simp] theorem updSiren_channels : (s.updSiren i f).channels = s.channels := rfl
@[simp] theorem updSiren_airflows : (s.updSiren i f).airflows = s.airflows := rfl
@[simp] theorem updSiren_temps : (s.updSiren i f).temps = s.temps := rfl
@[simp] theorem updSiren_slots : (s.updSiren i f).slots = s.slots := rfl
@[simp] theorem updSiren_nextSeq : (s.updSiren i f).nextSeq = s.nextSeq := rfl
@[simp] theorem updSiren_stations : (s.updSiren i f).stations = s.stations := rfl
@[simp] theorem updSiren_freeUnits : (s.updSiren i f).freeUnits = s.freeUnits := rfl
@[simp] theorem updSiren_zones : (s.updSiren i f).zones = s.zones := rfl
@[simp] theorem updSiren_shutters : (s.updSiren i f).shutters = s.shutters := rfl
@[simp] theorem updSiren_sirens : (s.updSiren i f).sirens = updAt s.sirens i f := rfl
@[simp] theorem updSiren_notices : (s.updSiren i f).notices = s.notices := rfl
@[simp] theorem updSiren_link : (s.updSiren i f).link = s.link := rfl
@[simp] theorem updSiren_pending : (s.updSiren i f).pending = s.pending := rfl
end

/-! ## State.updTrack -/

section
variable (s : State) (i : SlotId) (f : Track → Track)
@[simp] theorem updTrack_now : (s.updTrack i f).now = s.now :=
  rfl
@[simp] theorem updTrack_resetLow : (s.updTrack i f).resetLow = s.resetLow :=
  rfl
@[simp] theorem updTrack_mode : (s.updTrack i f).mode = s.mode :=
  rfl
@[simp] theorem updTrack_walkEnd : (s.updTrack i f).walkEnd = s.walkEnd :=
  rfl
@[simp] theorem updTrack_result : (s.updTrack i f).result = s.result :=
  rfl
@[simp] theorem updTrack_guardEntry : (s.updTrack i f).guardEntry = s.guardEntry :=
  rfl
@[simp] theorem updTrack_nextGate : (s.updTrack i f).nextGate = s.nextGate :=
  rfl
@[simp] theorem updTrack_nextSurvey : (s.updTrack i f).nextSurvey = s.nextSurvey :=
  rfl
@[simp] theorem updTrack_limits : (s.updTrack i f).limits = s.limits :=
  rfl
@[simp] theorem updTrack_segments : (s.updTrack i f).segments = s.segments :=
  rfl
@[simp] theorem updTrack_gates : (s.updTrack i f).gates = s.gates :=
  rfl
@[simp] theorem updTrack_lines : (s.updTrack i f).lines = s.lines :=
  rfl
@[simp] theorem updTrack_startQueue : (s.updTrack i f).startQueue = s.startQueue :=
  rfl
@[simp] theorem updTrack_startList : (s.updTrack i f).startList = s.startList :=
  rfl
@[simp] theorem updTrack_fanFeedback : (s.updTrack i f).fanFeedback = s.fanFeedback :=
  rfl
@[simp] theorem updTrack_channels : (s.updTrack i f).channels = s.channels :=
  rfl
@[simp] theorem updTrack_airflows : (s.updTrack i f).airflows = s.airflows :=
  rfl
@[simp] theorem updTrack_temps : (s.updTrack i f).temps = s.temps :=
  rfl
@[simp] theorem updTrack_slots : (s.updTrack i f).slots = updAt s.slots i fun q => { q with track := q.track.map f } :=
  rfl
@[simp] theorem updTrack_nextSeq : (s.updTrack i f).nextSeq = s.nextSeq :=
  rfl
@[simp] theorem updTrack_stations : (s.updTrack i f).stations = s.stations :=
  rfl
@[simp] theorem updTrack_freeUnits : (s.updTrack i f).freeUnits = s.freeUnits :=
  rfl
@[simp] theorem updTrack_zones : (s.updTrack i f).zones = s.zones :=
  rfl
@[simp] theorem updTrack_shutters : (s.updTrack i f).shutters = s.shutters :=
  rfl
@[simp] theorem updTrack_sirens : (s.updTrack i f).sirens = s.sirens :=
  rfl
@[simp] theorem updTrack_notices : (s.updTrack i f).notices = s.notices :=
  rfl
@[simp] theorem updTrack_link : (s.updTrack i f).link = s.link :=
  rfl
@[simp] theorem updTrack_pending : (s.updTrack i f).pending = s.pending :=
  rfl
end

/-! ## Notices -/

section
variable (s : State) (n : Notice)
@[simp] theorem raise_now : (s.raise n).now = s.now := rfl
@[simp] theorem raise_resetLow : (s.raise n).resetLow = s.resetLow := rfl
@[simp] theorem raise_mode : (s.raise n).mode = s.mode := rfl
@[simp] theorem raise_walkEnd : (s.raise n).walkEnd = s.walkEnd := rfl
@[simp] theorem raise_result : (s.raise n).result = s.result := rfl
@[simp] theorem raise_guardEntry : (s.raise n).guardEntry = s.guardEntry := rfl
@[simp] theorem raise_nextGate : (s.raise n).nextGate = s.nextGate := rfl
@[simp] theorem raise_nextSurvey : (s.raise n).nextSurvey = s.nextSurvey := rfl
@[simp] theorem raise_limits : (s.raise n).limits = s.limits := rfl
@[simp] theorem raise_segments : (s.raise n).segments = s.segments := rfl
@[simp] theorem raise_gates : (s.raise n).gates = s.gates := rfl
@[simp] theorem raise_lines : (s.raise n).lines = s.lines := rfl
@[simp] theorem raise_startQueue : (s.raise n).startQueue = s.startQueue := rfl
@[simp] theorem raise_startList : (s.raise n).startList = s.startList := rfl
@[simp] theorem raise_fanFeedback : (s.raise n).fanFeedback = s.fanFeedback := rfl
@[simp] theorem raise_channels : (s.raise n).channels = s.channels := rfl
@[simp] theorem raise_airflows : (s.raise n).airflows = s.airflows := rfl
@[simp] theorem raise_temps : (s.raise n).temps = s.temps := rfl
@[simp] theorem raise_slots : (s.raise n).slots = s.slots := rfl
@[simp] theorem raise_nextSeq : (s.raise n).nextSeq = s.nextSeq := rfl
@[simp] theorem raise_stations : (s.raise n).stations = s.stations := rfl
@[simp] theorem raise_freeUnits : (s.raise n).freeUnits = s.freeUnits := rfl
@[simp] theorem raise_zones : (s.raise n).zones = s.zones := rfl
@[simp] theorem raise_shutters : (s.raise n).shutters = s.shutters := rfl
@[simp] theorem raise_sirens : (s.raise n).sirens = s.sirens := rfl
@[simp] theorem raise_notices : (s.raise n).notices = { s.notices with flags := s.notices.flags ||| n.flag } := rfl
@[simp] theorem raise_link : (s.raise n).link = s.link := rfl
@[simp] theorem raise_pending : (s.raise n).pending = s.pending := rfl
end

section
variable (s : State) (e : LinkError)
@[simp] theorem raiseLinkError_now : (s.raiseLinkError e).now = s.now := rfl
@[simp] theorem raiseLinkError_resetLow : (s.raiseLinkError e).resetLow = s.resetLow := rfl
@[simp] theorem raiseLinkError_mode : (s.raiseLinkError e).mode = s.mode := rfl
@[simp] theorem raiseLinkError_walkEnd : (s.raiseLinkError e).walkEnd = s.walkEnd := rfl
@[simp] theorem raiseLinkError_result : (s.raiseLinkError e).result = s.result := rfl
@[simp] theorem raiseLinkError_guardEntry : (s.raiseLinkError e).guardEntry = s.guardEntry := rfl
@[simp] theorem raiseLinkError_nextGate : (s.raiseLinkError e).nextGate = s.nextGate := rfl
@[simp] theorem raiseLinkError_nextSurvey : (s.raiseLinkError e).nextSurvey = s.nextSurvey := rfl
@[simp] theorem raiseLinkError_limits : (s.raiseLinkError e).limits = s.limits := rfl
@[simp] theorem raiseLinkError_segments : (s.raiseLinkError e).segments = s.segments := rfl
@[simp] theorem raiseLinkError_gates : (s.raiseLinkError e).gates = s.gates := rfl
@[simp] theorem raiseLinkError_lines : (s.raiseLinkError e).lines = s.lines := rfl
@[simp] theorem raiseLinkError_startQueue : (s.raiseLinkError e).startQueue = s.startQueue := rfl
@[simp] theorem raiseLinkError_startList : (s.raiseLinkError e).startList = s.startList := rfl
@[simp] theorem raiseLinkError_fanFeedback : (s.raiseLinkError e).fanFeedback = s.fanFeedback := rfl
@[simp] theorem raiseLinkError_channels : (s.raiseLinkError e).channels = s.channels := rfl
@[simp] theorem raiseLinkError_airflows : (s.raiseLinkError e).airflows = s.airflows := rfl
@[simp] theorem raiseLinkError_temps : (s.raiseLinkError e).temps = s.temps := rfl
@[simp] theorem raiseLinkError_slots : (s.raiseLinkError e).slots = s.slots := rfl
@[simp] theorem raiseLinkError_nextSeq : (s.raiseLinkError e).nextSeq = s.nextSeq := rfl
@[simp] theorem raiseLinkError_stations : (s.raiseLinkError e).stations = s.stations := rfl
@[simp] theorem raiseLinkError_freeUnits : (s.raiseLinkError e).freeUnits = s.freeUnits := rfl
@[simp] theorem raiseLinkError_zones : (s.raiseLinkError e).zones = s.zones := rfl
@[simp] theorem raiseLinkError_shutters : (s.raiseLinkError e).shutters = s.shutters := rfl
@[simp] theorem raiseLinkError_sirens : (s.raiseLinkError e).sirens = s.sirens := rfl
@[simp] theorem raiseLinkError_link : (s.raiseLinkError e).link = s.link := rfl
@[simp] theorem raiseLinkError_pending : (s.raiseLinkError e).pending = s.pending := rfl
end

/-! ## Replies -/

section
variable (s : State) (r : Reply)
@[simp] theorem replyWith_now : (s.replyWith r).now = s.now := rfl
@[simp] theorem replyWith_resetLow : (s.replyWith r).resetLow = s.resetLow := rfl
@[simp] theorem replyWith_mode : (s.replyWith r).mode = s.mode := rfl
@[simp] theorem replyWith_walkEnd : (s.replyWith r).walkEnd = s.walkEnd := rfl
@[simp] theorem replyWith_result : (s.replyWith r).result = s.result := rfl
@[simp] theorem replyWith_guardEntry : (s.replyWith r).guardEntry = s.guardEntry := rfl
@[simp] theorem replyWith_nextGate : (s.replyWith r).nextGate = s.nextGate := rfl
@[simp] theorem replyWith_nextSurvey : (s.replyWith r).nextSurvey = s.nextSurvey := rfl
@[simp] theorem replyWith_limits : (s.replyWith r).limits = s.limits := rfl
@[simp] theorem replyWith_segments : (s.replyWith r).segments = s.segments := rfl
@[simp] theorem replyWith_gates : (s.replyWith r).gates = s.gates := rfl
@[simp] theorem replyWith_lines : (s.replyWith r).lines = s.lines := rfl
@[simp] theorem replyWith_startQueue : (s.replyWith r).startQueue = s.startQueue := rfl
@[simp] theorem replyWith_startList : (s.replyWith r).startList = s.startList := rfl
@[simp] theorem replyWith_fanFeedback : (s.replyWith r).fanFeedback = s.fanFeedback := rfl
@[simp] theorem replyWith_channels : (s.replyWith r).channels = s.channels := rfl
@[simp] theorem replyWith_airflows : (s.replyWith r).airflows = s.airflows := rfl
@[simp] theorem replyWith_temps : (s.replyWith r).temps = s.temps := rfl
@[simp] theorem replyWith_slots : (s.replyWith r).slots = s.slots := rfl
@[simp] theorem replyWith_nextSeq : (s.replyWith r).nextSeq = s.nextSeq := rfl
@[simp] theorem replyWith_stations : (s.replyWith r).stations = s.stations := rfl
@[simp] theorem replyWith_freeUnits : (s.replyWith r).freeUnits = s.freeUnits := rfl
@[simp] theorem replyWith_zones : (s.replyWith r).zones = s.zones := rfl
@[simp] theorem replyWith_shutters : (s.replyWith r).shutters = s.shutters := rfl
@[simp] theorem replyWith_sirens : (s.replyWith r).sirens = s.sirens := rfl
@[simp] theorem replyWith_notices : (s.replyWith r).notices = s.notices := rfl
@[simp] theorem replyWith_link : (s.replyWith r).link = { s.link with reply := r.bytes, fill := 0x00 } := rfl
@[simp] theorem replyWith_pending : (s.replyWith r).pending = s.pending := rfl
end

section
variable (s : State) (b : Byte)
@[simp] theorem driveOnly_now : (s.driveOnly b).now = s.now := rfl
@[simp] theorem driveOnly_resetLow : (s.driveOnly b).resetLow = s.resetLow := rfl
@[simp] theorem driveOnly_mode : (s.driveOnly b).mode = s.mode := rfl
@[simp] theorem driveOnly_walkEnd : (s.driveOnly b).walkEnd = s.walkEnd := rfl
@[simp] theorem driveOnly_result : (s.driveOnly b).result = s.result := rfl
@[simp] theorem driveOnly_guardEntry : (s.driveOnly b).guardEntry = s.guardEntry := rfl
@[simp] theorem driveOnly_nextGate : (s.driveOnly b).nextGate = s.nextGate := rfl
@[simp] theorem driveOnly_nextSurvey : (s.driveOnly b).nextSurvey = s.nextSurvey := rfl
@[simp] theorem driveOnly_limits : (s.driveOnly b).limits = s.limits := rfl
@[simp] theorem driveOnly_segments : (s.driveOnly b).segments = s.segments := rfl
@[simp] theorem driveOnly_gates : (s.driveOnly b).gates = s.gates := rfl
@[simp] theorem driveOnly_lines : (s.driveOnly b).lines = s.lines := rfl
@[simp] theorem driveOnly_startQueue : (s.driveOnly b).startQueue = s.startQueue := rfl
@[simp] theorem driveOnly_startList : (s.driveOnly b).startList = s.startList := rfl
@[simp] theorem driveOnly_fanFeedback : (s.driveOnly b).fanFeedback = s.fanFeedback := rfl
@[simp] theorem driveOnly_channels : (s.driveOnly b).channels = s.channels := rfl
@[simp] theorem driveOnly_airflows : (s.driveOnly b).airflows = s.airflows := rfl
@[simp] theorem driveOnly_temps : (s.driveOnly b).temps = s.temps := rfl
@[simp] theorem driveOnly_slots : (s.driveOnly b).slots = s.slots := rfl
@[simp] theorem driveOnly_nextSeq : (s.driveOnly b).nextSeq = s.nextSeq := rfl
@[simp] theorem driveOnly_stations : (s.driveOnly b).stations = s.stations := rfl
@[simp] theorem driveOnly_freeUnits : (s.driveOnly b).freeUnits = s.freeUnits := rfl
@[simp] theorem driveOnly_zones : (s.driveOnly b).zones = s.zones := rfl
@[simp] theorem driveOnly_shutters : (s.driveOnly b).shutters = s.shutters := rfl
@[simp] theorem driveOnly_sirens : (s.driveOnly b).sirens = s.sirens := rfl
@[simp] theorem driveOnly_notices : (s.driveOnly b).notices = s.notices := rfl
@[simp] theorem driveOnly_link : (s.driveOnly b).link = { s.link with reply := [], fill := b } := rfl
@[simp] theorem driveOnly_pending : (s.driveOnly b).pending = s.pending := rfl
end

/-! ## Events in progress -/

@[simp] theorem mod_st (w : Work) (f : State → State) : (w.mod f).st = f w.st := rfl
@[simp] theorem mod_out (w : Work) (f : State → State) : (w.mod f).out = w.out := rfl
@[simp] theorem begin_st (s : State) : s.begin.st = s := rfl
@[simp] theorem begin_out (s : State) : s.begin.out = [] := rfl
@[simp] theorem push_st (w : Work) (d : Delivery) : (w.push d).st = w.st := by
  unfold Work.push
  split <;> rfl
theorem push_out (w : Work) (d : Delivery) :
    (w.push d).out = if d.once && w.out.contains d then w.out else w.out ++ [d] := by
  unfold Work.push
  split <;> rfl

end Sys2Proof.Laws
end

