-- ==== Sys2Proof/Laws/Steps.lean ====
section
/-! SUPPORT. Everything the deliveries of one event can do to the state, said once: each is a chain of the small steps
listed here. A proof that something holds after `Work.finish` checks it for each small step and never unfolds a delivery. -/
namespace Sys2Proof.Laws
open Sys2Proof.Machine

/-! ## What a small step may do to one record -/

/-- A track as a delivery may leave it: its birth fields, plan base, class, HOLD and note stand, the covered flag is not cleared,
an escape and a stall stand, one that becomes STALLED has its stalled-since set, and the coverage counters do not fall below
what they can hold. -/
structure TrackStep (t u : Track) : Prop where
  seq : u.seq = t.seq
  birthTick : u.birthTick = t.birthTick
  base : u.base = t.base
  origin : u.origin = t.origin
  glow : u.glow = t.glow
  intensity : u.intensity = t.intensity
  survived : u.survived = t.survived
  injected : u.injected = t.injected
  hold : u.hold = t.hold
  note : u.note = t.note
  covered : t.covered = true → u.covered = true
  escaped : t.state = .escaped → u.state = .escaped ∧ u.escapeReason = t.escapeReason
  spent : t.state = .spent → u.state = .spent
  stalled : t.state = .stalled → u.state = .stalled
  stalls : t.state ≠ .stalled → u.state = .stalled → u.stalledSince.isSome = true
  since : t.stalledSince.isSome = true → u.stalledSince = t.stalledSince
  coveredCount : min 255 t.stationsCovered ≤ u.stationsCovered
  uncoveredCount : min 255 t.stationsUncovered ≤ u.stationsUncovered
  diverted : t.diverted = true → u.diverted = true

/-- A station as a delivery may leave it without a grant or a return of units: its loaded fields, order, reason, debt,
accumulation and input stand, and it neither enters nor leaves RELEASING, LOCKED or FAULT. -/
structure StationStep (q r : Station) : Prop where
  inUse : r.inUse = q.inUse
  draw : r.draw = q.draw
  lead : r.lead = q.lead
  holdSpark : r.holdSpark = q.holdSpark
  holdEmber : r.holdEmber = q.holdEmber
  confirmTime : r.confirmTime = q.confirmTime
  maxRelease : r.maxRelease = q.maxRelease
  purgeTime : r.purgeTime = q.purgeTime
  link : r.link = q.link
  flood : r.flood = q.flood
  manual : r.manual = q.manual
  faultReason : r.faultReason = q.faultReason
  debt : r.debt = q.debt
  accumulation : r.accumulation = q.accumulation
  pressure : r.pressure = q.pressure
  releasing : r.state = .releasing ↔ q.state = .releasing
  locked : r.state = .locked ↔ q.state = .locked
  fault : r.state = .fault ↔ q.state = .fault
  room : q.served.length ≤ Config.servedRoom → r.served.length ≤ Config.servedRoom

/-- A gate as a delivery may leave it: its loaded fields, limits and reason stand, FAULT is neither entered nor left,
ABORT is not left, and TO_ABORT leads to ABORT only. -/
structure GateStep (g h : Gate) : Prop where
  inUse : h.inUse = g.inUse
  owner : h.owner = g.owner
  normalOut : h.normalOut = g.normalOut
  abortOut : h.abortOut = g.abortOut
  stroke : h.stroke = g.stroke
  onShutdown : h.onShutdown = g.onShutdown
  normalLimit : h.normalLimit = g.normalLimit
  abortLimit : h.abortLimit = g.abortLimit
  faultReason : h.faultReason = g.faultReason
  fault : h.state = .fault ↔ g.state = .fault
  abort : g.state = .abort → h.state = .abort
  toAbort : g.state = .toAbort → h.state = .toAbort ∨ h.state = .abort

/-- A quiet step: it touches tracks, memberships, levels, served lists and notices, and moves no station, gate, line,
shutter or siren. -/
inductive Quiet : State → State → Prop
  /-- a notice is raised -/
  | raise (s : State) (n : Notice) : Quiet s (s.raise n)
  /-- a track changes in its slot; it enters a stall only where its air stands still -/
  | track (s : State) (i : SlotId) (f : Track → Track) (h : ∀ t, s.track? i = some t → TrackStep t (f t))
      (c : ∀ t, s.track? i = some t → t.stalledSince = none → (f t).stalledSince = none ∨ s.segStalled t.current = true) :
      Quiet s (s.updTrack i f)
  /-- a membership moves, and the levels of its zones follow -/
  | member (s : State) (old new : Option Membership) : Quiet s (s.begin.memberMove old new).st
  /-- a station's served list changes -/
  | served (s : State) (x : StationId) (l : List Served)
      (h : s.stations[x].served.length ≤ Config.servedRoom → l.length ≤ Config.servedRoom) :
      Quiet s (s.updStation x fun q => { q with served := l })

/-- One small step. -/
inductive Step : State → State → Prop
  /-- a quiet step -/
  | quiet {s t : State} (h : Quiet s t) : Step s t
  /-- a station changes and keeps its units -/
  | station (s : State) (x : StationId) (f : Station → Station) (h : StationStep s.stations[x] (f s.stations[x])) :
      Step s (s.updStation x f)
  /-- a releasing station returns its units -/
  | release (s : State) (x : StationId) (dest : StationState) (hm : s.mode = .guarded)
      (h : s.stations[x].state = .releasing) (ht : dest = .idle ∨ dest = .suspended) : Step s (s.returnUnits x dest)
  /-- a waiting station is granted units that are free -/
  | grant (s : State) (x : StationId) (hm : s.mode = .guarded) (hw : s.stations[x].waits = true)
      (hd : s.drawOf x ≤ s.freeUnits) :
      Step s (s.grant x)
  /-- a gate changes -/
  | gate (s : State) (g : GateId) (f : Gate → Gate) (h : GateStep s.gates[g] (f s.gates[g])) : Step s (s.updGate g f)
  /-- a running line runs down -/
  | coast (s : State) (l : LineId) (c : StopCause) (hu : s.lines[l].inUse = true)
      (h : s.lines[l].state = .running ∨ s.lines[l].state = .starting) :
      Step s (s.lineTo l fun q => q.coast c s.now)
  /-- a waiting line leaves the start queue -/
  | unqueue (s : State) (l : LineId) (c : StopCause) (hu : s.lines[l].inUse = true)
      (h : s.lines[l].state = .startWait) :
      Step s ({ s with startQueue := s.startQueue.erase l }.lineTo l fun q => { q with cause := c }.halt)
  /-- a cause reaches a line that is down -/
  | cold (s : State) (l : LineId) (c : StopCause) (hu : s.lines[l].inUse = true)
      (h : s.lines[l].state = .stopping ∨ s.lines[l].state = .stopped) :
      Step s (s.lineTo l fun q => q.coldCause c)
  /-- the head of the start queue starts within the budget -/
  | start (s : State) (l : LineId) (rest : List LineId) (hm : s.mode = .guarded) (h : s.startQueue = l :: rest)
      (hb : s.recentStarts.length < s.limits.budget) : Step s (s.startLine l)
  /-- demand closes a shutter -/
  | close (s : State) (i : ShutterId) (hd : s.shutterDemand s.shutters[i] = true)
      (h : s.shutters[i].state = .opened ∨ s.shutters[i].state = .opening) :
      Step s (s.moveShutter i fun q => q.toClosing s.now)
  /-- a fire drops a shutter -/
  | drop (s : State) (i : ShutterId) (h : s.shutters[i].state = .opened ∨ s.shutters[i].state = .opening ∨
      s.shutters[i].state = .closing ∨ s.shutters[i].state = .paused) :
      Step s (s.moveShutter i fun q => q.toDropping s.now)
  /-- the sirens of a zone see its level -/
  | sirens (s : State) (z : ZoneId) : Step s (s.sirensSee z)

/-- Any number of steps of a kind. -/
inductive Chain (R : State → State → Prop) : State → State → Prop
  | refl (s : State) : Chain R s s
  | tail {s t u : State} (h : Chain R s t) (k : R t u) : Chain R s u

/-- Any number of quiet steps. -/
abbrev Quiets := Chain Quiet
/-- Any number of small steps. -/
abbrev Steps := Chain Step

theorem Chain.one {R : State → State → Prop} {s t : State} (h : R s t) : Chain R s t := .tail (.refl s) h

theorem Chain.trans {R : State → State → Prop} {s t u : State} (h : Chain R s t) (k : Chain R t u) : Chain R s u := by
  induction k with
  | refl => exact h
  | tail _ k ih => exact .tail ih k

/-- Quiet steps are small steps. -/
theorem Chain.loud {s t : State} (h : Quiets s t) : Steps s t := by
  induction h with
  | refl => exact .refl _
  | tail _ k ih => exact .tail ih (.quiet k)

/-- Anything that every step of a kind keeps is kept by any number of them. -/
theorem Chain.keeps {R K : State → State → Prop} (refl : ∀ s, K s s) (trans : ∀ s t u, K s t → K t u → K s u)
    (step : ∀ s t, R s t → K s t) {s t : State} (h : Chain R s t) : K s t := by
  induction h with
  | refl => exact refl _
  | tail _ k ih => exact trans _ _ _ ih (step _ _ k)

/-- A property of one state that every step of a kind keeps is kept by any number of them. -/
theorem Chain.holds {R : State → State → Prop} {P : State → Prop} (step : ∀ s t, R s t → P s → P t) {s t : State}
    (h : Chain R s t) (p : P s) : P t := by
  induction h with
  | refl => exact p
  | tail _ k ih => exact step _ _ k ih

/-- A fold of operations that are all chains of a kind is one. -/
theorem foldl_chain {R : State → State → Prop} {α : Type} (f : Work → α → Work) (l : List α)
    (h : ∀ w a, Chain R w.st (f w a).st) (w : Work) : Chain R w.st (l.foldl f w).st := by
  induction l generalizing w with
  | nil => exact .refl _
  | cons a l ih => exact (h w a).trans (ih (f w a))

/-- The same for a fold over states. -/
theorem foldl_state_chain {R : State → State → Prop} {α : Type} (f : State → α → State) (l : List α)
    (h : ∀ s a, Chain R s (f s a)) (s : State) : Chain R s (l.foldl f s) := by
  induction l generalizing s with
  | nil => exact .refl _
  | cons a l ih => exact (h s a).trans (ih (f s a))

end Sys2Proof.Laws
end

