-- ==== Sys2Proof/Laws/Kept.lean ====
section
/-! SUPPORT. What no delivery changes: the frame of the small steps of Sys2Proof/Laws/Steps.lean, for every record of the
part. -/
namespace Sys2Proof.Laws
open Sys2Proof.Machine

/-! ## Records -/

/-- What deliveries keep of a station: its loaded fields, debt, accumulation and input; an order and a reason too. -/
structure StationKept (q r : Station) : Prop where
  inUse : r.inUse = q.inUse
  draw : r.draw = q.draw
  lead : r.lead = q.lead
  holdSpark : r.holdSpark = q.holdSpark
  holdEmber : r.holdEmber = q.holdEmber
  confirmTime : r.confirmTime = q.confirmTime
  maxRelease : r.maxRelease = q.maxRelease
  purgeTime : r.purgeTime = q.purgeTime
  link : r.link = q.link
  flood : r.flood = q.flood
  manual : r.manual = q.manual
  faultReason : r.faultReason = q.faultReason
  debt : r.debt = q.debt
  accumulation : r.accumulation = q.accumulation
  pressure : r.pressure = q.pressure
  locked : r.state = .locked ↔ q.state = .locked
  fault : r.state = .fault ↔ q.state = .fault

/-- What deliveries keep of a line: its loaded fields, zone set and burst list. -/
structure LineKept (a b : Line) : Prop where
  inUse : b.inUse = a.inUse
  firstFan : b.firstFan = a.firstFan
  secondFan : b.secondFan = a.secondFan
  runUp : b.runUp = a.runUp
  runDown : b.runDown = a.runDown
  burstCount : b.burstCount = a.burstCount
  burstWindow : b.burstWindow = a.burstWindow
  zones : b.zones = a.zones
  burst : b.burst = a.burst

/-- What deliveries keep of a zone: its instant causes, its call point and its SENSOR flag; the latched level does not
fall. -/
structure ZoneKept (a b : Zone) : Prop where
  burst : b.burst = a.burst
  tableFull : b.tableFull = a.tableFull
  linkCall : b.linkCall = a.linkCall
  callActive : b.callActive = a.callActive
  callRaw : b.callRaw = a.callRaw
  callChanged : b.callChanged = a.callChanged
  latched : a.latched.val ≤ b.latched.val
  acknowledged : b.acknowledged = true → a.acknowledged = true
  sensor : b.faults.getLsbD 4 = a.faults.getLsbD 4

/-- What deliveries keep of a shutter: its loaded fields, permit, inputs, reason and a FAULT or a CLOSED state. -/
structure ShutterKept (a b : Shutter) : Prop where
  sideA : b.sideA = a.sideA
  sideB : b.sideB = a.sideB
  closeLevel : b.closeLevel = a.closeLevel
  timeout : b.timeout = a.timeout
  granted : b.granted = a.granted
  openLimit : b.openLimit = a.openLimit
  closedLimit : b.closedLimit = a.closedLimit
  obstructed : b.obstructed = a.obstructed
  faultReason : b.faultReason = a.faultReason
  still : a.state = .closed ∨ a.state = .fault ∨ a.state = .dropping → b = a

/-- What deliveries keep of a siren: its loaded fields and its count of groups. -/
structure SirenKept (a b : Siren) : Prop where
  zones : b.zones = a.zones
  link : b.link = a.link
  derateAt : b.derateAt = a.derateAt
  watch : b.watch = a.watch
  alarm : b.alarm = a.alarm
  fire : b.fire = a.fire
  groupsSounded : b.groupsSounded = a.groupsSounded

/-- What deliveries keep of a slot. -/
structure SlotKept (a b : Slot) : Prop where
  gen : b.gen = a.gen
  live : b.track.isSome = a.track.isSome
  track : ∀ t u, a.track = some t → b.track = some u → TrackStep t u

/-- What deliveries keep of the Notice Unit: only flags are set. -/
structure NoticesKept (a b : Notices) : Prop where
  flags : a.flags ||| b.flags = b.flags
  mask : b.mask = a.mask
  lastError : b.lastError = a.lastError
  parity : b.parity = a.parity
  crc : b.crc = a.crc
  short : b.short = a.short

/-! ## The part -/

/-- What deliveries keep of the part. -/
structure Kept (s t : State) : Prop where
  now : t.now = s.now
  resetLow : t.resetLow = s.resetLow
  mode : t.mode = s.mode
  walkEnd : t.walkEnd = s.walkEnd
  result : t.result = s.result
  guardEntry : t.guardEntry = s.guardEntry
  nextGate : t.nextGate = s.nextGate
  nextSurvey : t.nextSurvey = s.nextSurvey
  limits : t.limits = s.limits
  segments : t.segments = s.segments
  fanFeedback : t.fanFeedback = s.fanFeedback
  channels : t.channels = s.channels
  airflows : t.airflows = s.airflows
  temps : t.temps = s.temps
  nextSeq : t.nextSeq = s.nextSeq
  link : t.link = s.link
  pending : t.pending = s.pending
  gates : ∀ g : GateId, GateStep s.gates[g] t.gates[g]
  lines : ∀ l : LineId, LineKept s.lines[l] t.lines[l]
  slots : ∀ i : SlotId, SlotKept s.slots[i] t.slots[i]
  stations : ∀ x : StationId, StationKept s.stations[x] t.stations[x]
  zones : ∀ z : ZoneId, ZoneKept s.zones[z] t.zones[z]
  shutters : ∀ i : ShutterId, ShutterKept s.shutters[i] t.shutters[i]
  sirens : ∀ i : SirenId, SirenKept s.sirens[i] t.sirens[i]
  notices : NoticesKept s.notices t.notices

/-! ## Keeping is reflexive and transitive -/

theorem TrackStep.same (t : Track) : TrackStep t t := by constructor <;> simp_all
theorem StationStep.same (q : Station) : StationStep q q := by constructor <;> simp
theorem GateStep.same (g : Gate) : GateStep g g := by constructor <;> simp_all
theorem StationKept.same (q : Station) : StationKept q q := by constructor <;> simp
theorem LineKept.same (q : Line) : LineKept q q := by constructor <;> rfl
theorem ZoneKept.same (q : Zone) : ZoneKept q q := by constructor <;> simp
theorem ShutterKept.same (q : Shutter) : ShutterKept q q := by constructor <;> simp
theorem SirenKept.same (q : Siren) : SirenKept q q := by constructor <;> rfl
theorem SlotKept.same (q : Slot) : SlotKept q q := by
  constructor
  · rfl
  · rfl
  · intro t u h k
    rw [h] at k; cases k
    exact .same _
theorem NoticesKept.same (n : Notices) : NoticesKept n n := by constructor <;> simp

theorem TrackStep.trans {a b c : Track} (h : TrackStep a b) (k : TrackStep b c) : TrackStep a c := by
  constructor
  case covered => exact fun e => k.covered (h.covered e)
  case escaped => exact fun e => ⟨(k.escaped (h.escaped e).1).1, ((k.escaped (h.escaped e).1).2).trans (h.escaped e).2⟩
  case spent => exact fun e => k.spent (h.spent e)
  case stalled => exact fun e => k.stalled (h.stalled e)
  case since => exact fun e => (k.since (by rw [h.since e]; exact e)).trans (h.since e)
  case coveredCount => have := h.coveredCount; have := k.coveredCount; omega
  case uncoveredCount => have := h.uncoveredCount; have := k.uncoveredCount; omega
  case stalls =>
    intro e e'
    by_cases hb : b.state = .stalled
    · have hs := h.stalls e hb
      rw [k.since hs]; exact hs
    · exact k.stalls hb e'
  case diverted => exact fun e => k.diverted (h.diverted e)
  · exact k.seq.trans h.seq
  · exact k.birthTick.trans h.birthTick
  · exact k.base.trans h.base
  · exact k.origin.trans h.origin
  · exact k.glow.trans h.glow
  · exact k.intensity.trans h.intensity
  · exact k.survived.trans h.survived
  · exact k.injected.trans h.injected
  · exact k.hold.trans h.hold
  · exact k.note.trans h.note

theorem GateStep.trans {a b c : Gate} (h : GateStep a b) (k : GateStep b c) : GateStep a c where
  inUse := k.inUse.trans h.inUse
  owner := k.owner.trans h.owner
  normalOut := k.normalOut.trans h.normalOut
  abortOut := k.abortOut.trans h.abortOut
  stroke := k.stroke.trans h.stroke
  onShutdown := k.onShutdown.trans h.onShutdown
  normalLimit := k.normalLimit.trans h.normalLimit
  abortLimit := k.abortLimit.trans h.abortLimit
  faultReason := k.faultReason.trans h.faultReason
  fault := k.fault.trans h.fault
  abort := fun e => k.abort (h.abort e)
  toAbort := fun e => (h.toAbort e).elim k.toAbort fun e => .inr (k.abort e)

theorem StationKept.trans {a b c : Station} (h : StationKept a b) (k : StationKept b c) : StationKept a c where
  inUse := k.inUse.trans h.inUse
  draw := k.draw.trans h.draw
  lead := k.lead.trans h.lead
  holdSpark := k.holdSpark.trans h.holdSpark
  holdEmber := k.holdEmber.trans h.holdEmber
  confirmTime := k.confirmTime.trans h.confirmTime
  maxRelease := k.maxRelease.trans h.maxRelease
  purgeTime := k.purgeTime.trans h.purgeTime
  link := k.link.trans h.link
  flood := k.flood.trans h.flood
  manual := k.manual.trans h.manual
  faultReason := k.faultReason.trans h.faultReason
  debt := k.debt.trans h.debt
  accumulation := k.accumulation.trans h.accumulation
  pressure := k.pressure.trans h.pressure
  locked := k.locked.trans h.locked
  fault := k.fault.trans h.fault

theorem LineKept.trans {a b c : Line} (h : LineKept a b) (k : LineKept b c) : LineKept a c where
  inUse := k.inUse.trans h.inUse
  firstFan := k.firstFan.trans h.firstFan
  secondFan := k.secondFan.trans h.secondFan
  runUp := k.runUp.trans h.runUp
  runDown := k.runDown.trans h.runDown
  burstCount := k.burstCount.trans h.burstCount
  burstWindow := k.burstWindow.trans h.burstWindow
  zones := k.zones.trans h.zones
  burst := k.burst.trans h.burst

theorem ZoneKept.trans {a b c : Zone} (h : ZoneKept a b) (k : ZoneKept b c) : ZoneKept a c where
  burst := k.burst.trans h.burst
  tableFull := k.tableFull.trans h.tableFull
  linkCall := k.linkCall.trans h.linkCall
  callActive := k.callActive.trans h.callActive
  callRaw := k.callRaw.trans h.callRaw
  callChanged := k.callChanged.trans h.callChanged
  latched := Nat.le_trans h.latched k.latched
  acknowledged := fun e => h.acknowledged (k.acknowledged e)
  sensor := k.sensor.trans h.sensor

theorem ShutterKept.trans {a b c : Shutter} (h : ShutterKept a b) (k : ShutterKept b c) : ShutterKept a c where
  sideA := k.sideA.trans h.sideA
  sideB := k.sideB.trans h.sideB
  closeLevel := k.closeLevel.trans h.closeLevel
  timeout := k.timeout.trans h.timeout
  granted := k.granted.trans h.granted
  openLimit := k.openLimit.trans h.openLimit
  closedLimit := k.closedLimit.trans h.closedLimit
  obstructed := k.obstructed.trans h.obstructed
  faultReason := k.faultReason.trans h.faultReason
  still := fun e => by
    have hb := h.still e
    subst hb
    exact k.still e

theorem SirenKept.trans {a b c : Siren} (h : SirenKept a b) (k : SirenKept b c) : SirenKept a c where
  zones := k.zones.trans h.zones
  link := k.link.trans h.link
  derateAt := k.derateAt.trans h.derateAt
  watch := k.watch.trans h.watch
  alarm := k.alarm.trans h.alarm
  fire := k.fire.trans h.fire
  groupsSounded := k.groupsSounded.trans h.groupsSounded

theorem SlotKept.trans {a b c : Slot} (h : SlotKept a b) (k : SlotKept b c) : SlotKept a c where
  gen := k.gen.trans h.gen
  live := k.live.trans h.live
  track := fun t u ht hu => by
    have hb : b.track.isSome := by rw [h.live, ht]; rfl
    obtain ⟨v, hv⟩ := Option.isSome_iff_exists.mp hb
    exact (h.track t v ht hv).trans (k.track v u hv hu)

theorem NoticesKept.trans {a b c : Notices} (h : NoticesKept a b) (k : NoticesKept b c) : NoticesKept a c where
  flags := by
    rw [← k.flags, ← h.flags, ← BitVec.or_assoc, ← BitVec.or_assoc, BitVec.or_self]
  mask := k.mask.trans h.mask
  lastError := k.lastError.trans h.lastError
  parity := k.parity.trans h.parity
  crc := k.crc.trans h.crc
  short := k.short.trans h.short

theorem Kept.same (s : State) : Kept s s := by
  constructor
  case gates => exact fun _ => .same _
  case lines => exact fun _ => .same _
  case slots => exact fun _ => .same _
  case stations => exact fun _ => .same _
  case zones => exact fun _ => .same _
  case shutters => exact fun _ => .same _
  case sirens => exact fun _ => .same _
  case notices => exact .same _
  all_goals rfl

theorem Kept.trans {a b c : State} (h : Kept a b) (k : Kept b c) : Kept a c where
  now := k.now.trans h.now
  resetLow := k.resetLow.trans h.resetLow
  mode := k.mode.trans h.mode
  walkEnd := k.walkEnd.trans h.walkEnd
  result := k.result.trans h.result
  guardEntry := k.guardEntry.trans h.guardEntry
  nextGate := k.nextGate.trans h.nextGate
  nextSurvey := k.nextSurvey.trans h.nextSurvey
  limits := k.limits.trans h.limits
  segments := k.segments.trans h.segments
  fanFeedback := k.fanFeedback.trans h.fanFeedback
  channels := k.channels.trans h.channels
  airflows := k.airflows.trans h.airflows
  temps := k.temps.trans h.temps
  nextSeq := k.nextSeq.trans h.nextSeq
  link := k.link.trans h.link
  pending := k.pending.trans h.pending
  gates := fun g => (h.gates g).trans (k.gates g)
  lines := fun g => (h.lines g).trans (k.lines g)
  slots := fun g => (h.slots g).trans (k.slots g)
  stations := fun g => (h.stations g).trans (k.stations g)
  zones := fun g => (h.zones g).trans (k.zones g)
  shutters := fun g => (h.shutters g).trans (k.shutters g)
  sirens := fun g => (h.sirens g).trans (k.sirens g)
  notices := h.notices.trans k.notices

/-! ## The updates that deliveries make -/

theorem updGate_kept (s : State) (i : GateId) (f : Gate → Gate) (h : GateStep s.gates[i] (f s.gates[i])) :
    Kept s (s.updGate i f) := by
  refine { Kept.same s with gates := ?_ }
  intro j
  by_cases e : j = i
  · subst e; simpa using h
  · have e' : j.val ≠ i.val := fun k => e (Fin.ext k)
    simpa [e'] using GateStep.same s.gates[j]

theorem updLine_kept (s : State) (i : LineId) (f : Line → Line) (h : LineKept s.lines[i] (f s.lines[i])) :
    Kept s (s.updLine i f) := by
  refine { Kept.same s with lines := ?_ }
  intro j
  by_cases e : j = i
  · subst e; simpa using h
  · have e' : j.val ≠ i.val := fun k => e (Fin.ext k)
    simpa [e'] using LineKept.same s.lines[j]

theorem updSlot_kept (s : State) (i : SlotId) (f : Slot → Slot) (h : SlotKept s.slots[i] (f s.slots[i])) :
    Kept s (s.updSlot i f) := by
  refine { Kept.same s with slots := ?_ }
  intro j
  by_cases e : j = i
  · subst e; simpa using h
  · have e' : j.val ≠ i.val := fun k => e (Fin.ext k)
    simpa [e'] using SlotKept.same s.slots[j]

theorem updStation_kept (s : State) (i : StationId) (f : Station → Station) (h : StationKept s.stations[i] (f s.stations[i])) :
    Kept s (s.updStation i f) := by
  refine { Kept.same s with stations := ?_ }
  intro j
  by_cases e : j = i
  · subst e; simpa using h
  · have e' : j.val ≠ i.val := fun k => e (Fin.ext k)
    simpa [e'] using StationKept.same s.stations[j]

theorem updZone_kept (s : State) (i : ZoneId) (f : Zone → Zone) (h : ZoneKept s.zones[i] (f s.zones[i])) :
    Kept s (s.updZone i f) := by
  refine { Kept.same s with zones := ?_ }
  intro j
  by_cases e : j = i
  · subst e; simpa using h
  · have e' : j.val ≠ i.val := fun k => e (Fin.ext k)
    simpa [e'] using ZoneKept.same s.zones[j]

theorem updShutter_kept (s : State) (i : ShutterId) (f : Shutter → Shutter) (h : ShutterKept s.shutters[i] (f s.shutters[i])) :
    Kept s (s.updShutter i f) := by
  refine { Kept.same s with shutters := ?_ }
  intro j
  by_cases e : j = i
  · subst e; simpa using h
  · have e' : j.val ≠ i.val := fun k => e (Fin.ext k)
    simpa [e'] using ShutterKept.same s.shutters[j]

theorem raise_kept (s : State) (n : Notice) : Kept s (s.raise n) := by
  refine { Kept.same s with notices := ?_ }
  constructor
  case flags => exact (BitVec.or_assoc _ _ _).symm.trans (by rw [BitVec.or_self]; rfl)
  all_goals rfl

theorem Level.sup_ge (a b : Level) : a.val ≤ (a.sup b).val := by
  unfold Level.sup Level.atLeast
  split
  · exact Nat.le_refl _
  · rename_i h
    simp at h
    omega

theorem latch_kept (z : Zone) (l : Level) : ZoneKept z (z.latch l) := by
  constructor
  case latched => exact Level.sup_ge _ _
  all_goals simp [Zone.latch]

theorem recompute_kept (w : Work) (z : ZoneId) : Kept w.st (w.recompute z).st := by
  unfold Work.recompute
  dsimp only
  split
  · exact .same _
  · simp only [push_st, mod_st]
    refine (updZone_kept _ _ _ ?_).trans (raise_kept _ _)
    constructor <;> simp

theorem memberMove_kept (w : Work) (old new : Option Membership) : Kept w.st (w.memberMove old new).st := by
  have leave : ∀ (s : State) (m : Membership), Kept s (s.leave m) := by
    intro s m
    cases m <;> exact updZone_kept _ _ _ (by constructor <;> simp)
  have join : ∀ (s : State) (m : Membership), Kept s (s.join m) := by
    intro s m
    cases m <;> exact updZone_kept _ _ _ (by constructor <;> simp)
  have latch : ∀ (s : State) (z : ZoneId) (l : Level), Kept s (s.updZone z (Zone.latch l)) := by
    intro s z l
    exact updZone_kept _ _ _ (latch_kept _ _)
  have come : ∀ (v : Work) (m : Membership),
      Kept v.st (match some m with
        | some (.escaped z) => (v.mod fun s => s.join m).mod fun s => s.updZone z (Zone.latch .alarm)
        | _ => v.mod fun s => s.join m).st := by
    intro v m
    cases m with
    | live z => exact join v.st (.live z)
    | escaped z => exact (join v.st (.escaped z)).trans (latch _ _ _)
  unfold Work.memberMove
  cases old with
  | none =>
    cases new with
    | none => exact .same _
    | some n => exact (come w n).trans (recompute_kept _ _)
  | some m =>
    have h1 : Kept w.st (w.mod fun s => s.leave m).st := leave _ _
    cases new with
    | none => exact h1.trans (recompute_kept _ _)
    | some n => exact ((h1.trans (come (w.mod fun s => s.leave m) n)).trans (recompute_kept _ _)).trans (recompute_kept _ _)

theorem refreshFault_kept (s : State) (k : FaultKind) (z : ZoneId) (h : k ≠ .sensor) : Kept s (s.refreshFault k z) := by
  unfold State.refreshFault
  dsimp only
  have hb : (if s.faultPresent z k = true then s.zones[z].faults ||| 1#5 <<< k.bit
      else s.zones[z].faults &&& ~~~(1#5 <<< k.bit)).getLsbD 4 = s.zones[z].faults.getLsbD 4 := by
    generalize s.zones[z].faults = v
    cases k <;> first | exact absurd rfl h | (split <;> simp [FaultKind.bit])
  generalize (if s.faultPresent z k = true then s.zones[z].faults ||| 1#5 <<< k.bit
    else s.zones[z].faults &&& ~~~(1#5 <<< k.bit)) = new at hb ⊢
  split
  · exact .same _
  · refine (updZone_kept _ _ _ ?_).trans (raise_kept _ _)
    constructor
    case sensor => exact hb
    all_goals simp

theorem refreshPlaced_kept (s : State) (k : FaultKind) (what : Placed) (h : k ≠ .sensor) :
    Kept s (s.refreshPlaced k what) := by
  unfold State.refreshPlaced
  split
  · exact .same _
  · exact refreshFault_kept _ _ _ h

theorem moveShutter_kept (s : State) (i : ShutterId) (f : Shutter → Shutter)
    (h : ShutterKept s.shutters[i] (f s.shutters[i])) : Kept s (s.moveShutter i f) := by
  unfold State.moveShutter
  dsimp only
  have h1 : Kept s (s.updShutter i fun _ => f s.shutters[i]) := updShutter_kept _ _ _ h
  have h2 : Kept s (if s.shutters[i].entered (f s.shutters[i]) = true
      then (s.updShutter i fun _ => f s.shutters[i]).raise .shutter
      else s.updShutter i fun _ => f s.shutters[i]) := by
    split
    · exact h1.trans (raise_kept _ _)
    · exact h1
  generalize (if s.shutters[i].entered (f s.shutters[i]) = true
      then (s.updShutter i fun _ => f s.shutters[i]).raise .shutter
      else s.updShutter i fun _ => f s.shutters[i]) = t at h2 ⊢
  split
  · exact h2
  · cases (f s.shutters[i]).sideB
    · exact h2.trans (refreshFault_kept _ .shutter _ (by decide))
    · exact (h2.trans (refreshFault_kept _ .shutter _ (by decide))).trans (refreshFault_kept _ .shutter _ (by decide))

theorem lineTo_kept (s : State) (l : LineId) (f : Line → Line) (h : LineKept s.lines[l] (f s.lines[l])) :
    Kept s (s.lineTo l f) := by
  unfold State.lineTo
  dsimp only
  split
  · exact updLine_kept _ _ _ h
  · exact (updLine_kept _ _ _ h).trans (raise_kept _ _)

theorem halt_kept (q : Line) : LineKept q q.halt := by constructor <;> rfl
theorem run_kept (q : Line) : LineKept q q.run := by constructor <;> rfl
theorem coast_kept (q : Line) (c : StopCause) (now : Tick) : LineKept q (q.coast c now) := by
  unfold Line.coast
  dsimp only
  split <;> constructor <;> rfl
theorem coldCause_kept (q : Line) (c : StopCause) : LineKept q (q.coldCause c) := by
  unfold Line.coldCause
  split <;> constructor <;> rfl

theorem checkRunning_kept (s : State) (l : LineId) : Kept s (s.checkRunning l) := by
  unfold State.checkRunning
  split
  · exact lineTo_kept _ _ _ (run_kept _)
  · exact .same _

/-- A change of the start queue and the start list alone. -/
theorem queue_kept (s : State) (q : List LineId) (k : List Tick) : Kept s { s with startQueue := q, startList := k } :=
  { Kept.same s with }

theorem startLine_kept (s : State) (l : LineId) : Kept s (s.startLine l) := by
  unfold State.startLine
  dsimp only
  refine Kept.trans (Kept.trans (queue_kept s _ _) (lineTo_kept _ _ _ ?_)) (checkRunning_kept _ _)
  constructor <;> rfl

theorem released_kept (q : Station) (dest : StationState) (h : q.state = .releasing) (ht : dest = .idle ∨ dest = .suspended) :
    StationKept q (q.released dest) := by
  rcases ht with e | e <;> subst e <;> constructor <;> simp [Station.released, h]

theorem returnUnits_kept (s : State) (x : StationId) (dest : StationState) (h : s.stations[x].state = .releasing)
    (ht : dest = .idle ∨ dest = .suspended) : Kept s (s.returnUnits x dest) :=
  { updStation_kept s x (fun q => q.released dest) (released_kept _ _ h ht) with }

theorem toClosing_kept (h : Shutter) (now : Tick) (k : h.state = .opened ∨ h.state = .opening) :
    ShutterKept h (h.toClosing now) := by
  unfold Shutter.toClosing Shutter.obstruct Shutter.toDropping
  dsimp only
  split
  · split <;> rcases k with k | k <;> constructor <;> simp [k]
  · rcases k with k | k <;> constructor <;> simp [k]

theorem toDropping_kept (h : Shutter) (now : Tick)
    (k : h.state = .opened ∨ h.state = .opening ∨ h.state = .closing ∨ h.state = .paused) :
    ShutterKept h (h.toDropping now) := by
  unfold Shutter.toDropping
  rcases k with k | k | k | k <;> constructor <;> simp [k]

theorem quiet_kept (y : Siren) : SirenKept y y.quiet := by constructor <;> rfl
theorem rise_kept (y : Siren) (c : Level) (d : Bool) (now : Tick) : SirenKept y (y.rise c d now) := by
  unfold Siren.rise
  dsimp only
  split <;> constructor <;> rfl
theorem fall_kept (y : Siren) (c : Level) (now : Tick) : SirenKept y (y.fall c now) := by
  unfold Siren.fall
  dsimp only
  split <;> constructor <;> rfl

theorem judgeClass_kept (y : Siren) (c : Level) (d : Bool) (now : Tick) : SirenKept y (y.judgeClass c d now) := by
  unfold Siren.judgeClass
  split
  · exact rise_kept _ _ _ _
  · split
    · constructor <;> rfl
    · split
      · constructor <;> rfl
      · exact fall_kept _ _ _

theorem changeClass_kept (y : Siren) (c : Level) (d : Bool) (now : Tick) : SirenKept y (y.changeClass c d now) := by
  unfold Siren.changeClass
  have hc : SirenKept y { y with cls := c } := by constructor <;> rfl
  split
  · exact .same _
  · dsimp only
    split
    · exact hc.trans (judgeClass_kept _ _ _ _)
    · split
      · exact (show SirenKept y { y with cls := c, silenced := none } by constructor <;> rfl).trans (rise_kept _ _ _ _)
      · split <;> constructor <;> rfl

theorem sirensSee_kept (s : State) (z : ZoneId) : Kept s (s.sirensSee z) := by
  refine { Kept.same s with sirens := ?_ }
  intro i
  unfold State.sirensSee
  simp only [Fin.getElem_fin, Vector.getElem_ofFn, Fin.eta]
  split
  · exact changeClass_kept _ _ _ _
  · exact .same _

/-! ## Every small step keeps it -/

theorem Quiet.kept {s t : State} (h : Quiet s t) : Kept s t := by
  cases h with
  | raise n => exact raise_kept _ _
  | track i f h c =>
    refine updSlot_kept _ _ _ ?_
    constructor
    · rfl
    · simp
    · intro t u ht hu
      simp only [ht, Option.map_some, Option.some.injEq] at hu
      subst hu
      exact h t ht
  | member old new => exact memberMove_kept s.begin old new
  | served x l h => exact updStation_kept _ _ _ (by constructor <;> simp)

theorem StationStep.kept {q r : Station} (h : StationStep q r) : StationKept q r := { h with }

theorem Step.kept {s t : State} (h : Step s t) : Kept s t := by
  cases h with
  | quiet h => exact h.kept
  | station x f h => exact updStation_kept _ _ _ h.kept
  | release x dest hm h ht => exact returnUnits_kept _ _ _ h ht
  | grant x hm hw hd =>
    unfold State.grant
    have hq : StationKept s.stations[x] { s.stations[x] with
        state := .releasing, releaseStart := some s.now,
        confirm := if s.stations[x].pressure then .confirmed else .waiting s.now,
        cutStart := if s.stations[x].floodDemand then none else some s.now,
        minRunAt := some (s.now + s.minRun) } := by
      revert hw
      generalize s.stations[x] = q
      intro hw
      unfold Station.waits at hw
      constructor <;> simp_all
      · rcases hw with e | e <;> simp [e]
      · rcases hw with e | e <;> simp [e]
    exact { updStation_kept s x _ hq with }
  | gate g f h => exact updGate_kept _ _ _ h
  | coast l c hu h => exact lineTo_kept _ _ _ (coast_kept _ _ _)
  | unqueue l c hu h =>
    refine Kept.trans (queue_kept s _ _) (lineTo_kept _ _ _ ?_)
    constructor <;> rfl
  | cold l c hu h => exact lineTo_kept _ _ _ (coldCause_kept _ _)
  | start l rest hm h hb => exact startLine_kept _ _
  | close i hd h => exact moveShutter_kept _ _ _ (toClosing_kept _ _ h)
  | drop i h => exact moveShutter_kept _ _ _ (toDropping_kept _ _ h)
  | sirens z => exact sirensSee_kept _ _

theorem Quiets.kept {s t : State} (h : Quiets s t) : Kept s t :=
  Chain.keeps Kept.same (fun _ _ _ => Kept.trans) (fun _ _ => Quiet.kept) h

/-- The frame of the deliveries of any event. -/
theorem Steps.kept {s t : State} (h : Steps s t) : Kept s t :=
  Chain.keeps Kept.same (fun _ _ _ => Kept.trans) (fun _ _ => Step.kept) h

end Sys2Proof.Laws
end

