-- ==== Sys2Proof/Laws/Deliveries.lean ====
section
/-! SUPPORT. Each shared operation of an event is made of the small steps of Sys2Proof/Laws/Steps.lean. -/
namespace Sys2Proof.Laws
open Sys2Proof.Machine


/-! ## Levels and membership -/

theorem memberMove_st (w : Work) (old new : Option Membership) :
    (w.memberMove old new).st = (w.st.begin.memberMove old new).st := by
  have r : ∀ (v w : Work) (z : ZoneId), v.st = w.st → (v.recompute z).st = (w.recompute z).st := by
    intro v w z h
    unfold Work.recompute
    dsimp only
    rw [h]
    split <;> simp [h]
  unfold Work.memberMove
  cases old <;> cases new <;> simp only [Option.elim]
  · rfl
  · rename_i m; cases m <;> exact r _ _ _ rfl
  · exact r _ _ _ rfl
  · rename_i m n; cases n <;> exact r _ _ _ (r _ _ _ rfl)

theorem memberMove_steps (w : Work) (old new : Option Membership) : Quiets w.st (w.memberMove old new).st := by
  rw [memberMove_st]; exact .one (.member _ _ _)

/-! ## One track -/

/-- Small steps of a state in progress. -/
theorem mod_steps {R : State → State → Prop} (w : Work) (f : State → State) (h : Chain R w.st (f w.st)) :
    Chain R w.st (w.mod f).st := h

/-- A track changed by a small step that leaves its stall as it is, in a work. -/
theorem track_steps (w : Work) (i : SlotId) (f : Track → Track) (c : ∀ t, (f t).stalledSince = t.stalledSince)
    (h : ∀ t, TrackStep t (f t)) : Quiets w.st (w.mod fun s => s.updTrack i f).st :=
  .one (.track _ _ _ (fun t _ => h t) fun t _ e => .inl ((c t).trans e))

theorem syncMember_steps (w : Work) (i : SlotId) : Quiets w.st (w.syncMember i).st := by
  unfold Work.syncMember
  split
  · exact .refl _
  · dsimp only
    split
    · exact .refl _
    · refine Chain.trans (track_steps w i _ ?_ ?_) (memberMove_steps _ _ _)
      · exact fun _ => rfl
      · intro t; constructor <;> simp_all

theorem push_steps {R : State → State → Prop} {s : State} {w : Work} (d : Delivery) (h : Chain R s w.st) : Chain R s (w.push d).st := by
  rw [push_st]; exact h

/-- A track escapes, unless it is STALLED: the end of a stall limit is no delivery. -/
theorem escapeTrack_steps (w : Work) (i : SlotId) (r : EscapeReason)
    (hn : ∀ t, w.st.track? i = some t → t.state ≠ .stalled) : Quiets w.st (w.escapeTrack i r).st := by
  unfold Work.escapeTrack
  split
  · exact .refl _
  · rename_i t ht
    split
    · rename_i hs
      have h1 : Quiets w.st ((w.st.updTrack i fun t => { t with state := .escaped, escapeReason := some r }).raise .escaped) := by
        refine .tail (.one (.track _ _ _ ?_ ?_)) (.raise _ _)
        · intro u hu
          rw [ht] at hu; cases hu
          have hf : t.state = .flight := hs.resolve_right (hn _ ht)
          constructor <;> simp_all
        · exact fun _ _ e => .inl e
      have h2 := h1.trans (syncMember_steps (w.mod fun s =>
        (s.updTrack i fun t => { t with state := .escaped, escapeReason := some r }).raise .escaped) i)
      dsimp only
      split
      · exact h2
      · exact push_steps _ h2
    · exact .refl _

/-- A served list changed by a quiet step, in a work. -/
theorem served_steps (w : Work) (x : StationId) (l : List Served)
    (h : w.st.stations[x].served.length ≤ Config.servedRoom → l.length ≤ Config.servedRoom) :
    Quiets w.st (w.mod fun s => s.updStation x fun q => { q with served := l }).st := .one (.served _ _ _ h)

/-- A served list that stays within its room is a small step of its station. -/
theorem served_step (q : Station) (l : List Served)
    (h : q.served.length ≤ Config.servedRoom → l.length ≤ Config.servedRoom) : StationStep q { q with served := l } := by
  constructor <;> simp_all

theorem servedAfter_length (h : Handle) (k : List Tick) (l : List Served) : (servedAfter h k l).length ≤ l.length := by
  unfold servedAfter; exact List.length_filterMap_le _ _

theorem servedMoved_length (h : Handle) (now c d : Tick) (r : Bool) (l : List Served) :
    (servedMoved h now c d r l).length ≤ l.length := by
  unfold servedMoved; exact List.length_filterMap_le _ _

theorem insertAfter_length {α : Type} (k : α → Nat) (x : α) (l : List α) : (insertAfter k x l).length = l.length + 1 := by
  induction l with
  | nil => rfl
  | cons y ys ih => unfold insertAfter; split <;> simp [ih]

theorem servedOutlives_length (h : Handle) (l : List Served) : (servedOutlives h l).length = l.length := by
  unfold servedOutlives; exact List.length_map _

/-- A revision that lengthens no served list. -/
theorem reviseServed_steps (w : Work) (f : StationId → List Served → List Served) (h : ∀ x l, (f x l).length ≤ l.length) :
    Quiets w.st (w.reviseServed f).st := by
  unfold Work.reviseServed
  apply foldl_chain
  intro w x
  dsimp only
  split
  · exact .refl _
  · exact push_steps _ (served_steps _ _ _ fun k => Nat.le_trans (h _ _) k)

theorem refreshServed_steps (w : Work) (i : SlotId) : Quiets w.st (w.refreshServed i).st := by
  unfold Work.refreshServed
  split
  · exact .refl _
  · exact reviseServed_steps _ _ fun _ _ => servedAfter_length _ _ _

theorem withdrawUnopened_steps (w : Work) (i : SlotId) : Quiets w.st (w.withdrawUnopened i).st :=
  reviseServed_steps _ _ fun _ _ => List.length_filter_le _ _

theorem route_steps (w : Work) (i : SlotId) (f : List RouteItem → List RouteItem) :
    Quiets w.st (w.mod fun s => s.updTrack i fun t => { t with route := f t.route }).st :=
  track_steps _ _ _ (fun _ => rfl) fun t => by constructor <;> simp_all

theorem updItem_steps (w : Work) (i : SlotId) (k : Nat) (f : RouteItem → RouteItem) :
    Quiets w.st (w.mod fun s => s.updItem i k f).st := route_steps w i fun r => r.modify k f

theorem dropItem_steps (w : Work) (i : SlotId) (k : Nat) : Quiets w.st (w.mod fun s => s.dropItem i k).st :=
  route_steps w i fun r => r.eraseIdx k

theorem letGo_steps (w : Work) (i : SlotId) (x : StationId) : Quiets w.st (w.mod fun s => s.letGo i x).st :=
  route_steps w i (List.map fun r => if r.item = .station x then { r with holds := false } else r)

theorem handOver_steps (w : Work) (i : SlotId) (k : Nat) (x : StationId) : Quiets w.st (w.handOver i k x).st := by
  unfold Work.handOver
  split
  · rename_i t r _ _
    dsimp only
    generalize decide (t.base + r.early < w.st.now + w.st.stations[x].lead) = late
    have h0 : Quiets w.st (if late = true then w.mod fun s => s.updItem i k fun r => { r with lateStart := true } else w).st := by
      split
      · exact updItem_steps _ _ _ _
      · exact .refl _
    have hx : (if late = true then w.mod fun s => s.updItem i k fun r => { r with lateStart := true } else w).st.stations[x]
        = w.st.stations[x] := by split <;> rfl
    generalize (if late = true then w.mod fun s => s.updItem i k fun r => { r with lateStart := true } else w) = v at h0 hx ⊢
    have listed : ∀ (u : Work) (l : List Served), Quiets w.st u.st → u.st.stations[x] = w.st.stations[x] →
        (w.st.stations[x].served.length ≤ Config.servedRoom → l.length ≤ Config.servedRoom) →
        Quiets w.st ((u.mod fun s => s.updStation x fun q => { q with served := l }).push (.station x)).st := by
      intro u l hu hq hl
      refine push_steps _ (hu.trans (served_steps _ _ _ ?_))
      rw [hq]; exact hl
    have moved : ∀ (n c d : Tick) (b : Bool), Quiets w.st ((v.mod fun s => s.updStation x fun q =>
        { q with served := servedMoved (w.st.handleOf i) n c d b w.st.stations[x].served }).push (.station x)).st :=
      fun _ _ _ _ => listed v _ h0 hx fun h => Nat.le_trans (servedMoved_length _ _ _ _ _ _) h
    split
    · split
      · split
        · exact moved _ _ _ _
        · exact (moved _ _ _ _).trans (updItem_steps _ _ _ _)
      · exact (moved _ _ _ _).trans (updItem_steps _ _ _ _)
    · split
      · exact h0.trans (updItem_steps _ _ _ _)
      · rename_i room
        generalize (if late = true then w.st.now else t.base + r.early - w.st.stations[x].lead) = opens
        split
        · exact h0
        · refine (listed (v.mod fun s => s.letGo i x) _ (h0.trans (letGo_steps v i x)) hx fun _ => ?_).trans
            (updItem_steps _ _ _ _)
          rw [insertAfter_length]; omega
  · exact .refl _

theorem resolveStation_steps (w : Work) (i : SlotId) (k : Nat) (x : StationId) (r : Option Uncovered) :
    Quiets w.st (w.resolveStation i k x r).st := by
  unfold Work.resolveStation
  split
  · exact .refl _
  · rename_i e _
    dsimp only
    have h0 : Quiets w.st (if !e.holds then w else w.mod fun s =>
        s.updStation x fun q => { q with served := servedOutlives (s.handleOf i) q.served }).st := by
      split
      · exact .refl _
      · exact served_steps w x _ fun k => by rw [servedOutlives_length]; exact k
    generalize (if !e.holds then w else w.mod fun s =>
        s.updStation x fun q => { q with served := servedOutlives (s.handleOf i) q.served }) = v at h0 ⊢
    have h1 : Quiets w.st ((v.mod fun s => (s.dropItem i k).updTrack i fun t => t.outcome r).refreshServed i).st := by
      refine h0.trans (Chain.trans ?_ (refreshServed_steps _ _))
      refine (dropItem_steps v i k).trans (track_steps (v.mod fun s => s.dropItem i k) i _ ?_ ?_)
      · intro t; unfold Track.outcome; split <;> rfl
      · intro t; unfold Track.outcome; split <;> constructor <;> simp_all [bump]
    split
    · exact h1
    · split
      · rename_i u hu hf
        refine h1.trans (escapeTrack_steps _ _ _ fun v hv => ?_)
        rw [hu] at hv; cases hv
        rw [hf.1]; nofun
      · exact h1

theorem earlyBound_steps (w : Work) (i : SlotId) (k : Nat) (x : StationId) : Quiets w.st (w.earlyBound i k x).st := by
  unfold Work.earlyBound
  split
  · exact .refl _
  · split
    · exact updItem_steps _ _ _ _
    · exact resolveStation_steps _ _ _ _ _

theorem spentCheck_steps (w : Work) (i : SlotId) : Quiets w.st (w.spentCheck i).st := by
  unfold Work.spentCheck
  split
  · exact .refl _
  · rename_i t ht
    split
    · rename_i hs
      refine Chain.trans (Chain.trans (mod_steps w _ (.one (.track _ _ _ ?_ ?_))) (refreshServed_steps _ _))
        (syncMember_steps _ _)
      · intro u hu
        rw [ht] at hu; cases hu
        constructor <;> simp_all
      · exact fun _ _ e => .inl e
    · exact .refl _

theorem resolvePoint_steps (w : Work) (i : SlotId) (k : Nat) : Quiets w.st (w.resolvePoint i k).st := by
  unfold Work.resolvePoint
  split
  · split
    · dsimp only
      refine (dropItem_steps w i k).trans (track_steps (w.mod fun s => s.dropItem i k) i _ ?_ ?_)
      · exact fun _ => rfl
      · intro t; constructor <;> simp_all
    · exact dropItem_steps _ _ _
    · exact updItem_steps _ _ _ _
    · exact .refl _
  · exact .refl _

theorem joinPoint_steps (w : Work) (i : SlotId) (k : Nat) (r : RouteItem) (t : Track) :
    Quiets w.st (w.joinPoint i k r t).st := by
  unfold Work.joinPoint
  dsimp only
  have h0 := updItem_steps w i k fun r => { r with joined := true }
  generalize (w.mod fun s => s.updItem i k fun r => { r with joined := true }) = v at h0 ⊢
  split
  · rename_i x _
    have h1 := h0.trans (handOver_steps v i k x)
    generalize v.handOver i k x = u at h1 ⊢
    split
    · exact h1
    · split
      · exact (h1.trans (earlyBound_steps _ _ _ _)).trans (resolveStation_steps _ _ _ _ _)
      · exact h1.trans (earlyBound_steps _ _ _ _)
  · split
    · exact h0.trans (resolvePoint_steps _ _ _)
    · exact h0

theorem fillUp_steps (i : SlotId) (after : Work → Work) (h : ∀ w, Quiets w.st (after w).st) (n : Nat) (w : Work) :
    Quiets w.st (Work.fillUp i after n w).st := by
  induction n generalizing w with
  | zero => exact .refl _
  | succ n ih =>
    unfold Work.fillUp
    split
    · exact .refl _
    · split
      · exact .refl _
      · split
        · exact .refl _
        · exact ((joinPoint_steps _ _ _ _ _).trans (h _)).trans (ih _)

theorem refill_steps (w : Work) (i : SlotId) (after : Work → Work) (h : ∀ w, Quiets w.st (after w).st) :
    Quiets w.st (w.refill i after).st := by
  unfold Work.refill
  split
  · exact .refl _
  · exact fillUp_steps _ _ h _ _

theorem fill_steps (w : Work) (i : SlotId) : Quiets w.st (w.fill i).st := refill_steps _ _ _ fun _ => .refl _

theorem extend_steps (w : Work) (i : SlotId) : Quiets w.st (w.extend i).st :=
  refill_steps _ _ _ fun _ => spentCheck_steps _ _

theorem placeTrack_steps (w : Work) (i : SlotId) : Quiets w.st (w.placeTrack i).st := by
  unfold Work.placeTrack
  split
  · exact .refl _
  · split
    · exact .refl _
    · refine Chain.trans (track_steps w i _ ?_ ?_) (syncMember_steps _ _)
      · exact fun _ => rfl
      · intro t; constructor <;> simp_all

theorem planningEscape_steps (w : Work) (i : SlotId) : Quiets w.st (w.planningEscape i).st := by
  unfold Work.planningEscape
  split
  · exact .refl _
  · rename_i t ht
    split
    · rename_i hf
      split
      · refine escapeTrack_steps _ _ _ fun v hv => ?_
        rw [ht] at hv; cases hv
        rw [hf.1]; nofun
      · exact .refl _
    · exact .refl _

theorem takeRoute_steps (w : Work) (i : SlotId) (route : List RouteItem) : Quiets w.st (w.takeRoute i route).st := by
  unfold Work.takeRoute
  dsimp only
  refine push_steps _ ?_
  refine Chain.trans (Chain.trans (Chain.trans (Chain.trans ?_ (placeTrack_steps _ _)) (fill_steps _ _))
    (planningEscape_steps _ _)) (spentCheck_steps _ _)
  exact (route_steps w i fun _ => marked route).trans (refreshServed_steps _ _)

theorem enterStall_steps (w : Work) (i : SlotId) (hc : ∀ t, w.st.track? i = some t → w.st.segStalled t.current = true) :
    Quiets w.st (w.enterStall i).st := by
  unfold Work.enterStall
  split
  · exact .refl _
  · rename_i t ht
    split
    · rename_i hp
      refine Chain.trans (mod_steps w _ (.one (.track _ _ _ ?_ ?_))) (withdrawUnopened_steps _ _)
      · intro u hu
        rw [ht] at hu; cases hu
        unfold Track.plans at hp
        constructor <;> simp_all
      · exact fun v hv _ => .inr (hc v hv)
    · exact .refl _

theorem entered_steps (w : Work) (i : SlotId) : Quiets w.st (w.entered i).st := by
  unfold Work.entered
  split
  · exact .refl _
  · rename_i t ht
    split
    · exact .refl _
    · split
      · rename_i hs
        refine enterStall_steps _ _ fun v hv => ?_
        rw [ht] at hv; cases hv
        exact hs
      · split
        · exact .refl _
        · exact takeRoute_steps _ _ _

theorem advance_steps (w : Work) (i : SlotId) : Quiets w.st (w.advance i).st := by
  unfold Work.advance
  split
  · exact .refl _
  · split
    · exact .refl _
    · exact (placeTrack_steps _ _).trans (entered_steps _ _)

/-! ## Gates and tracks -/

theorem gateMoved_steps (w : Work) (g : GateId) : Quiets w.st (w.gateMoved g).st := by
  unfold Work.gateMoved
  apply foldl_chain
  intro w i
  split
  · exact .refl _
  · split
    · exact takeRoute_steps _ _ _
    · exact .refl _

theorem advanceSettled_steps (w : Work) (i : SlotId) : Quiets w.st (w.advanceSettled i).st := by
  unfold Work.advanceSettled
  split
  · exact .refl _
  · split
    · exact placeTrack_steps _ _
    · exact advance_steps _ _

theorem settleTrack_steps (w : Work) (g : GateId) (side : Side) (i : SlotId) :
    Quiets w.st (w.settleTrack g side i).st := by
  unfold Work.settleTrack
  exact ((((route_steps w i fun r => settleRoute g side r).trans (refreshServed_steps _ _)).trans
    (extend_steps _ _)).trans (advanceSettled_steps _ _)).trans (spentCheck_steps _ _)

theorem settle_steps (w : Work) (g : GateId) (side : Side) : Quiets w.st (w.settle g side).st := by
  unfold Work.settle
  apply foldl_chain
  intro w i
  split
  · exact .refl _
  · split
    · exact settleTrack_steps _ _ _ _
    · exact .refl _

theorem resolveAll_steps (x : StationId) (p : RouteItem → Bool) (r : Uncovered) (i : SlotId) (n : Nat) (w : Work) :
    Quiets w.st (Work.resolveAll x p r i n w).st := by
  induction n generalizing w with
  | zero => exact .refl _
  | succ n ih =>
    unfold Work.resolveAll
    split
    · exact .refl _
    · exact (resolveStation_steps _ _ _ _ _).trans (ih _)

theorem stopEntries_steps (w : Work) (x : StationId) (p : RouteItem → Bool) (r : Uncovered) (i : SlotId) :
    Quiets w.st (w.stopEntries x p r i).st := by
  unfold Work.stopEntries
  split
  · exact .refl _
  · exact (resolveAll_steps _ _ _ _ _ _).trans (extend_steps _ _)

theorem stopCovering_steps (w : Work) (x : StationId) (r : Uncovered) : Quiets w.st (w.stopCovering x r).st := by
  unfold Work.stopCovering
  exact foldl_chain _ _ (fun w i => stopEntries_steps _ _ _ _ _) _

/-- A gate changed by a small step, in a work. -/
theorem gate_steps (w : Work) (g : GateId) (f : Gate → Gate) (h : GateStep w.st.gates[g] (f w.st.gates[g])) :
    Steps w.st (w.mod fun s => s.updGate g f).st := .one (.gate _ _ _ h)

theorem driveAbort_steps (w : Work) (g : GateId) : Steps w.st (w.driveAbort g).st := by
  unfold Work.driveAbort
  split
  · rename_i h
    unfold Work.travelGate
    refine push_steps _ (push_steps _ (gate_steps _ _ _ ?_))
    constructor <;> simp_all
  · rename_i h
    unfold Work.travelGate
    refine push_steps _ (push_steps _ (gate_steps _ _ _ ?_))
    constructor <;> simp_all
  · exact .refl _

theorem markDiverted_steps (g : GateId) (l : List Handle) (s : State) : Steps s (s.markDiverted g l) := by
  unfold State.markDiverted
  apply foldl_state_chain
  intro s h
  split
  · refine .one (.quiet (.track _ _ _ ?_ ?_))
    · intro t _
      split <;> constructor <;> simp_all
    · intro t _ e
      split <;> exact .inl e
  · exact .refl _

/-- A diversion list is no part of what a small step keeps. -/
theorem diversions_step (q : Gate) (l : List Handle) : GateStep q { q with diversions := l } := by
  constructor <;> simp_all

theorem confirm_step (q : Gate) (dest : GateState) (now : Tick)
    (h : q.state = .toAbort ∧ dest = .abort ∨ q.state = .toNormal ∧ dest = .normal) :
    GateStep q { q with state := dest, timer := none, stateChanged := some now } := by
  rcases h with ⟨h, e⟩ | ⟨h, e⟩ <;> subst e <;> constructor <;> simp_all

theorem confirmGate_steps (w : Work) (g : GateId) (side : Side)
    (h : w.st.gates[g].state = .toAbort ∧ side = .abort ∨ w.st.gates[g].state = .toNormal ∧ side = .normal) :
    Steps w.st (w.confirmGate g side).st := by
  unfold Work.confirmGate
  cases side
  · have hs := confirm_step w.st.gates[g] .normal w.st.now (by simp_all)
    dsimp only
    refine Chain.trans (mod_steps w _ ?_) (settle_steps _ _ _).loud
    exact .tail (.one (.gate _ _ _ hs)) (.quiet (.raise _ _))
  · have hs := confirm_step w.st.gates[g] .abort w.st.now (by simp_all)
    dsimp only
    refine Chain.trans (Chain.trans (mod_steps w _ ?_) (settle_steps _ _ _).loud) (mod_steps _ _ ?_)
    · exact .tail (.one (.gate _ _ _ hs)) (.quiet (.raise _ _))
    · exact (markDiverted_steps g _ _).trans (.one (.gate _ _ _ (diversions_step _ _)))

theorem checkGate_steps (w : Work) (g : GateId) : Steps w.st (w.checkGate g).st := by
  unfold Work.checkGate
  dsimp only
  split
  · exact .refl _
  · split
    · split
      · exact confirmGate_steps _ _ _ (.inl ⟨by assumption, rfl⟩)
      · exact .refl _
    · split
      · exact confirmGate_steps _ _ _ (.inr ⟨by assumption, rfl⟩)
      · exact .refl _
    · exact .refl _

/-! ## Lines -/

theorem startHeads_steps (n : Nat) (s : State) (hm : s.mode = .guarded) : Steps s (State.startHeads n s) := by
  induction n generalizing s with
  | zero => exact .refl _
  | succ n ih =>
    unfold State.startHeads
    split
    · exact .refl _
    · rename_i l rest h
      split
      · exact (Chain.one (.start _ _ _ hm h (by assumption))).trans (ih _ ((startLine_kept s l).mode.trans hm))
      · exact .refl _

theorem testStarts_steps (s : State) (hm : s.mode = .guarded) : Steps s s.testStarts := startHeads_steps _ _ hm

theorem driveLineGates_steps (w : Work) (l : LineId) : Steps w.st (w.driveLineGates l).st := by
  unfold Work.driveLineGates
  apply foldl_chain
  intro w g
  dsimp only
  split
  · exact driveAbort_steps _ _
  · exact .refl _

theorem shutdown_steps (w : Work) (l : LineId) (c : StopCause) : Steps w.st (w.shutdown l c).st := by
  unfold Work.shutdown
  split
  · exact .refl _
  · rename_i hu
    replace hu : w.st.lines[l].inUse = true := by simpa using hu
    split
    · rename_i h
      refine Chain.trans (mod_steps w _ ?_) (driveLineGates_steps _ _)
      exact .one (.coast _ l c hu (.inl h))
    · rename_i h
      refine Chain.trans (mod_steps w _ ?_) (driveLineGates_steps _ _)
      exact .one (.coast _ l c hu (.inr h))
    · rename_i h
      have h0 := Chain.one (Step.unqueue w.st l c hu h)
      have h1 := (mod_steps w (fun s =>
        { s with startQueue := s.startQueue.erase l }.lineTo l fun q => { q with cause := c }.halt) h0).trans
        (driveLineGates_steps _ l)
      revert h1
      generalize (w.mod fun s =>
        { s with startQueue := s.startQueue.erase l }.lineTo l fun q => { q with cause := c }.halt).driveLineGates l = v
      intro h1
      dsimp only
      split
      · rename_i hg
        simp only [Bool.and_eq_true, beq_iff_eq] at hg
        exact h1.trans (testStarts_steps _ hg.2)
      · exact h1
    · refine .one (.cold w.st l c hu ?_)
      rcases e : w.st.lines[l].state <;> simp_all

theorem escaped_steps (w : Work) (h : Handle) (l : LineId) : Steps w.st (w.escaped h l).st := by
  unfold Work.escaped
  split
  · exact .refl _
  · split
    · exact (gate_steps w _ _ (diversions_step _ _)).trans (driveAbort_steps _ _)
    · exact shutdown_steps _ _ _

theorem linesSee_steps (w : Work) (z : ZoneId) (new : Level) : Steps w.st (w.linesSee z new).st := by
  unfold Work.linesSee
  split
  · apply foldl_chain
    intro w l
    split
    · exact shutdown_steps _ _ _
    · exact .refl _
  · exact .refl _

/-! ## Stations and the arbiter -/

/-- A station changed by a small step, in a work. -/
theorem station_steps (w : Work) (x : StationId) (f : Station → Station)
    (h : StationStep w.st.stations[x] (f w.st.stations[x])) :
    Steps w.st (w.mod fun s => s.updStation x f).st := .one (.station _ _ _ h)

theorem startPurge_steps (s : State) (x : StationId) : Steps s (s.startPurge x) := by
  unfold State.startPurge
  dsimp only
  split
  · refine .one (.station _ _ _ ?_)
    generalize s.stations[x] = q at *
    constructor <;> simp_all
  · exact .refl _

theorem request_step (q : Station) (now : Tick) (h : q.state = .idle ∨ q.state = .purging) :
    StationStep q (q.request now) := by
  unfold Station.request
  rcases h with h | h <;> constructor <;> simp_all

theorem keepCut_step (q : Station) (now : Tick) : StationStep q (q.keepCut now) := by
  unfold Station.keepCut
  constructor <;> simp_all

theorem leave_step (q : Station) (h : q.state = .requesting ∨ q.state = .suspended) :
    StationStep q { q with state := .idle, requestTick := none } := by
  rcases h with h | h <;> constructor <;> simp_all

theorem judgeStation_steps (w : Work) (x : StationId) : Steps w.st (w.judgeStation x).st := by
  unfold Work.judgeStation
  split
  · exact .refl _
  · rename_i hm
    replace hm : w.st.mode = .guarded := by simpa using hm
    dsimp only
    refine push_steps _ ?_
    split
    · exact station_steps _ _ _ (request_step _ _ (.inl (by assumption)))
    · exact station_steps _ _ _ (request_step _ _ (.inr (by assumption)))
    · exact startPurge_steps _ _
    · refine mod_steps w _ ?_
      exact (Chain.one (.station _ _ _ (leave_step _ (.inl (by assumption))))).trans (startPurge_steps _ _)
    · refine mod_steps w _ ?_
      exact (Chain.one (.station _ _ _ (leave_step _ (.inr (by assumption))))).trans (startPurge_steps _ _)
    · exact station_steps _ _ _ (keepCut_step _ _)
    · rename_i h _
      refine Chain.trans (Chain.trans (mod_steps w _ ?_) (stopCovering_steps _ _ _).loud) (mod_steps _ _ (startPurge_steps _ _))
      exact .one (.release _ x .idle hm h (.inl rfl))
    · exact .refl _

theorem suspendOne_steps (w : Work) (x : StationId) (hm : w.st.mode = .guarded) (h : w.st.stations[x].state = .releasing) :
    Steps w.st (w.suspendOne x).st := by
  unfold Work.suspendOne
  refine Chain.trans (mod_steps w _ (Chain.tail (.one (.release _ x .suspended hm h (.inr rfl))) (.station _ x _ ?_)))
    (stopCovering_steps _ _ _).loud
  generalize (w.st.returnUnits x .suspended).stations[x] = q
  constructor <;> simp_all

/-- Quiet steps leave every station's state alone. -/
theorem Quiets.station_state {s t : State} (h : Quiets s t) (x : StationId) : t.stations[x].state = s.stations[x].state := by
  refine Chain.keeps (K := fun s t => t.stations[x].state = s.stations[x].state) (fun _ => rfl)
    (fun _ _ _ h k => k.trans h) ?_ h
  intro s t q
  cases q with
  | raise n => rfl
  | track i f h => rfl
  | member old new =>
    have : ∀ w : Work, (w.memberMove old new).st.stations = w.st.stations := by
      intro w
      have r : ∀ (w : Work) (z : ZoneId), (w.recompute z).st.stations = w.st.stations := by
        intro w z; unfold Work.recompute; dsimp only; split <;> simp
      unfold Work.memberMove
      cases old with
      | none =>
        cases new with
        | none => rfl
        | some n => cases n <;> exact r _ _
      | some m => 
        cases new with
        | none => cases m <;> exact r _ _
        | some n => cases m <;> cases n <;> exact (r _ _).trans (r _ _)
    rw [this]; rfl
  | served y l h =>
    simp only [updStation_stations, Fin.getElem_fin, updAt_getElem]
    split <;> rfl

theorem insertAfter_perm {α : Type} (k : α → Nat) (x : α) (l : List α) : (insertAfter k x l).Perm (x :: l) := by
  induction l with
  | nil => exact .refl _
  | cons y ys ih =>
    unfold insertAfter
    split
    · exact .refl _
    · exact (ih.cons y).trans (.swap _ _ _)

/-- Sorting keeps what a list holds. -/
theorem sortAfter_perm {α : Type} (k : α → Nat) (l : List α) : (sortAfter k l).Perm l := by
  have h : ∀ (l acc : List α), (l.foldl (fun acc x => insertAfter k x acc) acc).Perm (l ++ acc) := by
    intro l
    induction l with
    | nil => intro acc; exact .refl _
    | cons x l ih =>
      intro acc
      refine (ih _).trans ?_
      refine ((insertAfter_perm k x acc).append_left l).trans ?_
      exact List.perm_middle
  simpa [sortAfter] using h l []

theorem suspendOne_state (w : Work) (x y : StationId) :
    (w.suspendOne x).st.stations[y].state = if y = x then .suspended else w.st.stations[y].state := by
  unfold Work.suspendOne
  rw [Quiets.station_state (stopCovering_steps _ _ _) y]
  by_cases e : y = x
  · subst e; simp [State.returnUnits, Station.released]
  · have e' : y.val ≠ x.val := fun k => e (Fin.ext k)
    simp [State.returnUnits, e, e']

theorem suspendAll_steps (need : Nat) (l : List StationId) (hn : l.Nodup) (w : Work) (hm : w.st.mode = .guarded)
    (h : ∀ x ∈ l, w.st.stations[x].state = .releasing) :
    Steps w.st (l.foldl (fun w x => if w.st.freeUnits < need then w.suspendOne x else w) w).st := by
  induction l generalizing w with
  | nil => exact .refl _
  | cons x l ih =>
    rw [List.nodup_cons] at hn
    simp only [List.foldl_cons]
    split
    · have h1 := suspendOne_steps w x hm (h x (by simp))
      refine h1.trans (ih hn.2 _ (h1.kept.mode.trans hm) ?_)
      intro y hy
      have e : y ≠ x := fun e => hn.1 (e ▸ hy)
      rw [suspendOne_state, if_neg e]
      exact h y (by simp [hy])
    · exact ih hn.2 _ hm fun y hy => h y (by simp [hy])

theorem eligibleOrder_nodup (s : State) : s.eligibleOrder.Nodup := by
  unfold State.eligibleOrder
  exact (sortAfter_perm _ _).nodup_iff.mpr ((List.nodup_finRange 24).filter _)

theorem eligibleOrder_releasing (s : State) (x : StationId) (h : x ∈ s.eligibleOrder) :
    s.stations[x].state = .releasing := by
  unfold State.eligibleOrder at h
  have := (sortAfter_perm _ _).mem_iff.mp h
  simp only [List.mem_filter, State.eligible, Bool.and_eq_true, beq_iff_eq] at this
  exact this.2.1.1.1

theorem suspendFor_steps (w : Work) (need : Nat) (hm : w.st.mode = .guarded) : Steps w.st (w.suspendFor need).st := by
  unfold Work.suspendFor
  dsimp only
  split
  · exact .refl _
  · exact suspendAll_steps _ _ (eligibleOrder_nodup _) _ hm fun x hx => eligibleOrder_releasing _ x hx

theorem suspendAll_waits (need : Nat) (x : StationId) (l : List StationId) (w : Work)
    (h : w.st.stations[x].waits = true) :
    (l.foldl (fun w y => if w.st.freeUnits < need then w.suspendOne y else w) w).st.stations[x].waits = true := by
  induction l generalizing w with
  | nil => exact h
  | cons y l ih =>
    simp only [List.foldl_cons]
    split
    · refine ih _ ?_
      unfold Station.waits at h ⊢
      rw [suspendOne_state]
      split
      · rfl
      · exact h
    · exact ih _ h

/-- A station that waits still waits after suspensions. -/
theorem suspendFor_waits (w : Work) (need : Nat) (x : StationId) (h : w.st.stations[x].waits = true) :
    (w.suspendFor need).st.stations[x].waits = true := by
  unfold Work.suspendFor
  dsimp only
  split
  · exact h
  · exact suspendAll_waits _ _ _ _ h

theorem Kept.drawOf {s t : State} (h : Kept s t) (x : StationId) : t.drawOf x = s.drawOf x := by
  unfold State.drawOf
  rw [h.limits, (h.stations x).draw]

theorem arbiterQueue_waits (s : State) (x : StationId) (h : x ∈ s.arbiterQueue) : s.stations[x].waits = true := by
  have key : ∀ (l acc : List StationId), (∀ y ∈ l, s.stations[y].waits = true) → (∀ y ∈ acc, s.stations[y].waits = true) →
      ∀ y ∈ l.foldl (fun acc x => acc.takeWhile (fun y => s.before y x) ++ x :: acc.dropWhile fun y => s.before y x) acc,
        s.stations[y].waits = true := by
    intro l
    induction l with
    | nil => intro acc _ ha y hy; exact ha y hy
    | cons z l ih =>
      intro acc hl ha
      refine ih _ (fun y hy => hl y (by simp [hy])) ?_
      intro y hy
      simp only [List.mem_append, List.mem_cons] at hy
      rcases hy with hy | hy | hy
      · exact ha y ((List.takeWhile_prefix _).subset hy)
      · subst hy; exact hl y (by simp)
      · exact ha y ((List.dropWhile_suffix _).subset hy)
  unfold State.arbiterQueue at h
  refine key _ [] ?_ (by simp) x h
  intro y hy
  simpa using (List.mem_filter.mp hy).2

theorem grantHeads_steps (n : Nat) (w : Work) (hm : w.st.mode = .guarded) : Steps w.st (Work.grantHeads n w).st := by
  induction n generalizing w with
  | zero => exact .refl _
  | succ n ih =>
    unfold Work.grantHeads
    split
    · exact .refl _
    · rename_i x hx
      have hw : w.st.stations[x].waits = true := arbiterQueue_waits _ _ (List.mem_of_mem_head? hx)
      dsimp only
      have hv : Steps w.st (if w.st.drawOf x ≤ w.st.freeUnits ∨ (w.st.stations[x].key w.st.now).1 = .flood then w
          else w.suspendFor (w.st.drawOf x)).st ∧ (if w.st.drawOf x ≤ w.st.freeUnits ∨
          (w.st.stations[x].key w.st.now).1 = .flood then w else w.suspendFor (w.st.drawOf x)).st.stations[x].waits = true := by
        split
        · exact ⟨.refl _, hw⟩
        · exact ⟨suspendFor_steps _ _ hm, suspendFor_waits _ _ _ hw⟩
      generalize (if w.st.drawOf x ≤ w.st.freeUnits ∨ (w.st.stations[x].key w.st.now).1 = .flood then w
          else w.suspendFor (w.st.drawOf x)) = v at hv ⊢
      split
      · rename_i hd
        have hm' := hv.1.kept.mode.trans hm
        refine (hv.1.trans (.one (.grant v.st x hm' hv.2 ?_))).trans (ih (v.mod fun s => s.grant x) hm')
        rw [hv.1.kept.drawOf]
        exact hd
      · exact hv.1

theorem arbitrate_steps (w : Work) : Steps w.st w.arbitrate.st := by
  unfold Work.arbitrate
  split
  · exact grantHeads_steps _ _ (by assumption)
  · exact .refl _

theorem flood_step (q : Station) (b : Bool) : StationStep q { q with floodDemand := b } := by
  constructor <;> simp_all

theorem stationsSee_steps (w : Work) (z : ZoneId) (old new : Level) : Steps w.st (w.stationsSee z old new).st := by
  unfold Work.stationsSee
  split
  · apply foldl_chain
    intro w x
    dsimp only
    split
    · exact push_steps _ (station_steps _ _ _ (flood_step _ _))
    · exact .refl _
  · exact .refl _

/-! ## Shutters, and a whole event -/

theorem judgeShutter_steps (s : State) (i : ShutterId) : Steps s (s.judgeShutter i) := by
  unfold State.judgeShutter
  dsimp only
  split
  · rename_i h
    simp only [Bool.and_eq_true, Bool.or_eq_true, beq_iff_eq] at h
    exact .one (.close _ _ h.1 h.2)
  · exact .refl _

theorem dropShutter_steps (s : State) (i : ShutterId) : Steps s (s.dropShutter i) := by
  unfold State.dropShutter
  split
  · rename_i h; exact .one (.drop _ _ (.inl h))
  · rename_i h; exact .one (.drop _ _ (.inr (.inl h)))
  · rename_i h; exact .one (.drop _ _ (.inr (.inr (.inl h))))
  · rename_i h; exact .one (.drop _ _ (.inr (.inr (.inr h))))
  · exact .refl _

theorem shuttersSee_steps (s : State) (z : ZoneId) (new : Level) : Steps s (s.shuttersSee z new) := by
  unfold State.shuttersSee
  apply foldl_state_chain
  intro s i
  dsimp only
  split
  · split
    · exact dropShutter_steps _ _
    · exact judgeShutter_steps _ _
  · exact .refl _

theorem judgeShutters_steps (s : State) : Steps s s.judgeShutters := by
  unfold State.judgeShutters
  exact foldl_state_chain _ _ (fun s i => judgeShutter_steps _ _) _

/-- One delivery is a chain of small steps. -/
theorem act_steps (w : Work) (d : Delivery) : Steps w.st (w.act d).st := by
  cases d with
  | station x => exact judgeStation_steps _ _
  | arbiter => exact arbitrate_steps _
  | zoneLevel z old new =>
    unfold Work.act
    refine Chain.trans ((linesSee_steps w z new).trans (stationsSee_steps _ z old new)) (mod_steps _ _ ?_)
    exact (shuttersSee_steps _ _ _).trans (.one (.sirens _ _))
  | escape h l => exact escaped_steps _ _ _
  | gateMoved g => exact (gateMoved_steps _ _).loud
  | gateCheck g => exact checkGate_steps _ _
  | entered i => exact (entered_steps _ _).loud

theorem run_steps (n : Nat) (w : Work) : Steps w.st (Work.run n w).st := by
  induction n generalizing w with
  | zero => exact .refl _
  | succ n ih =>
    unfold Work.run
    split
    · exact .refl _
    · rename_i d ds _
      exact (act_steps { w with out := ds } d).trans (ih _)

/-- The deliveries of an event are a chain of small steps from the state the event itself leaves. -/
theorem finish_steps (w : Work) : Steps w.st w.finish := run_steps _ _

/-- What the deliveries of an event keep. -/
theorem finish_kept (w : Work) : Kept w.st w.finish := (finish_steps w).kept

/-- With nothing handed over, an event leaves the state it made. -/
theorem run_none (n : Nat) (w : Work) (h : w.out = []) : Work.run n w = w := by
  cases n with
  | zero => rfl
  | succ n => unfold Work.run; rw [h]

theorem finish_none (w : Work) (h : w.out = []) : w.finish = w.st := by
  unfold Work.finish; rw [run_none _ _ h]

theorem begin_finish (s : State) : s.begin.finish = s := finish_none _ rfl

end Sys2Proof.Laws
end

