-- ==== Sys2Proof/Laws/Frame.lean ====
section
/-! SUPPORT. The shared operations seen from outside: what a transaction, a request and an event leave, said once for the
commands that are made of them. -/
namespace Sys2Proof.Laws
open Sys2Proof.Machine

/-! ## The frame of deliveries -/

theorem Kept.framed {s t : State} (h : Kept s t) : s.Framed t where
  now := h.now
  resetLow := h.resetLow
  mode := h.mode
  walkEnd := h.walkEnd
  result := h.result
  guardEntry := h.guardEntry
  nextGate := h.nextGate
  nextSurvey := h.nextSurvey
  limits := h.limits
  segments := h.segments
  fanFeedback := h.fanFeedback
  channels := h.channels
  airflows := h.airflows
  temps := h.temps
  link := h.link
  pending := h.pending
  gates := fun g => by
    have k := h.gates g
    simp only [Gate.fixed, k.inUse, k.owner, k.normalOut, k.abortOut, k.stroke, k.onShutdown, k.normalLimit, k.abortLimit]
  lines := fun l => by
    have k := h.lines l
    simp only [Line.fixed, k.inUse, k.firstFan, k.secondFan, k.runUp, k.runDown, k.burstCount, k.burstWindow, k.zones]
  stations := fun x => by
    have k := h.stations x
    simp only [Station.fixed, k.inUse, k.draw, k.lead, k.holdSpark, k.holdEmber, k.confirmTime, k.maxRelease, k.purgeTime,
      k.link, k.flood, k.pressure]
  shutters := fun i => by
    have k := h.shutters i
    simp only [Shutter.fixed, k.sideA, k.sideB, k.closeLevel, k.timeout, k.granted, k.openLimit, k.closedLimit,
      k.obstructed]
  sirens := fun i => by
    have k := h.sirens i
    simp only [Siren.fixed, k.zones, k.link, k.derateAt, k.watch, k.alarm, k.fire]
  callRaw := fun z => (h.zones z).callRaw
  callChanged := fun z => (h.zones z).callChanged
  flags := h.notices.flags
  noticeRest := by
    have k := h.notices
    have e : ∀ n : Notices, n = ⟨n.flags, n.mask, n.lastError, n.parity, n.crc, n.short⟩ := fun _ => rfl
    rw [e s.notices]
    simp only [k.mask, k.lastError, k.parity, k.crc, k.short]

theorem finish_framed (w : Work) : w.st.Framed w.finish := (finish_kept w).framed

/-- A notice that stands before the deliveries of an event stands after them. -/
theorem Kept.raised {s t : State} (h : Kept s t) (n : Notice) (r : s.raised n) : t.raised n := by
  unfold State.raised inSet at *
  rw [← h.notices.flags, BitVec.getLsbD_or, r, Bool.true_or]

theorem raise_raised (s : State) (n : Notice) : (s.raise n).raised n := by
  unfold State.raised State.raise inSet
  simp only [BitVec.getLsbD_or]
  cases n <;> simp [Notice.flag, Notice.bit]

/-! ## Events -/

theorem event_due (s : State) (d : Bool) (f : State → Work) (hr : s.resetLow = false) (hd : d = true) :
    s.event d f = (f s).finish := by
  simp [State.event, hr, hd]

theorem event_not (s : State) (d : Bool) (f : State → Work) (h : s.resetLow = true ∨ d = false) : s.event d f = s := by
  rcases h with h | h <;> simp [State.event, h]

/-! ## Transactions and requests -/

@[simp] theorem ignores_none (k : Link) (now : Tick) (h : k.ignoring = none) : k.ignores now = false := by
  simp [Link.ignores, h]

@[simp] theorem ignores_some (k : Link) (now rise : Tick) (h : k.ignoring = some rise) :
    k.ignores now = decide (now < rise) := by
  simp [Link.ignores, h]

/-- Everything a transaction can leave: what it found, 0xFF in the parity hold, or what the part that listens makes of it. -/
theorem transact_cases (s : State) (f : State → State) :
    (s.resetLow = true ∨ s.link.ignores s.now = true) ∧ s.transact f = s ∨
    s.link.alert.holds = true ∧ s.transact f = s.driveOnly 0xFF ∨
    s.listens ∧ s.transact f = f s := by
  unfold State.transact
  split
  · exact .inl ⟨.inl ‹_›, rfl⟩
  · split
    · exact .inl ⟨.inr ‹_›, rfl⟩
    · split
      · exact .inr (.inl ⟨‹_›, rfl⟩)
      · rename_i h1 h2 h3
        exact .inr (.inr ⟨⟨by simpa using h1, by simpa using h2, by simpa using h3⟩, rfl⟩)

theorem transact_listens (s : State) (f : State → State) (h : s.listens) : s.transact f = f s := by
  obtain ⟨h1, h2, h3⟩ := h
  simp [State.transact, h1, h2, h3]

/-- What a request of the right shape leaves at a part that listens: the command's own judgement, with its reply. -/
theorem request_taken (s : State) (n : Nat) (names : Names) (t : Half) (d : List Byte) (own : State → Judged)
    (h : s.listens) (hn : d.length = n) (ht : names = .nothing → t = 0) :
    s.request n names t d own = (s.judged (own s)).1.replyWith (s.judged (own s)).2 := by
  unfold State.request
  rw [transact_listens _ _ h]
  have k : ¬(names = .nothing ∧ t ≠ 0) := fun k => k.2 (ht k.1)
  rw [if_neg (by simp [hn]), if_neg k]

/-- Everything a request can leave: the state it found but for the link's reply, or what the command's judgement gives. -/
theorem request_cases (s : State) (n : Nat) (names : Names) (t : Half) (d : List Byte) (own : State → Judged) :
    (∃ k : Link, s.request n names t d own = { s with link := k }) ∨
    (∃ u r, own s = .ok (u, r) ∧ s.listens ∧ s.request n names t d own = u.replyWith r) := by
  unfold State.request
  obtain ⟨_, e⟩ | ⟨_, e⟩ | ⟨listens, e⟩ := transact_cases s _
  · exact .inl ⟨s.link, e⟩
  · exact .inl ⟨_, e⟩
  · rw [e]
    dsimp only
    split
    · exact .inl ⟨_, rfl⟩
    · split
      · exact .inl ⟨_, rfl⟩
      · cases e : own s with
        | error r => exact .inl ⟨_, rfl⟩
        | ok a => exact .inr ⟨a.1, a.2, rfl, listens, rfl⟩

/-- A judgement that answers a state has passed each of its steps. -/
theorem bind_ok {α β : Type} {x : Except Reply α} {f : α → Except Reply β} {b : β} (h : (x >>= f) = .ok b) :
    ∃ a, x = .ok a ∧ f a = .ok b := by
  cases x with
  | error r => cases h
  | ok a => exact ⟨a, rfl, h⟩

theorem takenInConfig_ok {s : State} {u : Unit} : takenInConfig s = .ok u ↔ s.mode = .config := by
  unfold takenInConfig; cases s.mode <;> simp

theorem takenInGuard_ok {s : State} {u : Unit} : takenInGuard s = .ok u ↔ s.mode = .guarded := by
  unfold takenInGuard; cases s.mode <;> simp

theorem takenUnlessCommitting_ok {s : State} {u : Unit} : takenUnlessCommitting s = .ok u ↔ s.mode ≠ .committing := by
  unfold takenUnlessCommitting; cases s.mode <;> simp

theorem refuseIf_ok {b : Bool} {r : Reply} {u : Unit} : refuseIf b r = .ok u ↔ b = false := by
  unfold refuseIf; cases b <;> simp

theorem refuseFor_ok {b : Bool} {r : Reason} {u : Unit} : refuseFor b r = .ok u ↔ b = false := refuseIf_ok

theorem instOf_ok {n v : Nat} {i : Fin n} : instOf n v = .ok i ↔ v = i.val := by
  unfold instOf
  split
  · constructor
    · intro h; cases h; rfl
    · intro h; subst h; rfl
  · rename_i h
    constructor
    · intro k; cases k
    · intro k; exact absurd (k ▸ i.isLt) h

theorem targetOf_ok {n : Nat} {t : Half} {i : Fin n} : targetOf n t = .ok i ↔ t.toNat = i.val := instOf_ok

/-! ## Deliveries of an idle arbiter -/

/-- With no station waiting the arbiter has no queue. -/
theorem arbiterQueue_of_no_waiters (s : State) (h : ∀ x : StationId, s.stations[x].waits = false) : s.arbiterQueue = [] := by
  unfold State.arbiterQueue
  rw [List.filter_eq_nil_iff.mpr]
  · rfl
  · intro a _; simpa using h a

/-- With no station waiting the arbiter acts on nothing. -/
theorem arbitrate_of_no_waiters (w : Work) (h : ∀ x : StationId, w.st.stations[x].waits = false) : w.arbitrate = w := by
  unfold Work.arbitrate
  split
  · unfold Work.grantHeads
    rw [arbiterQueue_of_no_waiters _ h]
    rfl
  · rfl

/-- One round of deliveries takes the oldest one. -/
theorem run_cons (n : Nat) (w : Work) (d : Delivery) (ds : List Delivery) (h : w.out = d :: ds) :
    Work.run (n + 1) w = Work.run n ({ w with out := ds }.act d) := by
  rw [Work.run]
  simp only [h]

/-- A delivery to the arbiter leaves the state as it was while no station waits. -/
theorem finish_arbiter_of_no_waiters (s : State) (h : ∀ x : StationId, s.stations[x].waits = false) :
    (s.begin.push .arbiter).finish = s := by
  have fuel : Config.deliveryFuel = 999997 + 3 := rfl
  unfold Work.finish
  rw [fuel, run_cons _ _ .arbiter [] (by rfl)]
  simp only [Work.act]
  rw [arbitrate_of_no_waiters]
  · rw [run_none]
    · rfl
    · rfl
  · exact h

/-- Some zone stands at ALARM or above exactly if one of the zones has a level of 2 or more. -/
theorem zones_any_alarm (s : State) :
    ((s.zones.any fun z => z.level.atLeast .alarm) = true) ↔ ∃ z : ZoneId, 2 ≤ s.zones[z].level.val := by
  rw [Vector.any_eq_true]
  constructor
  · rintro ⟨j, hj, h⟩
    exact ⟨⟨j, hj⟩, by unfold Level.atLeast at h; exact of_decide_eq_true h⟩
  · rintro ⟨z, hz⟩
    exact ⟨z, z.isLt, by unfold Level.atLeast; exact decide_eq_true hz⟩

end Sys2Proof.Laws
end

