-- ==== Sys2Proof/Laws/Markers.lean ====
section
/-! SUPPORT. What the markers of a route are once it has been built or re-planned. -/
namespace Sys2Proof.Laws
open Sys2Proof.Machine

theorem markAll_length (before route : List RouteItem) : (markAll before route).length = route.length := by
  induction route generalizing before with
  | nil => rfl
  | cons r rs ih => simp [markAll, ih]

/-- Every end, resolved or not, carries the last unresolved STATION on its path (R83, R92). -/
theorem markAll_end (before route : List RouteItem) (n : Nat) (r : RouteItem) (kind : EndOf) (m : Option StationId)
    (b : Bool) (hr : (markAll before route)[n]? = some r) (ht : r.item = .terminal kind m b) :
    m = lastStation (before ++ (markAll before route).take n) r.conds := by
  induction route generalizing before n with
  | nil => simp [markAll] at hr
  | cons x xs ih =>
    cases n with
    | zero =>
      simp only [markAll, List.getElem?_cons_zero, Option.some.injEq] at hr
      subst hr
      cases hx : x.item <;> simp_all
    | succ n =>
      simp only [markAll, List.getElem?_cons_succ] at hr
      simpa [markAll] using ih _ n hr

/-- Every end of a route that has been taken up carries the last unresolved STATION on its path (R83, R92). -/
theorem marked_end (route : List RouteItem) (n : Nat) (r : RouteItem) (kind : EndOf) (m : Option StationId) (b : Bool)
    (hr : (marked route)[n]? = some r) (ht : r.item = .terminal kind m b) :
    m = lastStation ((marked route).take n) r.conds := by
  simpa [marked] using markAll_end [] route n r kind m b hr ht

/-- Taking up a route changes no number of its items. -/
theorem marked_length (route : List RouteItem) : (marked route).length = route.length := markAll_length [] route

end Sys2Proof.Laws
end

