-- ==== Sys2Proof/Laws/PerInstr.lean ====
section
/-! SUPPORT. One fact of every command as syntax: the opcode it is sent with, if it has one, is assigned (11.3), so that no
command answers UNKNOWN_OP. -/
namespace Sys2Proof.Laws.Opcode

/-- The opcode of a command is assigned. -/
def Statement (i : Instr) : Prop := ∀ op, opcodeOf i = some op → opcodeAssigned op = true

/-- A command whose opcode is assigned. -/
theorem assigned (i : Instr) (op : BitVec 7) (h : opcodeOf i = some op) (k : opcodeAssigned op = true) : Statement i := by
  intro o e
  rw [h] at e
  cases e
  exact k

/-- A command that is an event has no opcode. -/
theorem event (i : Instr) (h : opcodeOf i = none) : Statement i := by
  intro o e
  rw [h] at e
  cases e

theorem loadLimits (target : Half) (data : List Byte) : Statement (.loadLimits target data) := assigned _ 0x10 rfl (by decide)
theorem loadSegment (target : Half) (data : List Byte) : Statement (.loadSegment target data) := assigned _ 0x11 rfl (by decide)
theorem loadPoint (target : Half) (data : List Byte) : Statement (.loadPoint target data) := assigned _ 0x12 rfl (by decide)
theorem loadGate (target : Half) (data : List Byte) : Statement (.loadGate target data) := assigned _ 0x13 rfl (by decide)
theorem loadLine (target : Half) (data : List Byte) : Statement (.loadLine target data) := assigned _ 0x14 rfl (by decide)
theorem loadStation (target : Half) (data : List Byte) : Statement (.loadStation target data) := assigned _ 0x15 rfl (by decide)
theorem loadChannel (target : Half) (data : List Byte) : Statement (.loadChannel target data) := assigned _ 0x16 rfl (by decide)
theorem loadAirflow (target : Half) (data : List Byte) : Statement (.loadAirflow target data) := assigned _ 0x17 rfl (by decide)
theorem loadTemperature (target : Half) (data : List Byte) : Statement (.loadTemperature target data) := assigned _ 0x18 rfl (by decide)
theorem loadShutter (target : Half) (data : List Byte) : Statement (.loadShutter target data) := assigned _ 0x19 rfl (by decide)
theorem loadSiren (target : Half) (data : List Byte) : Statement (.loadSiren target data) := assigned _ 0x1A rfl (by decide)
theorem loadPattern (target : Half) (data : List Byte) : Statement (.loadPattern target data) := assigned _ 0x1B rfl (by decide)
theorem commit (target : Half) (data : List Byte) : Statement (.commit target data) := assigned _ 0x1C rfl (by decide)
theorem validationWalkEnd : Statement .validationWalkEnd := event _ rfl
theorem releaseGuard (target : Half) (data : List Byte) : Statement (.releaseGuard target data) := assigned _ 0x20 rfl (by decide)
theorem readStatus (target : Half) (data : List Byte) : Statement (.readStatus target data) := assigned _ 0x21 rfl (by decide)
theorem lookupTrack (target : Half) (data : List Byte) : Statement (.lookupTrack target data) := assigned _ 0x28 rfl (by decide)
theorem listTracks (target : Half) (data : List Byte) : Statement (.listTracks target data) := assigned _ 0x29 rfl (by decide)
theorem annotateTrack (target : Half) (data : List Byte) : Statement (.annotateTrack target data) := assigned _ 0x2A rfl (by decide)
theorem retireTrack (target : Half) (data : List Byte) : Statement (.retireTrack target data) := assigned _ 0x2B rfl (by decide)
theorem injectTrack (target : Half) (data : List Byte) : Statement (.injectTrack target data) := assigned _ 0x2C rfl (by decide)
theorem readZone (target : Half) (data : List Byte) : Statement (.readZone target data) := assigned _ 0x30 rfl (by decide)
theorem ackZone (target : Half) (data : List Byte) : Statement (.ackZone target data) := assigned _ 0x31 rfl (by decide)
theorem callZone (target : Half) (data : List Byte) : Statement (.callZone target data) := assigned _ 0x32 rfl (by decide)
theorem readStation (target : Half) (data : List Byte) : Statement (.readStation target data) := assigned _ 0x38 rfl (by decide)
theorem manualRelease (target : Half) (data : List Byte) : Statement (.manualRelease target data) := assigned _ 0x39 rfl (by decide)
theorem cancelRelease (target : Half) (data : List Byte) : Statement (.cancelRelease target data) := assigned _ 0x3A rfl (by decide)
theorem lockStation (target : Half) (data : List Byte) : Statement (.lockStation target data) := assigned _ 0x3B rfl (by decide)
theorem unlockStation (target : Half) (data : List Byte) : Statement (.unlockStation target data) := assigned _ 0x3C rfl (by decide)
theorem clearStation (target : Half) (data : List Byte) : Statement (.clearStation target data) := assigned _ 0x3D rfl (by decide)
theorem readLine (target : Half) (data : List Byte) : Statement (.readLine target data) := assigned _ 0x40 rfl (by decide)
theorem restartLine (target : Half) (data : List Byte) : Statement (.restartLine target data) := assigned _ 0x41 rfl (by decide)
theorem stopLine (target : Half) (data : List Byte) : Statement (.stopLine target data) := assigned _ 0x42 rfl (by decide)
theorem readGate (target : Half) (data : List Byte) : Statement (.readGate target data) := assigned _ 0x43 rfl (by decide)
theorem gateNormal (target : Half) (data : List Byte) : Statement (.gateNormal target data) := assigned _ 0x44 rfl (by decide)
theorem clearGate (target : Half) (data : List Byte) : Statement (.clearGate target data) := assigned _ 0x45 rfl (by decide)
theorem readShutter (target : Half) (data : List Byte) : Statement (.readShutter target data) := assigned _ 0x48 rfl (by decide)
theorem grantHold (target : Half) (data : List Byte) : Statement (.grantHold target data) := assigned _ 0x49 rfl (by decide)
theorem revokeHold (target : Half) (data : List Byte) : Statement (.revokeHold target data) := assigned _ 0x4A rfl (by decide)
theorem grantAll (target : Half) (data : List Byte) : Statement (.grantAll target data) := assigned _ 0x4B rfl (by decide)
theorem revokeAll (target : Half) (data : List Byte) : Statement (.revokeAll target data) := assigned _ 0x4C rfl (by decide)
theorem openShutter (target : Half) (data : List Byte) : Statement (.openShutter target data) := assigned _ 0x4D rfl (by decide)
theorem clearShutter (target : Half) (data : List Byte) : Statement (.clearShutter target data) := assigned _ 0x4E rfl (by decide)
theorem readSiren (target : Half) (data : List Byte) : Statement (.readSiren target data) := assigned _ 0x50 rfl (by decide)
theorem silenceSiren (target : Half) (data : List Byte) : Statement (.silenceSiren target data) := assigned _ 0x51 rfl (by decide)
theorem readChannel (target : Half) (data : List Byte) : Statement (.readChannel target data) := assigned _ 0x58 rfl (by decide)
theorem readAirflow (target : Half) (data : List Byte) : Statement (.readAirflow target data) := assigned _ 0x59 rfl (by decide)
theorem readTemperature (target : Half) (data : List Byte) : Statement (.readTemperature target data) := assigned _ 0x5A rfl (by decide)
theorem readNotices (target : Half) (data : List Byte) : Statement (.readNotices target data) := assigned _ 0x60 rfl (by decide)
theorem clearNotices (target : Half) (data : List Byte) : Statement (.clearNotices target data) := assigned _ 0x61 rfl (by decide)
theorem setNotices (target : Half) (data : List Byte) : Statement (.setNotices target data) := assigned _ 0x62 rfl (by decide)
theorem maskNotices (target : Half) (data : List Byte) : Statement (.maskNotices target data) := assigned _ 0x63 rfl (by decide)
theorem partReset (target : Half) (data : List Byte) : Statement (.partReset target data) := assigned _ 0x70 rfl (by decide)
theorem linkPartResetTakesPlace : Statement .linkPartResetTakesPlace := event _ rfl
theorem unknownOp (opcode : BitVec 7) (target : Half) (data : List Byte) : Statement (.unknownOp opcode target data) := event _ rfl
theorem headerParityError (header : BadHeader) : Statement (.headerParityError header) := event _ rfl
theorem alertHoldEnd : Statement .alertHoldEnd := event _ rfl
theorem holdTransactionIgnored : Statement .holdTransactionIgnored := event _ rfl
theorem badCrc (header : BitVec 32) (data : List Byte) (crc : Half) : Statement (.badCrc header data crc) := event _ rfl
theorem alertPulseEnd : Statement .alertPulseEnd := event _ rfl
theorem shortTransaction : Statement .shortTransaction := event _ rfl
theorem resetLineLow : Statement .resetLineLow := event _ rfl
theorem resetLineHigh (low : Option Nat) : Statement (.resetLineHigh low) := event _ rfl
theorem powerUp : Statement .powerUp := event _ rfl
theorem frameComplete (d : ChanId) (bit : Bool) : Statement (.frameComplete d bit) := event _ rfl
theorem frameAbandoned (d : ChanId) : Statement (.frameAbandoned d) := event _ rfl
theorem surveyBoundary : Statement .surveyBoundary := event _ rfl
theorem supervisionPulse (d : ChanId) : Statement (.supervisionPulse d) := event _ rfl
theorem testDriveEnd (d : ChanId) : Statement (.testDriveEnd d) := event _ rfl
theorem echoWindowExpiry (d : ChanId) : Statement (.echoWindowExpiry d) := event _ rfl
theorem airflowPulse (a : AirId) : Statement (.airflowPulse a) := event _ rfl
theorem temperaturePulse (t : TempId) (width : Nat) : Statement (.temperaturePulse t width) := event _ rfl
theorem sampleGateBoundary : Statement .sampleGateBoundary := event _ rfl
theorem stallLimitExpiry (slot : SlotId) : Statement (.stallLimitExpiry slot) := event _ rfl
theorem segmentAdvance (slot : SlotId) : Statement (.segmentAdvance slot) := event _ rfl
theorem recentPassExpiry (slot : SlotId) : Statement (.recentPassExpiry slot) := event _ rfl
theorem lingerExpiry (slot : SlotId) : Statement (.lingerExpiry slot) := event _ rfl
theorem stationEarlyBound (slot : SlotId) (place : Nat) : Statement (.stationEarlyBound slot place) := event _ rfl
theorem stationLateBound (slot : SlotId) (place : Nat) : Statement (.stationLateBound slot place) := event _ rfl
theorem entryLateBound (slot : SlotId) (place : Nat) : Statement (.entryLateBound slot place) := event _ rfl
theorem servedEntryOpen (x : StationId) (slot : SlotId) : Statement (.servedEntryOpen x slot) := event _ rfl
theorem servedEntryClose (x : StationId) (slot : SlotId) : Statement (.servedEntryClose x slot) := event _ rfl
theorem deadlinePassed (x : StationId) (slot : SlotId) : Statement (.deadlinePassed x slot) := event _ rfl
theorem floodMinimumRun (x : StationId) : Statement (.floodMinimumRun x) := event _ rfl
theorem pressureConfirmInput (x : StationId) (shown : Bool) : Statement (.pressureConfirmInput x shown) := event _ rfl
theorem confirmTimeout (x : StationId) : Statement (.confirmTimeout x) := event _ rfl
theorem maxReleaseCut (x : StationId) : Statement (.maxReleaseCut x) := event _ rfl
theorem manualOrderEnd (x : StationId) : Statement (.manualOrderEnd x) := event _ rfl
theorem purgeDue (x : StationId) : Statement (.purgeDue x) := event _ rfl
theorem purgeEnd (x : StationId) : Statement (.purgeEnd x) := event _ rfl
theorem gateLimitChange (g : GateId) (normalClosed abortClosed : Bool) : Statement (.gateLimitChange g normalClosed abortClosed) := event _ rfl
theorem gateTravelTimeout (g : GateId) : Statement (.gateTravelTimeout g) := event _ rfl
theorem runDownEnd (l : LineId) : Statement (.runDownEnd l) := event _ rfl
theorem startListExpiry : Statement .startListExpiry := event _ rfl
theorem fanFeedbackChange (m : FanId) (running : Bool) : Statement (.fanFeedbackChange m running) := event _ rfl
theorem runUpEnd (l : LineId) : Statement (.runUpEnd l) := event _ rfl
theorem callPointInput (z : ZoneId) (active : Bool) : Statement (.callPointInput z active) := event _ rfl
theorem callPointFilter (z : ZoneId) : Statement (.callPointFilter z) := event _ rfl
theorem shutterLimitChange (h : ShutterId) (openActive closedActive : Bool) : Statement (.shutterLimitChange h openActive closedActive) := event _ rfl
theorem shutterTravelTimeout (h : ShutterId) : Statement (.shutterTravelTimeout h) := event _ rfl
theorem shutterObstruction (h : ShutterId) (active : Bool) : Statement (.shutterObstruction h active) := event _ rfl
theorem rearmEnd (h : ShutterId) : Statement (.rearmEnd h) := event _ rfl
theorem pauseLimit (h : ShutterId) : Statement (.pauseLimit h) := event _ rfl
theorem sirenPhaseEnd (y : SirenId) : Statement (.sirenPhaseEnd y) := event _ rfl
theorem detectorBitArrival (d : ChanId) (bit : Bool) : Statement (.detectorBitArrival d bit) := event _ rfl

end Sys2Proof.Laws.Opcode
end

