-- ==== Sys2Proof/Laws/Request.lean ====
section
/-! SUPPORT. What the bytes of a request say (11.1): the header put together from its bytes, the fields of a header with
its parity bit, and what a transaction that has its header is. -/
namespace Sys2Proof
/-- The four bytes of a header make the header. -/
theorem headerBytes_joins (h : BitVec 32) :
    ((h >>> 24).setWidth 8 ++ (h >>> 16).setWidth 8 ++ (h >>> 8).setWidth 8 ++ h.setWidth 8 : BitVec 32) = h := by
  ext i hi
  simp only [BitVec.getElem_append, BitVec.getElem_setWidth, BitVec.getLsbD_ushiftRight]
  repeat' split
  all_goals
    first
    | rfl
    | rw [← BitVec.getLsbD_eq_getElem]; congr 1; omega

/-- The parity bit turns the parity. -/
theorem headerParityGood_flip (r : BitVec 31) : headerParityGood (1#1 ++ r) = !headerParityGood (0#1 ++ r) := by
  have h : onesIn (1#1 ++ r) = onesIn (0#1 ++ r) + 1 := by
    simp only [onesIn, List.range, List.range.loop, List.foldl, BitVec.getLsbD_append, Nat.reduceLT,
      Nat.reduceSub, Nat.lt_irrefl]
    simp
  unfold headerParityGood
  rw [h]
  rcases Nat.mod_two_eq_zero_or_one (onesIn (0#1 ++ r)) with k | k <;> simp [Nat.add_mod, k]

/-- A header with its parity bit passes the parity check (R185). -/
theorem headerFor_good (op : BitVec 7) (t : Half) (n : Byte) : headerParityGood (headerFor op t n) = true := by
  unfold headerFor
  dsimp only
  split
  · assumption
  · rename_i h
    have e (b : BitVec 1) : (b ++ op ++ t ++ n : BitVec 32) = (b ++ (op ++ t ++ n : BitVec 31) : BitVec 32) := by
      ext i hi
      simp only [BitVec.getElem_append]
      repeat' split
      all_goals first | rfl | (exfalso; omega)
    rw [e] at h ⊢
    rw [headerParityGood_flip]; simpa using h

theorem headerFor_opcode (op : BitVec 7) (t : Half) (n : Byte) : headerOpcode (headerFor op t n) = op := by
  unfold headerFor headerOpcode
  dsimp only
  split <;> ext i hi <;> simp only [BitVec.getElem_setWidth, BitVec.getLsbD_ushiftRight, BitVec.getLsbD_append] <;>
    repeat' split
  all_goals first | (exfalso; omega) | (rw [← BitVec.getLsbD_eq_getElem]; congr 1; omega)

theorem headerFor_target (op : BitVec 7) (t : Half) (n : Byte) : headerTarget (headerFor op t n) = t := by
  unfold headerFor headerTarget
  dsimp only
  split <;> ext i hi <;> simp only [BitVec.getElem_setWidth, BitVec.getLsbD_ushiftRight, BitVec.getLsbD_append] <;>
    repeat' split
  all_goals first | (exfalso; omega) | (rw [← BitVec.getLsbD_eq_getElem]; congr 1; omega)

theorem headerFor_length (op : BitVec 7) (t : Half) (n : Byte) : headerLength (headerFor op t n) = n.toNat := by
  have h : (headerFor op t n).setWidth 8 = n := by
    unfold headerFor
    dsimp only
    split <;> ext i hi <;> simp only [BitVec.getElem_setWidth, BitVec.getLsbD_append, hi, if_true,
      BitVec.getLsbD_eq_getElem]
  unfold headerLength; rw [h]

/-- A transaction that has its header: parity, then completeness, then the CRC, then the command (R184 to R188). -/
theorem requestOf_header (h : BitVec 32) (rest : List Byte) (low : Nat) :
    requestOf (headerBytes h ++ rest) low =
      let data := rest.take (headerLength h)
      let crc : Half := rest.getD (headerLength h) 0 ++ rest.getD (headerLength h + 1) 0
      if headerParityGood h = false then .headerParityError { bits := h, low := low }
      else if rest.length < bytesCalledFor h then .shortTransaction
      else if headerLength h ≠ 0 ∧ crc16 (headerBytes h ++ data) ≠ crc then .badCrc h data crc
      else commandOf (headerOpcode h) (headerTarget h) data := by
  simp only [requestOf, headerBytes, List.cons_append, List.nil_append, headerBytes_joins]
  rfl

end Sys2Proof
end

