-- ==== Sys2Proof/Laws/Stalls.lean ====
section
/-! SUPPORT. Stalls and deliveries: where no air stands still, the deliveries of an event let no track enter a stall. -/
namespace Sys2Proof.Laws
open Sys2Proof.Machine

theorem recompute_slots (w : Work) (z : ZoneId) : (w.recompute z).st.slots = w.st.slots := by
  unfold Work.recompute; dsimp only; split <;> rfl

theorem memberMove_slots (w : Work) (old new : Option Membership) : (w.memberMove old new).st.slots = w.st.slots := by
  unfold Work.memberMove
  cases old with
  | none =>
    cases new with
    | none => rfl
    | some n => cases n <;> simp only [recompute_slots] <;> rfl
  | some m =>
    cases new with
    | none => cases m <;> simp only [recompute_slots] <;> rfl
    | some n => cases m <;> cases n <;> simp only [recompute_slots] <;> rfl

/-- Where no air stands still, no track enters a stall. -/
theorem Quiet.calm {s t : State} (h : Quiet s t) (hs : ∀ seg, s.segStalled seg = false) (i : SlotId) (k : Track)
    (hk : s.track? i = some k) (hn : k.stalledSince = none) : ∃ v, t.track? i = some v ∧ v.stalledSince = none := by
  cases h with
  | raise n => exact ⟨k, hk, hn⟩
  | served x l _ => exact ⟨k, hk, hn⟩
  | member old new =>
    refine ⟨k, ?_, hn⟩
    unfold State.track? at hk ⊢
    rw [memberMove_slots]; exact hk
  | track j f _ c =>
    by_cases e : i = j
    · subst e
      refine ⟨f k, ?_, ?_⟩
      · unfold State.track? at hk ⊢
        simpa using ⟨k, hk, rfl⟩
      · rcases c k hk hn with e | e
        · exact e
        · rw [hs] at e; cases e
    · refine ⟨k, ?_, hn⟩
      have e' : i.val ≠ j.val := fun q => e (Fin.ext q)
      unfold State.track? at hk ⊢
      simpa [e'] using hk

theorem Quiets.calm {s t : State} (h : Quiets s t) (hs : ∀ seg, s.segStalled seg = false) (i : SlotId) (k : Track)
    (hk : s.track? i = some k) (hn : k.stalledSince = none) : ∃ v, t.track? i = some v ∧ v.stalledSince = none := by
  induction h with
  | refl => exact ⟨k, hk, hn⟩
  | tail h q ih =>
    obtain ⟨v, hv, hvn⟩ := ih
    refine q.calm (fun seg => ?_) i v hv hvn
    have hk := Quiets.kept h
    have := hs seg
    unfold State.segStalled at this ⊢
    rw [hk.segments, hk.airflows]; exact this

theorem lineTo_slots (s : State) (l : LineId) (f : Line → Line) : (s.lineTo l f).slots = s.slots := by
  unfold State.lineTo; dsimp only; split <;> rfl

theorem refreshFault_slots (s : State) (k : FaultKind) (z : ZoneId) : (s.refreshFault k z).slots = s.slots := by
  unfold State.refreshFault
  dsimp only
  generalize (if s.faultPresent z k = true then s.zones[z].faults ||| 1#5 <<< k.bit
    else s.zones[z].faults &&& ~~~(1#5 <<< k.bit)) = new
  split <;> rfl

theorem moveShutter_slots (s : State) (i : ShutterId) (f : Shutter → Shutter) : (s.moveShutter i f).slots = s.slots := by
  unfold State.moveShutter
  dsimp only
  have h : (if s.shutters[i].entered (f s.shutters[i]) = true
      then (s.updShutter i fun _ => f s.shutters[i]).raise .shutter
      else s.updShutter i fun _ => f s.shutters[i]).slots = s.slots := by split <;> rfl
  generalize (if s.shutters[i].entered (f s.shutters[i]) = true
      then (s.updShutter i fun _ => f s.shutters[i]).raise .shutter
      else s.updShutter i fun _ => f s.shutters[i]) = t at h ⊢
  split
  · exact h
  · cases (f s.shutters[i]).sideB <;> simp only [Option.elim, refreshFault_slots, h]

/-- A small step that is not quiet touches no slot. -/
theorem Step.slots {s t : State} (h : Step s t) : Quiet s t ∨ t.slots = s.slots := by
  cases h with
  | quiet h => exact .inl h
  | station x f h => exact .inr rfl
  | release x dest hm h ht => exact .inr rfl
  | grant x hm hw hd => exact .inr rfl
  | gate g f h => exact .inr rfl
  | coast l c hu h => exact .inr (lineTo_slots _ _ _)
  | unqueue l c hu h => exact .inr (lineTo_slots _ _ _)
  | cold l c hu h => exact .inr (lineTo_slots _ _ _)
  | start l rest hm h hb =>
    refine .inr ?_
    unfold State.startLine State.checkRunning
    dsimp only
    split
    · rw [lineTo_slots, lineTo_slots]
    · rw [lineTo_slots]
  | close i hd h => exact .inr (moveShutter_slots _ _ _)
  | drop i h => exact .inr (moveShutter_slots _ _ _)
  | sirens z =>
    refine .inr ?_
    unfold State.sirensSee
    rfl

/-- Where no air stands still, the deliveries of an event let no track enter a stall. -/
theorem Steps.calm {s t : State} (h : Steps s t) (hs : ∀ seg, s.segStalled seg = false) (i : SlotId) (k : Track)
    (hk : s.track? i = some k) (hn : k.stalledSince = none) : ∃ v, t.track? i = some v ∧ v.stalledSince = none := by
  induction h with
  | refl => exact ⟨k, hk, hn⟩
  | tail h q ih =>
    obtain ⟨v, hv, hvn⟩ := ih
    rcases q.slots with q | e
    · refine q.calm (fun seg => ?_) i v hv hvn
      have hk := Steps.kept h
      have := hs seg
      unfold State.segStalled at this ⊢
      rw [hk.segments, hk.airflows]; exact this
    · refine ⟨v, ?_, hvn⟩
      unfold State.track? at hv ⊢
      rw [e]; exact hv
end Sys2Proof.Laws
end

