-- ==== Sys2Proof/Laws/Walk.lean ====
section
/-! SUPPORT. What the validation walk counts and follows, as the statements word it. -/
namespace Sys2Proof.Laws
open Sys2Proof.Machine

/-- The walk's count of a placement is the number of points that name it. -/
theorem timesPlaced_eq_placings (s : State) (what : Placed) : s.timesPlaced what = s.placings what := by
  unfold State.timesPlaced State.placings
  have fold : ∀ (l : List Segment) (f : Segment → Nat) (n : Nat),
      l.foldl (fun n g => n + f g) n = n + (l.map f).sum := by
    intro l f
    induction l with
    | nil => intro n; simp
    | cons g l ih => intro n; rw [List.foldl_cons, ih, List.map_cons, List.sum_cons]; omega
  have table : s.segments.toList = (List.finRange 128).map fun i => s.segments[i] := by
    apply List.ext_getElem
    · simp
    · intro i h k; simp
  rw [fold, table, List.map_map, Nat.zero_add]
  rfl

/-- A segment has a path that does not end within a length exactly if some path goes on for that many segments. -/
theorem pathEnds_eq_false (s : State) (n : Nat) (i : SegId) :
    s.pathEnds n i = false ↔ ∃ p : Nat → SegId, p 0 = i ∧ ∀ k < n, s.leadsTo (p k) (p (k + 1)) := by
  induction n generalizing i with
  | zero => exact ⟨fun _ => ⟨fun _ => i, rfl, by simp⟩, fun _ => rfl⟩
  | succ n ih =>
    have extend : (∃ p : Nat → SegId, p 0 = i ∧ ∀ k < n + 1, s.leadsTo (p k) (p (k + 1))) ↔
        ∃ j, s.leadsTo i j ∧ s.pathEnds n j = false := by
      constructor
      · rintro ⟨p, h0, h⟩
        exact ⟨p 1, h0 ▸ h 0 (by omega), (ih _).mpr ⟨fun k => p (k + 1), rfl, fun k hk => h (k + 1) (by omega)⟩⟩
      · rintro ⟨j, hj, h⟩
        obtain ⟨p, h0, hp⟩ := (ih j).mp h
        refine ⟨fun k => if k = 0 then i else p (k - 1), rfl, fun k hk => ?_⟩
        cases k with
        | zero => simpa [h0] using hj
        | succ k => simpa using hp k (by omega)
    rw [extend]
    rw [State.pathEnds]
    unfold State.leadsTo
    cases s.segments[i].outlet with
    | next j => simp
    | gate g =>
      simp only [Bool.and_eq_false_iff, or_and_right, exists_or, exists_eq_left]
    | ends u => simp

end Sys2Proof.Laws
end

