-- ==== Sys2Proof/Tests/Slice0.lean ====
section
/-! SUPPORT. The model's own tests: ill-formed terms that the check refuses, the worked values of the spec, and for every
obligation with hypotheses concrete states and operands that meet them. -/
namespace Sys2Proof.Tests
open Sys2Proof Sys2Proof.Machine
set_option Elab.async false

/-! ## Well-formed terms -/

theorem test_data_too_long : (Instr.loadLimits 0 (List.replicate 256 0)).wellFormed = false := by decide +kernel
theorem test_data_longest : (Instr.loadLimits 0 (List.replicate 255 0)).wellFormed = true := by decide +kernel
theorem test_assigned_opcode : (Instr.unknownOp 0x30 0 []).wellFormed = false := by decide
theorem test_unassigned_opcode : (Instr.unknownOp 0x33 0 []).wellFormed = true := by decide
theorem test_unknown_op_data_too_long : (Instr.unknownOp 0x33 0 (List.replicate 256 0)).wellFormed = false := by
  decide +kernel
theorem test_good_parity : (Instr.headerParityError { bits := 0xB0000500, low := 0 }).wellFormed = false := by decide
theorem test_bad_parity : (Instr.headerParityError { bits := 0x30000500, low := 7 }).wellFormed = true := by decide
theorem test_crc_right : (Instr.badCrc 0xB2000501 [3] (crc16 [0xB2, 0, 5, 1, 3])).wellFormed = false := by decide +kernel
theorem test_crc_no_data : (Instr.badCrc 0xB0000500 [] 0).wellFormed = false := by decide +kernel
theorem test_crc_length : (Instr.badCrc 0xB2000501 [3, 3] 0).wellFormed = false := by decide +kernel
theorem test_crc_parity : (Instr.badCrc 0x32000501 [3] 0).wellFormed = false := by decide
theorem test_crc_wrong : (Instr.badCrc 0xB2000501 [3] 0).wellFormed = true := by decide +kernel
theorem test_early_place : (Instr.stationEarlyBound 0 12).wellFormed = false := by decide
theorem test_late_place : (Instr.stationLateBound 0 12).wellFormed = false := by decide
theorem test_entry_place : (Instr.entryLateBound 0 12).wellFormed = false := by decide
theorem test_last_place : (Instr.entryLateBound 0 11).wellFormed = true := by decide

/-! ## Worked values -/

theorem test_crc_digits : crc16 [0x31, 0x32, 0x33, 0x34, 0x35, 0x36, 0x37, 0x38, 0x39] = 0x29B1 := by decide +kernel
theorem test_code_byte : encodeCode 0xB = 0x66 ∧ decodeCode 0x66 = some 0xB := by decide
theorem test_code_corrected : decodeCode 0xE6 = some 0xB ∧ decodeCode 0x76 = some 0xB := by decide
theorem test_code_uncorrectable : decodeCode 0x56 = none := by decide
theorem test_header_parity : headerParityGood 0xB0000500 = true ∧ headerParityGood 0x30000500 = false := by decide
theorem test_no_word_spells : decodeTableWord 32 0xB0000500 = none := rfl

/-! ## Small states -/

/-- The part in GUARD, nothing in use, 100 s after reset, with nothing due. -/
def guarded : State :=
  { State.reset with
    mode := .guarded, now := 1000000, nextGate := 1001000, nextSurvey := some 1005000, guardEntry := some 1000 }

/-- The walk about to end. -/
def walking : State := { State.reset with mode := .committing, now := 200, walkEnd := some 200 }

/-- One station in a state. -/
def withStation (s : State) (x : StationId) (f : Station → Station) : State := s.updStation x f

/-- A track in FLIGHT on S0, with a route. -/
def spark (route : List RouteItem) : Track :=
  { seq := 0, birthTick := 999000, origin := 0, glow := .spark, intensity := 90, state := .flight, current := 0,
    base := 999000, route := route, passes := [], covered := false, survived := 0, stationsCovered := 0,
    stationsUncovered := 0, lastUncovered := none, injected := false, diverted := false, hold := false,
    blindPass := false, note := none, escapeReason := none, stalledSince := none, lingerEnd := .absent,
    member := some (.live 0) }

/-- A pending entry on S0 with a window in ticks. -/
def entry (item : Item) (early late : Nat) (covering : Bool) : RouteItem :=
  { item := item, seg := 0, early := early, late := late, openEnd := false, conds := [], depth := 0, joined := true,
    covering := covering, lateStart := false, unserved := false, holds := item.station?.isSome }

/-- A slot that holds a track. -/
def withTrack (s : State) (i : SlotId) (k : Track) : State :=
  { s with slots := updAt s.slots i fun q => { q with track := some k } }

/-- S0 in use with detector D0 placed on it, of type SPARK. -/
def placed (s : State) : State :=
  (s.updSegment 0 fun g => { g with inUse := true, points := [{ what := .detector 0, position := 0 }] }).updChannel 0
    fun q => { q with type := .spark, state := .inService }

/-- What holds of every live track, as one check. -/
theorem every_track (s : State) (p : SlotId → Track → Bool)
    (h : ((List.finRange 48).all fun i => (s.track? i).elim true (p i)) = true) :
    ∀ (i : SlotId) (k : Track), s.track? i = some k → p i k = true := by
  intro i k e
  have := List.all_eq_true.mp h i (List.mem_finRange i)
  rw [e] at this
  exact this

theorem no_track (i : SlotId) (k : Track) : guarded.track? i ≠ some k := by
  intro e
  have := every_track guarded (fun _ _ => false) (by decide +kernel) i k e
  exact absurd this (by decide)

/-- A step took a state to a next one that `p` holds of. -/
def leaves (o : Host.Outcome State Fault Refusal) (p : State → Bool) : Bool :=
  match o with
  | .next t => p t
  | _ => false

/-! ## Steps, modes and resets: the hypotheses of the statements met -/

theorem test_front_command :
    leaves (step { State.reset with pending := [.powerUp] }) (fun t => t == State.reset) = true := by decide +kernel

theorem test_empty_queue :
    State.reset.pending = [] ∧ { State.reset with resetLow := true }.resetLow = true ∧
    { State.reset with now := 1000 }.nextDue = some .sampleGateBoundary ∧ State.reset.nextDue = none := by decide +kernel

/-- The events of R9 happen. -/
theorem test_mode_moves :
    leaves (exec .powerUp guarded) (fun t => t.mode == .config) = true ∧
    guarded.resetLow = false ∧ { guarded with link := { Link.reset with resetTaken := true } }.link.resetTaken = true ∧
    (State.reset.listens ∧ State.reset.mode = .config) ∧
    (walking.resetLow = false ∧ walking.mode = .committing ∧ reached walking.walkEnd walking.now = true ∧
      walking.listens) ∧
    (guarded.listens ∧ guarded.mode = .guarded ∧ ∀ z : ZoneId, guarded.zones[z].level.val < 2) := by decide +kernel

/-- The reset store passes the walk, and equal framing codes fail it. -/
theorem test_walk_ends :
    walking.firstViolation = none ∧
    { walking with limits := { Limits.reset with emberCode := 0xB4 } }.firstViolation = some .codesClose := by
  decide +kernel

theorem test_walk_to_guard : walking.linesOrdered ∧
    (let s := walking.updGate 0 fun q => { q with inUse := true, state := .abort }
     s.gates[(0 : GateId)].limitLost = true) := by
  refine ⟨⟨List.nodup_nil, ?_, ?_, ?_⟩, ?_⟩
  · decide +kernel
  · decide +kernel
  · intro _; decide +kernel
  · decide +kernel

/-- A layout that passes the walk, at its end: G0 settled without its limit, G7 travelling, G3 as it should stand, a line
that still runs down, a shutter in FAULT, an airflow channel with a sample, and sirens with counts. -/
def gated : State :=
  let seg (s : State) (i : SegId) (o : Outlet) : State := s.updSegment i fun g => { g with inUse := true, outlet := o }
  let gate (s : State) (g : GateId) (i : SegId) (st : GateState) : State :=
    s.updGate g fun q =>
      { q with inUse := true, owner := i, normalOut := 1, abortOut := 2, state := st, normalLimit := g == 3 }
  let s := seg (seg (seg (seg (seg walking 0 (.gate 0)) 1 (.ends 0)) 2 (.ends 1)) 3 (.gate 7)) 127 (.gate 3)
  let s := gate (gate (gate s 0 0 .abort) 7 3 .toNormal) 3 127 .normal
  let s := (s.updShutter 11 fun h => { h with state := .fault, sideB := some 15 }).updAirflow 15 fun a =>
    { a with inUse := true, sample := 7, stallChanged := some 5 }
  (s.updSiren 7 fun y => { y with blastIndex := 3, reportCount := 4, derated := true }).updLine 0 fun l =>
    { l with inUse := true, state := .stopping, cause := .fire }

theorem test_guard_entry_records :
    gated.resetLow = false ∧ gated.mode = .committing ∧ reached gated.walkEnd gated.now = true ∧
    gated.firstViolation = none ∧ (∀ i : SlotId, gated.track? i = none) ∧
    (∀ l : LineId, (gated.lines[l].inUse = false → gated.lines[l].state = .stopped) ∧
      (gated.lines[l].state = .stopped ∨ gated.lines[l].state = .stopping)) ∧
    leaves (exec .validationWalkEnd gated) (fun t =>
      t.gates[(0 : GateId)].state == .fault && t.gates[(3 : GateId)] == gated.gates[(3 : GateId)] &&
        t.gates[(7 : GateId)].timer == some 30200 && t.zones[(15 : ZoneId)].faults == 8 &&
        t.zones[(14 : ZoneId)].faults == 0 && t.lines[(0 : LineId)].cause == .config &&
        t.sirens[(7 : SirenId)].reportCount == 0 && t.airflows[(15 : AirId)].stallChanged == some 5) = true := by
  decide +kernel

theorem test_release_guard :
    (∃ z : ZoneId, 2 ≤ (guarded.updZone 3 fun q => { q with level := .alarm }).zones[z].level.val) ∧
    (let s := withTrack guarded 5 (spark [])
     (∀ z : ZoneId, s.zones[z].level.val < 2) ∧ ∃ (i : SlotId) (k : Track), s.track? i = some k ∧ k.state ≠ .spent) ∧
    (∀ (i : SlotId) (k : Track), guarded.track? i = some k → k.state = .spent) := by
  refine ⟨⟨3, by decide +kernel⟩, ⟨by decide +kernel, 5, spark [], by decide +kernel, by decide⟩, ?_⟩
  intro i k e
  exact absurd e (no_track i k)

theorem test_part_reset :
    guarded.resetLow = false ∧ { guarded with resetLow := true }.resetLow = true ∧
    guarded.link.resetTaken = false ∧ guarded.listens ∧ guarded.mode ≠ .committing := by decide +kernel

/-! ## The panel link -/

theorem test_request_shape :
    opcodeAssigned 0x7F = false ∧ opcodeAssigned 0x1D = false ∧ State.reset.listens ∧
    linkForm (.commit 1 []) = some (0, .nothing, 1, []) ∧
    linkForm (.loadPoint 0 [0]) = some (5, .instances, 0, [0]) := by decide +kernel

/-- READ ZONE naming Z5 and READ STATUS as the spec spells them (R185), and a command with data, whole and damaged. -/
theorem test_request_bytes :
    requestOf [0xB0, 0x00, 0x05, 0x00, 0, 0] 3 = .readZone 5 [] ∧
    requestOf [0xA1, 0x00, 0x00, 0x00, 0xFF, 0xFF, 0x12] 3 = .readStatus 0 [] ∧
    requestOf [0x39, 0x00, 0x05, 0x02, 0x00, 0x03, 139, 56, 0, 0] 3 = .manualRelease 5 [0x00, 0x03] ∧
    requestOf [0x39, 0x00, 0x05, 0x02, 0x00, 0x03, 139, 56, 0] 3 = .shortTransaction ∧
    requestOf [0x39, 0x00, 0x05, 0x02, 0x00, 0x03, 139, 57, 0, 0] 3 = .badCrc 0x39000502 [0x00, 0x03] 0x8B39 ∧
    requestOf [0x30, 0x00, 0x05, 0x00] 3 = .headerParityError { bits := 0x30000500, low := 3 } ∧
    requestOf [0x1F, 0x00, 0x00, 0x00, 0, 0] 3 = .unknownOp 0x1F 0 [] ∧
    requestBytes 0x30 5 [] = [0xB0, 0x00, 0x05, 0x00, 0, 0] ∧ [(0 : Byte), 3].length < 256 ∧
    opcodeOf (.readZone 5 []) = some 0x30 ∧ linkForm (.readZone 5 []) = some (0, .instances, 5, []) := by decide +kernel

theorem test_damaged :
    onesIn (0x30000500 : BitVec 32) % 2 = 0 ∧ onesIn (0xB2000501 : BitVec 32) % 2 = 1 ∧
    crc16 (headerBytes 0xB2000501 ++ [3]) ≠ 0 ∧ ((0xB2000501 : BitVec 32).setWidth 8).toNat = [(3 : Byte)].length ∧
    { State.reset with link := { Link.reset with alert := .held 5 } }.link.alert = .held 5 ∧
    { State.reset with link := { Link.reset with alert := .pulse } }.link.alert = .pulse := by decide +kernel

/-- After a parity error at mill time 0 whose chip select rises two ticks later the hold is over at tick 7; a hold that ends
at tick 5 does not at tick 4; ALERT returns high by itself, and so does a pulse. -/
theorem test_alert_ends :
    (let s := { State.reset with link := { Link.reset with alert := .held 5 } }
     leaves (exec (.headerParityError { bits := 0x30000500, low := 2 }) State.reset) (fun t => t.link.alert == .held 7) = true ∧
       leaves (exec .alertHoldEnd { s with now := 4 }) (fun t => t == { s with now := 4 }) = true ∧
       leaves (exec .alertHoldEnd { s with now := 5 }) (fun t => t == { State.reset with now := 5 }) = true ∧
       { s with now := 4 }.nextDue = none ∧ { s with now := 5 }.nextDue = some .alertHoldEnd ∧
       { State.reset with link := { Link.reset with alert := .pulse } }.nextDue = some .alertPulseEnd) := by decide +kernel

theorem test_damaged_bytes :
    [(0xB0 : Byte), 0, 5].length < 4 ∧ onesIn (0x39000502 : BitVec 32) % 2 = 1 ∧
    ((0x39000502 : BitVec 32).setWidth 8).toNat = [(0 : Byte), 3].length ∧
    [(0 : Byte), 3, 139, 57, 0].length < [(0 : Byte), 3].length + 4 ∧
    crc16 (headerBytes 0x39000502 ++ [0, 3]) ≠ (139 : Byte) ++ (57 : Byte) ∧
    onesIn (0xB0000500 : BitVec 32) % 2 = 1 ∧ ((0xB0000500 : BitVec 32).setWidth 8).toNat = 0 ∧
    [(0 : Byte)].length < 2 := by decide +kernel

theorem test_deaf_link :
    linkForm (.readStatus 0 []) ≠ none ∧ isOddTransaction .shortTransaction = true ∧
    Instr.shortTransaction.wellFormed = true ∧ { State.reset with resetLow := true }.resetLow = true ∧
    (let k := { Link.reset with ignoring := some 24, alert := .held 29 }
     let s := { State.reset with now := 24, link := k }
     (∀ rise, s.link.ignoring = some rise → rise ≤ s.now) ∧ s.link.alert = .held 29 ∧ 29 ≤ { s with now := 29 }.now ∧
       { s with now := 23 }.now < 24) ∧
    (∀ rise, State.reset.link.ignoring = some rise → rise ≤ State.reset.now) ∧
    (∀ stop, State.reset.link.alert ≠ .held stop) := by
  refine ⟨by decide, rfl, rfl, rfl, ⟨?_, rfl, by decide, by decide⟩, ?_, ?_⟩
  · rintro rise ⟨⟩; exact Nat.le_refl 24
  · rintro rise ⟨⟩
  · rintro stop ⟨⟩

/-- After the rise of RESET with chip select low for two ticks the link ignores what comes at tick 1 and listens at tick 2;
a transaction that falls in a parity hold reads 0xFF after the hold's end. -/
theorem test_ignored_to_its_end :
    leaves (exec (.resetLineHigh (some 2)) { State.reset with resetLow := true }) (fun t =>
      leaves (exec .shortTransaction { t with now := 1 }) (fun v => v.notices.short == 0 && v.link.fill == 0x00) &&
        leaves (exec .shortTransaction { t with now := 2 }) fun v => v.notices.short == 1) = true ∧
    leaves (exec .holdTransactionIgnored { State.reset with link := { Link.reset with alert := .held 5 } }) (fun t =>
      leaves (exec .alertHoldEnd { t with now := 5 }) fun u => !u.alertLow && u.link.fill == 0xFF) = true := by
  decide +kernel

theorem test_mode_step : goodRequest (.commit 0 []) walking ∧ modeGroup (.commit 0 []) = some .inConfig ∧
    ModeGroup.inConfig.answer walking.mode = some .busy ∧ goodRequest (.ackZone 0 []) guarded ∧
    modeGroup (.ackZone 0 []) = some .inGuard ∧ ModeGroup.inGuard.answer guarded.mode = none := by
  refine ⟨⟨by decide +kernel, 0, .nothing, 0, [], rfl, rfl, fun _ => rfl⟩, rfl, by decide +kernel,
    ⟨by decide +kernel, 0, .instances, 0, [], rfl, rfl, by decide⟩, rfl, by decide +kernel⟩

/-- The first number that names no zone, and a handle whose slot is free. -/
theorem test_targets : goodRequest (.ackZone 16 []) guarded ∧ targetCount (.ackZone 16 []) = some 16 ∧
    goodRequest (.retireTrack 0x2F00 []) guarded ∧ (0x2F00 : Half).toNat / 256 = (47 : SlotId).val ∧
    guarded.track? 47 = none ∧ goodRequest (.retireTrack 0x3000 []) guarded ∧ 48 ≤ (0x3000 : Half).toNat / 256 := by
  refine ⟨⟨by decide +kernel, 0, .instances, 16, [], rfl, rfl, by decide⟩, rfl,
    ⟨by decide +kernel, 0, .instances, 0x2F00, [], rfl, rfl, by decide⟩, by decide, by decide +kernel,
    ⟨by decide +kernel, 0, .instances, 0x3000, [], rfl, rfl, by decide⟩, by decide⟩

/-- The last instance of every kind, and a live track. -/
theorem test_reads :
    (State.reset.listens ∧ State.reset.mode ≠ .committing) ∧
    (31 : Half).toNat = (31 : ChanId).val ∧ (15 : Half).toNat = (15 : AirId).val ∧
    (23 : Half).toNat = (23 : StationId).val ∧ (7 : Half).toNat = (7 : GateId).val ∧
    (11 : Half).toNat = (11 : ShutterId).val ∧
    (let s := withTrack guarded 47 (spark [])
     (0x2F00 : Half).toNat / 256 = (47 : SlotId).val ∧ s.track? 47 = some (spark []) ∧
       s.slots[(47 : SlotId)].gen = (0x2F00 : Half).setWidth 8) := by decide +kernel

theorem test_listing :
    instOrWord 16 (0xFF : Byte).toNat = .ok (none : Option ZoneId) ∧
    instOrWord 16 (15 : Byte).toNat = .ok (some (15 : ZoneId)) ∧ guarded.listStart 0xFFFF = .ok none ∧
    ((0 : SlotId), (withTrack guarded 0 (spark [])).ageOf (spark [])) ∈
      (withTrack guarded 0 (spark [])).matching none 1 :=
  ⟨rfl, rfl, rfl, by decide +kernel⟩

/-- A start handle of no slot, a stale one of the last slot, and a zone filter of no zone. -/
theorem test_listing_refused :
    ((0x3000 : Half) ≠ 0xFFFF ∧ 48 ≤ ((0x3000 : Half) >>> 8).toNat) ∧
    (((0x2F00 : Half) >>> 8).toNat = (47 : SlotId).val ∧ guarded.slots[(47 : SlotId)].track = none) ∧
    (let s := withTrack guarded 47 (spark [])
     s.slots[(47 : SlotId)].gen ≠ (0x2F01 : Half).setWidth 8 ∧ s.slots[(47 : SlotId)].gen = (0x2F00 : Half).setWidth 8 ∧
       leaves (exec (.listTracks 0x2F01 [16, 15]) s) (fun t => t == s.replyWith (.bare .stale)) = true ∧
       leaves (exec (.listTracks 0x2F00 [16, 15]) s) (fun t => t == s.replyWith (.bare .noSuch)) = true) ∧
    (16 ≤ (16 : Byte).toNat ∧ (16 : Byte) ≠ 255) := by decide +kernel

/-! ## Loads -/

theorem test_load_limits : State.reset.listens ∧ State.reset.mode = .config ∧
    (List.replicate 13 (0 : Byte)).length = 13 := by decide +kernel

theorem test_load_segment :
    instOrWord 16 (natAt [1, 0, 1, 15, 0, 0, 15, 7, 1, 7, 1] 3) = .ok (some (15 : AirId)) ∧
    instOf 16 (natAt [1, 0, 1, 15, 0, 0, 15, 7, 1, 7, 1] 6) = .ok (15 : ZoneId) ∧
    instOf 8 (natAt [1, 0, 1, 15, 0, 0, 15, 7, 1, 7, 1] 7) = .ok (7 : LineId) ∧
    flagOf (natAt [1, 0, 1, 15, 0, 0, 15, 7, 1, 7, 1] 0) = .ok true ∧
    outletOf 1 7 = .ok (.gate 7) ∧ outletOf 0 127 = .ok (.next 127) ∧ outletOf 2 9 = .ok (.ends 9) ∧
    oneOf [EndKind.protectedEnd, .safeEnd] 1 = .ok .safeEnd ∧ (127 : Half).toNat = (127 : SegId).val :=
  ⟨rfl, rfl, rfl, rfl, rfl, rfl, rfl, rfl, rfl⟩

/-- A full list, a segment not in use, a point held, a free place, and a removal. -/
theorem test_load_point :
    placedOf 0 31 = .ok (.detector 31) ∧ placedOf 1 23 = .ok (.station 23) ∧
    4 ≤ (State.reset.updSegment 0 fun g =>
        { g with inUse := true, points := List.replicate 4 { what := .detector 0, position := 0 } }).segments[
          (0 : SegId)].points.length ∧
    (State.reset.segments[(0 : SegId)].inUse = false ∧ State.reset.segments[(0 : SegId)].points.length < 4) ∧
    ((placed State.reset).segments[(0 : SegId)].inUse = true ∧
      (∃ p ∈ (placed State.reset).segments[(0 : SegId)].points, p.what = .detector 0) ∧
      ∀ p ∈ (placed State.reset).segments[(0 : SegId)].points, p.what ≠ .station 23) ∧
    natAt [0, 0, 0, 0, 0] 0 = 0 ∧ natAt [1, 0, 0, 0, 0] 0 = 1 ∧ 2 ≤ natAt [2, 0, 0, 0, 0] 0 :=
  ⟨rfl, rfl, by decide +kernel⟩

theorem test_load_gate :
    instOf 128 (natAt [1, 127, 0, 1, 2, 1] 1) = .ok (127 : SegId) ∧
    flagOf (natAt [1, 127, 0, 1, 2, 1] 5) = .ok true ∧ flagOf (natAt [1, 127, 0, 1, 2, 1] 0) = .ok true ∧
    (State.reset.gates[(7 : GateId)].state = .toAbort ∧ State.reset.gates[(7 : GateId)].inUse = false ∧
      ¬(State.reset.gates[(7 : GateId)].abortLimit = true ∧ State.reset.gates[(7 : GateId)].normalLimit = false)) ∧
    (let s := State.reset.updGate 7 fun q => { q with abortLimit := true }
     s.gates[(7 : GateId)].inUse = false ∧ s.gates[(7 : GateId)].state = .toAbort ∧
       s.gates[(7 : GateId)].abortLimit = true ∧ s.gates[(7 : GateId)].normalLimit = false) :=
  ⟨rfl, rfl, rfl, by decide +kernel⟩

theorem test_load_line_station :
    instOf 8 7 = .ok (7 : FanId) ∧ instOrWord 8 255 = .ok (none : Option FanId) ∧ flagOf 1 = .ok true ∧
    instOrWord 16 15 = .ok (some (15 : TempId)) ∧ State.reset.lines[(7 : LineId)].state ≠ .stopping ∧
    (State.reset.updLine 7 fun q => { q with inUse := true, state := .stopping }).lines[(7 : LineId)].state =
      .stopping :=
  ⟨rfl, rfl, rfl, rfl, by decide +kernel⟩

theorem test_load_inputs :
    oneOf [ChanType.off, .spark, .ember, .dual] (3 : Byte).toNat = .ok .dual ∧ flagOf (1 : Byte).toNat = .ok true ∧
    flagOf (natAt [1, 0, 1] 0) = .ok true ∧ instOf 16 (natAt [1, 15, 0, 0, 0, 0, 0, 0] 1) = .ok (15 : ZoneId) :=
  ⟨rfl, rfl, rfl, rfl⟩

theorem test_load_outputs :
    instOrWord 16 (natAt [15, 255, 2, 1] 1) = .ok (none : Option ZoneId) ∧
    instOrWord 16 (natAt [0, 1, 255, 0, 0] 2) = .ok (none : Option TempId) ∧
    flagOf (natAt [3, 0, 1, 1, 1, 0, 1, 0, 0] 1) = .ok false ∧
    natAt [15, 255, 2, 1] 0 = (15 : ZoneId).val ∧ natAt [15, 255, 2, 1] 2 = Level.alarm.val ∧ 2 ≤ Level.alarm.val ∧
    natAt [3, 0, 1, 1, 1, 0, 1, 0, 0] 0 = Level.fire.val :=
  ⟨rfl, rfl, rfl, by decide +kernel⟩

/-- The least numbers that name no instance, and the least that are no choice. -/
theorem test_load_refusals :
    (16 ≤ natAt [0, 0, 1, 16] 3 ∧ natAt [0, 0, 1, 16] 3 ≠ 255 ∧
      natAt [0, 0, 1, 255, 0, 0, 15, 7, 0, 128, 0] 8 = 0 ∧ 128 ≤ natAt [0, 0, 1, 255, 0, 0, 15, 7, 0, 128, 0] 9 ∧
      natAt [0, 0, 1, 255, 0, 0, 15, 7, 1, 8, 0] 8 = 1 ∧ 8 ≤ natAt [0, 0, 1, 255, 0, 0, 15, 7, 1, 8, 0] 9) ∧
    (let d : List Byte := [2, 0, 1, 255, 0, 0, 15, 7, 2, 255, 0]
     d.length = 11 ∧ natAt d 3 = 255 ∧ natAt d 6 < 16 ∧ natAt d 7 < 8 ∧ natAt d 8 = 2 ∧ 2 ≤ natAt d 0) ∧
    (let d : List Byte := [0, 2, 31, 0, 0]
     d.length = 5 ∧ natAt d 1 ≠ 1 ∧ natAt d 2 < 32 ∧ 2 ≤ natAt d 1 ∧ 32 ≤ natAt [0, 0, 32, 0, 0] 2 ∧
       natAt [0, 1, 24, 0, 0] 1 = 1 ∧ 24 ≤ natAt [0, 1, 24, 0, 0] 2) ∧
    (128 ≤ natAt [1, 127, 127, 128, 2, 1] 3 ∧ 2 ≤ natAt [1, 127, 127, 127, 2, 2] 5 ∧
      natAt [1, 127, 127, 127, 2, 2] 1 < 128) ∧
    (8 ≤ natAt [1, 7, 8] 2 ∧ natAt [1, 7, 8] 2 ≠ 255 ∧ 2 ≤ natAt [2, 7, 255] 0 ∧ natAt [2, 7, 255] 2 = 255) ∧
    (let d : List Byte := [1, 1, 0, 0, 0, 0, 0, 0, 1, 1, 1, 255, 2]
     d.length = 13 ∧ natAt d 11 = 255 ∧ 2 ≤ natAt d 12 ∧ 16 ≤ natAt [1, 1, 0, 0, 0, 0, 0, 0, 1, 1, 1, 16, 1] 11) ∧
    (4 ≤ (4 : Byte).toNat ∧ 2 ≤ (2 : Byte).toNat ∧ 16 ≤ natAt [1, 16] 1 ∧ natAt [2, 15] 1 < 16) ∧
    (let d : List Byte := [255, 255, 2, 1]
     d.length = 4 ∧ natAt d 0 = 255 ∧ natAt d 1 = 255 ∧ natAt [15, 255, 1, 1] 2 ≠ 2 ∧ natAt [15, 255, 1, 1] 2 ≠ 3 ∧
       16 ≤ natAt [15, 16, 2, 1] 1) ∧
    (natAt [0, 0] 0 = 0 ∧ 4 ≤ natAt [4, 0] 0 ∧ 2 ≤ natAt [1, 2] 1) := by decide +kernel

/-! ## Detectors and inputs -/

/-- D0 received in GUARD. -/
def receiving (r : Receiver) : State :=
  guarded.updChannel 0 fun q => { q with type := .spark, state := .inService, receiver := r }

/-- The bits of a byte, the first received first. -/
def byteBits (b : Byte) : List Bool := (List.range 8).map b.getLsbD

theorem test_bits :
    (guarded.resetLow = false ∧ ¬(guarded.mode = .guarded ∧ guarded.channels[(0 : ChanId)].type ≠ .off)) ∧
    ((receiving (.hunting [])).mode = .guarded ∧ (receiving (.hunting [])).channels[(0 : ChanId)].type ≠ .off) ∧
    (lastEight (byteBits 0xB4)).length = 8 ∧ onesIn (bitsByte (lastEight (byteBits 0xB4)) ^^^ 0xB4) = 0 ∧
    onesIn (bitsByte (byteBits 0x2D) ^^^ 0xB4) > 1 ∧ (byteBits 0x66 ++ byteBits 0x66).length < 31 := by decide +kernel

/-- The frames of the three kinds, an uncorrectable one, a repeat, and the last tick of an incomplete one. -/
theorem test_frames :
    (receiving (.collecting .spark 999980 [])).channels[(0 : ChanId)].receiver = .collecting .spark 999980 [] ∧
    999980 + 20 ≤ (receiving (.collecting .spark 999980 [])).now ∧
    (ChanType.spark.takes .ember = false ∧ ChanType.spark.takes .spark = true) ∧
    (byteBits 0x00 ++ byteBits 0x66 ++ byteBits 0x00 ++ (byteBits 0x66).dropLast).length = 31 ∧
    frameOf (byteBits 0x00 ++ byteBits 0x66 ++ byteBits 0x00 ++ byteBits 0x66) =
      some { kind := .event, intensity := 0xB0, sequence := 0xB } ∧
    frameOf (byteBits 0x56 ++ byteBits 0x66 ++ byteBits 0x00 ++ byteBits 0x66) = none ∧
    (frameOf (byteBits (encodeCode 1) ++ byteBits 0 ++ byteBits 0 ++ byteBits 0)).map (fun f => f.kind) =
      some .testEcho ∧
    (frameOf (byteBits (encodeCode 2) ++ byteBits 0 ++ byteBits 0 ++ byteBits 0)).map (fun f => f.kind) =
      some .headFault ∧
    ({ Channel.reset with lastAccepted := some { sequence := 3, time := 999950 } }.repeats
      { kind := .event, intensity := 9, sequence := 3 } 1000000 = true) ∧
    ({ Channel.reset with lastAccepted := some { sequence := 3, time := 999949 } }.repeats
      { kind := .event, intensity := 9, sequence := 3 } 1000000 = false) := by decide +kernel

/-- The bits of a frame with intensity 90 and sequence 7, of a kind, and D0 placed and one bit short of it. -/
def frameBits (kind : BitVec 4) : List Bool :=
  byteBits (encodeCode kind) ++ byteBits (encodeCode 5) ++ byteBits (encodeCode 10) ++ byteBits (encodeCode 7)
def oneShort (kind : BitVec 4) : State :=
  (placed guarded).updChannel 0 fun q => { q with receiver := .collecting .spark 999990 (frameBits kind).dropLast }

/-- A full table, a track in every slot, the later the younger. -/
def full (f : SlotId → Track) (s : State) : State :=
  { s with slots := Vector.ofFn fun i => { gen := 3, track := some { f i with seq := BitVec.ofNat 32 i.val } },
           nextSeq := 48 }

/-- A frame error at the last count of either state, an echo that brings a channel back, and a head fault. -/
theorem test_channel_moves :
    (∀ kind ∈ [0, 1, 2],
      (oneShort kind).channels[(0 : ChanId)].receiver = .collecting .spark 999990 (frameBits kind).dropLast ∧
      (frameBits kind).dropLast.length = 31 ∧ frameOf (frameBits kind) =
        some { kind := if kind = 0 then .event else if kind = 1 then .testEcho else .headFault,
               intensity := 90, sequence := 7 } ∧
      (oneShort kind).channels[(0 : ChanId)].repeats { kind := .event, intensity := 90, sequence := 7 } 999990 =
        false) ∧
    (∀ n ∈ [7, 255], ∀ st ∈ [ChanState.blind, .inService],
      let s := (oneShort 0).updChannel 0 fun q => { q with state := st, errors := n }
      s.channels[(0 : ChanId)].state = st ∧ 7 ≤ s.channels[(0 : ChanId)].errors) ∧
    (oneShort 2).channels[(0 : ChanId)].state = .inService := by decide +kernel

/-- A qualified event with a candidate by its plan and by a recent pass, with a free slot, with a slot to reclaim, and with
none. -/
theorem test_qualified :
    (let s := oneShort 0
     s.channels[(0 : ChanId)].threshold.toNat ≤ 90 ∧ s.placeOf (.detector 0) = some (0, 0) ∧
       (∀ i : SlotId, s.track? i = none) ∧ ∀ j : SlotId, ¬j < 0) ∧
    (let r := entry (.detector 0) 990 991 false
     let s := withTrack (oneShort 0) 47 (spark [r])
     s.track? 47 = some (spark [r]) ∧ (spark [r]).base + r.early ≤ 999990 ∧ 999990 ≤ (spark [r]).base + r.late ∧
       r.joined = true ∧ ∀ j : SlotId, j ≠ 47 → s.track? j = none) ∧
    (let k := { spark [] with passes := [{ detector := 0, opens := 999990, closes := 999990, leaves := 1000006 }] }
     (withTrack (oneShort 0) 47 k).track? 47 = some k) ∧
    (let s := full (fun i => { spark [] with state := if i = 9 ∨ i = 20 then .spent else .flight }) (oneShort 0)
     (∀ i : SlotId, s.track? i ≠ none) ∧
       (∀ i : SlotId, (s.track? i).all fun k => k.state != .spent || i == 9 || i == 20) ∧
       ((s.track? 9).map s.ageOf = some 39 ∧ (s.track? 20).map s.ageOf = some 28) ∧
       s.placeOf (.detector 0) = some (0, 0)) ∧
    (let s := (full (fun _ => spark []) (oneShort 0)).updLine 0 fun q => { q with inUse := true, state := .running }
     (∀ i : SlotId, (s.track? i).any fun k => k.state == .flight && k.route.isEmpty && k.passes.isEmpty) ∧
       s.lines[s.segments[(0 : SegId)].line].inUse = true) := by decide +kernel

theorem test_table_full_lines :
    ((full (fun _ => spark []) (oneShort 0)).updLine 0 fun q =>
      { q with inUse := true, state := .running }).linesOrdered := by
  refine ⟨List.nodup_nil, ?_, ?_, fun h => absurd h (by decide +kernel)⟩ <;> decide +kernel

/-- The reports of what a qualified event does: taken by a candidate, born, born in a reclaimed slot, TABLE_FULL. -/
theorem test_qualified_effects :
    leaves (exec (.frameComplete 0 ((frameBits 0).getLast?.getD false))
        (withTrack (oneShort 0) 47 (spark [entry (.detector 0) 990 991 false])))
      (fun t => (t.track? 47).any (fun k => k.base == 999990 && k.birthTick == 999000) && t.nextSeq == 0) = true ∧
    leaves (exec (.frameComplete 0 ((frameBits 0).getLast?.getD false)) (oneShort 0))
      (fun t => (t.track? 0).any (fun k => k.birthTick == 999990 && !k.injected) && t.nextSeq == 1) = true ∧
    leaves (exec (.frameComplete 0 ((frameBits 0).getLast?.getD false))
        (full (fun i => { spark [] with state := if i = 9 ∨ i = 20 then .spent else .flight }) (oneShort 0)))
      (fun t => (t.track? 9).any (fun k => k.seq == 48) && t.slots[(9 : SlotId)].gen == 4) = true ∧
    leaves (exec (.frameComplete 0 ((frameBits 0).getLast?.getD false)) (full (fun _ => spark []) (oneShort 0)))
      (fun t => t.zones[(0 : ZoneId)].tableFull && t.zones[(0 : ZoneId)].level == .alarm) = true := by decide +kernel

theorem test_supervision :
    reached { guarded with nextSurvey := some 1000000 }.nextSurvey guarded.now = true ∧
    (let s := (receiving (.hunting [])).updChannel 0 fun q =>
      { q with nextPulse := some 1000000, testDrive := some 1000000, echoWindow := some 999000 }
     reached s.channels[(0 : ChanId)].nextPulse s.now = true ∧ reached s.channels[(0 : ChanId)].testDrive s.now = true ∧
       s.channels[(0 : ChanId)].echoWindow = some 999000 ∧ 999000 + 1000 ≤ s.now ∧
       s.channels[(0 : ChanId)].missed = 0 ∧ s.channels[(0 : ChanId)].state = .inService) := by decide +kernel

theorem test_gates_of_inputs :
    (({ State.reset with now := 1000 }).nextGate ≤ 1000 ∧ State.reset.mode ≠ .guarded) ∧
    { guarded with nextGate := 1000000 }.nextGate ≤ guarded.now ∧
    (let s := guarded.updAirflow 0 fun q =>
      { q with inUse := true, history := some { oldest := 1, second := 2, third := 3, newest := 4 }, stall := .flowing }
     s.airflows[(0 : AirId)].inUse = true ∧ s.airflows[(0 : AirId)].discard = false ∧
       s.airflows[(0 : AirId)].history = some { oldest := 1, second := 2, third := 3, newest := 4 }) ∧
    (let s := guarded.updTemp 15 fun q => { q with inUse := true, pulse := some 500 }
     s.temps[(15 : TempId)].inUse = true ∧ s.temps[(15 : TempId)].discard = false ∧
       s.temps[(15 : TempId)].pulse = some 500) := by decide +kernel

/-- The tenth boundary without a valid reading, and a reading that sets the flags of its zone. -/
theorem test_missing_reading :
    (∀ w ∈ [none, some 499, some 3401],
      let s := { guarded with nextGate := 1000000 }.updTemp 15 fun q =>
        { q with inUse := true, missing := 9, state := .reading, zone := 15, pulse := w }
      s.temps[(15 : TempId)].discard = false ∧ s.nextGate ≤ s.now ∧
        leaves (exec .sampleGateBoundary s) (fun t => t.temps[(15 : TempId)].state == .sensorFault &&
          t.zones[(15 : ZoneId)].faults == 16) = true) ∧
    (let s := { guarded with nextGate := 1000000 }.updTemp 15 fun q =>
       { q with inUse := true, zone := 15, pulse := some 3400, fireAt := 2500, alarmAt := 2500 }
     leaves (exec .sampleGateBoundary s) (fun t => t.temps[(15 : TempId)].fire && !s.temps[(15 : TempId)].fire &&
       t.zones[(15 : ZoneId)].latched == .fire) = true) := by decide +kernel

/-- One track on S0, fed by A15, as a boundary makes its channel STALLED, and FLOWING again. -/
def fed (k : Track) (stall : StallState) (count : Nat) : State :=
  ((withTrack { guarded with nextGate := 1000000 } 0 k).updSegment 0 fun g => { g with inUse := true, source := some 15 }
    ).updAirflow 15 fun a =>
      { a with inUse := true, count := count, stall := stall,
               history := some { oldest := count, second := count, third := count, newest := count } }

theorem test_stall_event :
    (∀ st ∈ [TrackState.flight, .escaped],
      let k : Track := { spark [entry (.entry none) 0 0 false] with state := st, passes := [] }
      let s := fed k .flowing 0
      s.airflows[(15 : AirId)].stall ≠ .stalled ∧ s.track? 0 = some k ∧ k.stalledSince = none ∧
        (∀ j : SlotId, j ≠ 0 → s.track? j = none) ∧ s.segments[k.current].source = some 15 ∧
        (∀ j : TempId, s.temps[j].inUse = false) ∧ (∀ z : ZoneId, s.zones[z].faults.getLsbD 4 = false) ∧
        (∀ x : StationId, s.stations[x].served = []) ∧
        leaves (exec .sampleGateBoundary s) (fun t => t.airflows[(15 : AirId)].stall == .stalled &&
          (t.track? 0).any fun v => v.stalledSince == some 1000000 &&
            v.state == if st = .flight then .stalled else .escaped) = true) ∧
    (let k : Track := { spark [entry (.entry none) 0 0 false] with state := .stalled, stalledSince := some 900000 }
     let s := fed k .stalled 600
     s.airflows[(15 : AirId)].stall = .stalled ∧ k.stalledSince ≠ none ∧ k.state = .stalled ∧
       leaves (exec .sampleGateBoundary s) (fun t => (List.finRange 16).all (fun b => t.airflows[b].stall != .stalled) &&
         t.airflows[(15 : AirId)].stall == .flowing &&
         (t.track? 0).any fun v => v.stalledSince == none && v.base == 1000000) = true) := by decide +kernel

theorem test_pieces : 0 < (1 : Nat) ∧ (30 : Nat) < 100 ∧ earlyPiece 10 180 900 = 4545 := by decide

/-! ## Tracks and plans -/

/-- Slot 47 with a track in a state. -/
def tracked (state : TrackState) : State := withTrack guarded 47 { spark [] with state := state }

theorem test_annotate :
    (tracked .flight).listens ∧ (0x2F00 : Half).toNat / 256 = (47 : SlotId).val ∧
    (tracked .flight).track? 47 = some (spark []) ∧
    (tracked .flight).slots[(47 : SlotId)].gen = (0x2F00 : Half).setWidth 8 ∧ 3 ≤ (3 : Byte).toNat ∧
    (2 : Byte).toNat < 3 := by decide +kernel

theorem test_retire :
    (tracked .spent).track? 47 = some { spark [] with state := .spent } ∧ (tracked .spent).mode = .guarded ∧
    (withTrack guarded 0 { spark [] with state := .spent, lingerEnd := .until 1000000, hold := true }).track? 0 =
      some { spark [] with state := .spent, lingerEnd := .until 1000000, hold := true } ∧
    1000000 ≤ guarded.now := by decide +kernel

theorem test_inject :
    oneOf [Glow.spark, .ember] (1 : Byte).toNat = .ok .ember ∧
    guarded.channels[(0 : ChanId)].type = .off ∧ (placed guarded).channels[(0 : ChanId)].type ≠ .off ∧
    (placed guarded).placeOf (.detector 0) = some (0, 0) ∧
    ((placed guarded).track? 0 = none ∧ ∀ j : SlotId, j < 0 → (placed guarded).track? j ≠ none) ∧
    (let full := { placed guarded with slots := Vector.replicate 48 { gen := 0, track := some (spark []) } }
     ∀ i : SlotId, (full.track? i).isSome = true ∧ full.slots[i].track = some (spark [])) :=
  ⟨rfl, by decide +kernel⟩

/-- The oldest SPENT track without HOLD of a full table is the one reclaimed. -/
theorem test_inject_reclaims :
    (let s := full (fun i => { spark [] with state := if i = 0 ∨ i = 9 then .spent else .flight, hold := i == 0 })
        (placed guarded)
     (∀ j : SlotId, s.track? j ≠ none) ∧ (s.track? 9).any (fun k => k.state == .spent && !k.hold) = true ∧
       (∀ j : SlotId, j ≠ 9 → (s.track? j).all (fun k => k.state != .spent || k.hold) = true) ∧
       leaves (exec (.injectTrack 0 [0, 90]) s)
         (fun t => t.slots[(9 : SlotId)].gen == 4 && (t.track? 9).any fun k => k.injected) = true) := by decide +kernel

theorem test_track_timers :
    (let k := { spark [] with state := .stalled, stalledSince := some 900000 }
     (withTrack guarded 0 k).track? 0 = some k ∧ 900000 + guarded.limits.stallLimit * 10000 ≤ guarded.now) ∧
    (let k := spark [{ entry (.entry none) 0 0 false with seg := 1 }]
     let s := withTrack guarded 0 k
     s.track? 0 = some k ∧ k.state = .flight ∧ k.stalledSince = none ∧ currentOf k.route k.base s.now = some 1 ∧
       s.membershipOf { k with current := 1 } = k.member ∧ s.segStalled 1 = false ∧
       ∀ r ∈ k.route, r.item = .entry none) ∧
    (let k := { spark [] with passes := [{ detector := 0, opens := 0, closes := 999984, leaves := 1000000 }] }
     (withTrack guarded 0 k).track? 0 = some k ∧ ∃ p ∈ k.passes, p.leaves ≤ guarded.now) := by decide +kernel

/-- Where a route puts its track: the last due entry, that of the other segment at its early bound and not a tick before. -/
theorem test_current_of :
    (let far := { entry (.entry none) 1000 2000 false with seg := 5 }
     let route := [entry (.entry none) 0 0 false, far, { far with early := 900, conds := [{ gate := 7, side := .abort }] }]
     currentOf route 999000 1000000 = some 5 ∧ currentOf route 999000 999999 = some 0 ∧
       currentOf route 999000 998999 = none) := by decide +kernel

/-- A track of slot 47 that stands on S0 and whose route has reached S5. -/
def passing (st : TrackState) (m : Membership) (ends : List RouteItem) : Track :=
  { spark ([entry (.entry none) 0 0 false, { entry (.entry none) 100 200 false with seg := 5 }] ++ ends) with
    state := st, member := some m, covered := true }

/-- S5 in Z9, with no airflow channel. -/
def beyond (k : Track) : State := (withTrack guarded 47 k).updSegment 5 fun g => { g with inUse := true, zone := 9 }

/-- An advance from Z0 into Z9, of a FLIGHT and of an ESCAPED track. -/
theorem test_advance_moves :
    ∀ e ∈ [false, true],
      let k := passing (if e then .escaped else .flight) (if e then .escaped 0 else .live 0) []
      let s := (beyond k).updZone 0 fun q =>
        if e then { q with escaped := 1, latched := .alarm, level := .alarm } else { q with live := 1, level := .watch }
      s.track? 47 = some k ∧ k.stalledSince = none ∧ currentOf k.route k.base s.now = some 5 ∧ 5 ≠ k.current ∧
        s.segStalled 5 = false ∧ s.segments[(5 : SegId)].zone = 9 ∧
        (∀ z : ZoneId, s.zones[z].level = s.zones[z].computed) ∧ (∀ r ∈ k.route, r.item.isEntry = true) ∧
        leaves (exec (.segmentAdvance 47) s) (fun t =>
          t.zones[(9 : ZoneId)].level == (if e then .alarm else .watch) &&
            t.zones[(0 : ZoneId)].level == (if e then .alarm else .normal) &&
            (t.track? 47).any fun v => v.current == 5 && v.member == some (if e then .escaped 9 else .live 9)) = true := by
  decide +kernel

/-- S5 on A15. -/
def beyondAir (k : Track) (stall : StallState) : State :=
  ((withTrack guarded 47 k).updSegment 5 fun g =>
    { g with inUse := true, source := some 15, length := 300, outlet := .ends 4, endKind := .safeEnd }).updAirflow 15
      fun a => { a with inUse := true, stall := stall, smoothed := some 900 }

/-- An advance into stalled air, of a FLIGHT and of an ESCAPED track whose served entry has opened. -/
theorem test_advance_stalls :
    ∀ e ∈ [false, true],
      let k := passing (if e then .escaped else .flight) (if e then .escaped 0 else .live 0) [entry (.gate 2) 5 9000 false]
      let s := (beyondAir k .stalled).updStation 3 fun q => { q with served :=
        [{ handle := { slot := 47, gen := 0 }, opens := 0, closes := 2000000, deadline := 9, active := true, noted := true,
           resolved := false }] }
      s.track? 47 = some k ∧ currentOf k.route k.base s.now = some 5 ∧ s.segStalled 5 = true ∧
        s.membershipOf { k with current := 5 } = k.member ∧
        (∀ x : StationId, ∀ v ∈ s.stations[x].served, v.handle = s.handleOf 47 → v.active = true) ∧
        leaves (exec (.segmentAdvance 47) s) (fun t => (t.track? 47).any fun v =>
          v.stalledSince == some 1000000 && v.route.length == 1 && v.state == (if e then .escaped else .stalled)) = true := by
  decide +kernel

/-- An advance into the segment of an unconditional STALL_END whose air has returned, which ends in a SAFE_END now. -/
theorem test_advance_stall_end :
    (let r : RouteItem := { entry (.terminal .stallEnd none false) 100 1001 false with seg := 5 }
     let k := passing .flight (.live 0) [r]
     let s := beyondAir k .flowing
     s.track? 47 = some k ∧ currentOf k.route k.base s.now = some 5 ∧ (∀ o : SegId, s.segStalled o = false) ∧
       s.membershipOf { k with current := 5 } = k.member ∧
       (∀ x : StationId, ∀ v ∈ s.stations[x].served, v.handle ≠ s.handleOf 47) ∧
       s.segments[(5 : SegId)].points = [] ∧ s.segments[(5 : SegId)].outlet = .ends 4 ∧
       s.segments[(5 : SegId)].endKind = .safeEnd ∧
       r.early + earlyPiece s.limits.tol (s.velocity 5) s.segments[(5 : SegId)].length < 200000 ∧
       s.now < k.base + min 200000 (r.late + latePiece s.limits.tol (s.velocity 5) s.segments[(5 : SegId)].length) ∧
       leaves (exec (.segmentAdvance 47) s) (fun t => (t.track? 47).any fun v => v.stalledSince == none &&
         v.current == 5 && (v.route.map fun q => q.item) ==
           [.entry none, .entry none, .terminal .safeEnd none false]) = true) := by decide +kernel

/-- A pending entry at its early bound, a covering one and others at their late bounds. -/
theorem test_plan_entries :
    (let r := entry (.station 0) 1000 2000 false
     let s := withTrack guarded 0 (spark [r])
     s.track? 0 = some (spark [r]) ∧ s.planEntry 0 0 = some (0, r) ∧ r.covering = false ∧
       (spark [r]).base + r.early ≤ s.now ∧ (∀ p ∈ (spark [r]).route, p.isPoint = true → p.joined = true) ∧
       (withStation s 0 fun q => { q with state := .releasing }).stations[(0 : StationId)].state = .releasing) ∧
    (let r := entry (.station 0) 500 1000 true
     let s := withTrack guarded 0 (spark [r])
     s.planEntry 0 0 = some (0, r) ∧ r.covering = true ∧ (spark [r]).base + r.late ≤ s.now) ∧
    (let r := entry (.detector 0) 500 1000 false
     let s := withTrack guarded 0 (spark [r])
     s.planEntry 0 0 = some (0, r) ∧ (spark [r]).base + r.late ≤ s.now) ∧
    (let r := entry (.gate 0) 500 1000 false
     let s := withTrack guarded 0 (spark [r])
     s.planEntry 0 0 = some (0, r) ∧ (spark [r]).base + r.late ≤ s.now) := by decide +kernel

/-- A COVERING entry at its late bound, with the count at its last value and the served entry kept to its close. -/
theorem test_covered :
    (let r := entry (.station 3) 500 1000 true
     let k := { spark [r, entry (.gate 2) 500 9000 false] with stationsCovered := 255 }
     let s := (withTrack guarded 47 k).updStation 3 fun q => { q with served :=
       [{ handle := { slot := 47, gen := 0 }, opens := 0, closes := 2000000, deadline := 9, active := true, noted := true,
          resolved := false }] }
     s.planEntry 47 0 = some (0, r) ∧ k.base + r.late ≤ s.now ∧ (∀ p ∈ k.route, p.isPoint = true → p.joined = true) ∧
       k.route[1]?.all (fun p => p.item != .station 3) = true ∧
       (∀ y : StationId, y ≠ 3 ∨ r.holds = false → ∀ e ∈ s.stations[y].served, e.handle ≠ s.handleOf 47) ∧
       leaves (exec (.stationLateBound 47 0) s) (fun t => t.stations[(3 : StationId)].served.all (fun e => e.resolved) &&
         (t.track? 47).any fun v => v.covered && v.stationsCovered == 255 && v.route == k.route.drop 1) = true) := by
  decide +kernel

/-- A plan entry whose served entry left at once holds none, so a later one of its track holds its own alone (R102). -/
theorem test_served_left_at_once :
    (let e (late : Nat) : RouteItem := { entry (.station 3) 2000 late false with holds := false }
     let s := (withTrack guarded 0 (spark [e 2000, e 3000])).updStation 3 fun q => { q with lead := 0, holdSpark := 0 }
     let w := (s.begin.handOver 0 0 3).handOver 0 1 3
     (s.begin.handOver 0 0 3).st.stations[(3 : StationId)].served == [] &&
       (w.st.stations[(3 : StationId)].served.map fun v => (v.opens, v.closes, v.deadline)) ==
         [(1001000, 1002000, 1001000)] &&
       ((w.st.track? 0).any fun k => (k.route.map fun r => r.holds) == [false, true]) &&
       (w.resolveStation 0 0 3 (some .lateGrant)).st.stations == w.st.stations) = true := by decide +kernel

/-- A STATION entry that resolves UNCOVERED, with and without an end that calls for escape. -/
theorem test_uncovered :
    (let r := entry (.station 3) 500 2000 false
     let e := entry (.terminal .protectedEnd (some 3) false) 900 5000 false
     let k := spark [r, e]
     let s := withTrack guarded 47 k
     s.track? 47 = some k ∧ s.planEntry 47 0 = some (0, r) ∧ r.item = .station 3 ∧ r.covering = false ∧
       k.base + r.early ≤ s.now ∧ s.stations[(3 : StationId)].earlyTest r.unserved = some .lateGrant ∧
       k.state = .flight ∧ k.covered = false ∧ e ∈ k.route ∧ EndOf.protectedEnd ≠ .safeEnd ∧ r.conds.isSuffixOf e.conds ∧
       (∀ p ∈ k.route, p.isPoint = true → p.joined = true) ∧ e.item ≠ .station 3 ∧
       ∀ y : StationId, s.stations[y].served = [])  ∧
    (∀ st ∈ [StationState.fault, .locked, .idle], ∀ u ∈ [true, false],
      ((withStation guarded 3 fun q => { q with state := st }).stations[(3 : StationId)].earlyTest u).isSome = true) := by
  decide +kernel

/-- TERMINAL entries at their late bounds: the last one of a FLIGHT track, one of two, one of an ESCAPED track, and an
unconditional STALL_END. -/
theorem test_terminals :
    (let r := entry (.terminal .safeEnd none false) 500 1000 false
     let k := spark [r]
     let s := (withTrack guarded 47 k).updZone 0 fun q => { q with live := 1, level := .watch }
     s.planEntry 47 0 = some (0, r) ∧ k.base + r.late ≤ s.now ∧ EndOf.safeEnd ≠ .stallEnd ∧ k.state = .flight ∧
       k.member = some (.live 0) ∧ (∀ y : StationId, s.stations[y].served = [])) ∧
    (let s := guarded.updZone 0 fun q => { q with live := 2, level := .watch }
     s.zones[(0 : ZoneId)].level = { s.zones[(0 : ZoneId)] with live := s.zones[(0 : ZoneId)].live - 1 }.computed) ∧
    (let r := entry (.terminal .safeEnd none false) 500 1000 false
     let e := entry (.terminal .horizon none false) 500 1000 false
     let k := spark [r, e]
     (withTrack guarded 47 k).planEntry 47 0 = some (0, r) ∧ k.route[1]? = some e ∧ (1 : Nat) ≠ 0) ∧
    ({ spark [entry (.terminal .safeEnd none false) 500 1000 false] with state := .escaped }).state ≠ .flight ∧
    (let r := entry (.terminal .stallEnd none false) 500 1000 false
     (withTrack guarded 47 (spark [r])).planEntry 47 0 = some (0, r) ∧ r.conds = [] ∧
       leaves (exec (.entryLateBound 47 0) (withTrack guarded 47 (spark [r])))
         (fun t => t == withTrack guarded 47 (spark [r])) = true) := by decide +kernel

/-! ## Stations -/

/-- A served entry whose window is 1,000,000 to 1,000,000, for the track of slot 0. -/
def window (active : Bool) : Served :=
  { handle := { slot := 0, gen := 0 }, opens := 1000000, closes := 1000000, deadline := 999999, active := active,
    noted := false, resolved := false }

theorem test_served :
    (∀ st ∈ [StationState.idle, .locked], ∀ y : StationId,
      (withStation guarded 23 fun q => { q with served := [window false], state := st }).stations[y].waits = false) ∧
    (let s := withStation guarded 23 fun q => { q with served := [window false] }
     s.stations[(23 : StationId)].served = [window false] ∧ s.stations[(23 : StationId)].manual = none ∧
       s.stations[(23 : StationId)].floodDemand = false ∧ (window false).opens ≤ s.now ∧
       s.stations[(23 : StationId)].state = .idle ∧
       min s.stations[(23 : StationId)].draw s.limits.units ≤ s.freeUnits) ∧
    (let s := withStation guarded 23 fun q => { q with served := [window true], state := .releasing }
     (window true).closes ≤ s.now ∧ s.stations[(23 : StationId)].state = .releasing ∧
       s.stations[(23 : StationId)].debt = 0 ∧ ∀ i : SlotId, s.track? i = none) := by decide +kernel

theorem test_arbiter :
    (let s := { withStation guarded 3 fun q =>
        { q with state := .requesting, floodDemand := true, requestTick := some 5 } with freeUnits := 0 }
     s.arbiterQueue.head? = some 3 ∧ (s.stations[(3 : StationId)].key s.now).1 = .flood ∧
       s.freeUnits < min s.stations[(3 : StationId)].draw s.limits.units) ∧
    (let s := withStation guarded 3 fun q => { q with served := [window false] }
     (∀ y : StationId, s.stations[y].waits = false) ∧ s.stations[(3 : StationId)].served = [window false] ∧
       (window false).noted = false ∧ (window false).deadline < s.now) ∧
    (let s := withStation guarded 3 fun q =>
        { q with state := .releasing, floodDemand := true, releaseStart := some 980000, minRunAt := some 1000000 }
     (∀ y : StationId, s.stations[y].waits = false) ∧ s.stations[(3 : StationId)].manual = none ∧
       (∀ e ∈ s.stations[(3 : StationId)].served, e.active = false) ∧
       980000 + s.limits.floodMin * 1000 ≤ s.now ∧ 1000000 ≤ s.now) := by decide +kernel

/-- Stations of every key class, a head that no suspension makes fit, and a queue that fits. -/
theorem test_keys :
    ((withStation guarded 3 fun q => { q with served := [{ window true with deadline := 1000000 }] }).stations[
      (3 : StationId)].key 1000000 = (.deadline, 1000000)) ∧
    ((withStation guarded 3 fun q => { q with served := [window true], requestTick := some 7 }).stations[
      (3 : StationId)].key 1000000 = (.overdue, 7)) ∧
    ((withStation guarded 3 fun q => { q with floodDemand := true, requestTick := some 7 }).stations[
      (3 : StationId)].key 1000000 = (.flood, 7)) ∧
    (let s := { withStation guarded 3 fun q =>
        { q with state := .requesting, draw := 3, served := [window true] } with freeUnits := 2 }
     s.arbiterQueue.head? = some 3 ∧
       s.freeUnits + ((List.finRange 24).map fun y =>
           if s.eligible y then min s.stations[y].draw s.limits.units else 0).sum <
         min s.stations[(3 : StationId)].draw s.limits.units) ∧
    (let s := withStation (withStation guarded 3 fun q => { q with state := .requesting, served := [window true] }) 23
        fun q => { q with draw := 3, state := .suspended, floodDemand := true }
     s.stations[(3 : StationId)].served = [window true] ∧ (window true).noted = false ∧
       (window true).deadline < s.now ∧
       ((List.finRange 24).map fun y =>
           if s.stations[y].waits then min s.stations[y].draw s.limits.units else 0).sum = s.freeUnits) := by
  decide +kernel

/-- S23 floods for its minimum run while S3 waits for more units than are free. -/
def suspending : State :=
  { withStation (withStation guarded 23 fun q =>
      { q with state := .releasing, floodDemand := true, draw := 3, releaseStart := some 980000,
               minRunAt := some 1000000 }) 3 fun q =>
      { q with state := .requesting, draw := 2, manual := some { orderTick := 5, endTick := 2000000 } } with
    freeUnits := 1 }

theorem test_suspension :
    suspending.mode = .guarded ∧ suspending.arbiterQueue = [3] ∧
    (suspending.stations[(3 : StationId)].key suspending.now).1 ≠ .flood ∧ suspending.eligible 23 = true ∧
    suspending.stations[(23 : StationId)].minRunAt = some 1000000 ∧ 1000000 ≤ suspending.now ∧
    (∀ z : StationId, z ≠ 23 → suspending.eligible z = false) ∧
    suspending.freeUnits < min suspending.stations[(3 : StationId)].draw suspending.limits.units ∧
    (∀ i : SlotId, suspending.track? i = none) ∧
    leaves (exec (.floodMinimumRun 23) suspending)
      (fun t => t.stations[(23 : StationId)].state == .suspended && t.stations[(3 : StationId)].state == .releasing &&
        t.freeUnits == 2) = true := by decide +kernel

theorem test_station_faults :
    guarded.stations[(23 : StationId)].state ≠ .releasing ∧
    (let s := withStation guarded 23 fun q =>
        { q with state := .releasing, confirm := .waiting 990000, cutStart := some 700000 }
     s.stations[(23 : StationId)].confirm = .waiting 990000 ∧
       990000 + s.stations[(23 : StationId)].confirmTime * 1000 ≤ s.now ∧
       s.stations[(23 : StationId)].cutStart = some 700000 ∧
       700000 + s.stations[(23 : StationId)].maxRelease * 10000 ≤ s.now ∧ (∀ i : SlotId, s.track? i = none) ∧
       (∀ y : StationId, s.stations[y].waits = false) ∧ s.stations[(23 : StationId)].floodDemand = false ∧
       s.stations[(23 : StationId)].debt = 0) ∧
    (withStation guarded 23 fun q => { q with state := .releasing, confirm := .confirmed }).stations[
      (23 : StationId)].confirm = .confirmed := by decide +kernel

theorem test_orders :
    guarded.listens ∧ (23 : Half).toNat = (23 : StationId).val ∧
    guarded.stations[(23 : StationId)].inUse = false ∧ guarded.stations[(23 : StationId)].state = .idle ∧
    (let s := withStation guarded 23 fun q =>
        { q with inUse := true, manual := some { orderTick := 999000, endTick := 1000000 } }
     s.stations[(23 : StationId)].inUse = true ∧
       s.stations[(23 : StationId)].manual = some { orderTick := 999000, endTick := 1000000 } ∧ 1000000 ≤ s.now) ∧
    (withStation guarded 23 fun q => { q with inUse := true, state := .locked }).stations[(23 : StationId)].state =
      .locked ∧
    (withStation guarded 23 fun q => { q with inUse := true, state := .fault }).stations[(23 : StationId)].state =
      .fault := by decide +kernel

theorem test_locks :
    (let s := withStation guarded 23 fun q => { q with state := .locked }
     s.stations[(23 : StationId)].state = .locked ∧ s.stations[(23 : StationId)].demand = false ∧
       s.stations[(23 : StationId)].debt = 0 ∧ ∀ y : StationId, s.stations[y].waits = false) := by decide +kernel

theorem test_purges :
    (let s := withStation guarded 23 fun q => { q with inUse := true, accumulation := 6000000 }
     s.stations[(23 : StationId)].inUse = true ∧
       s.limits.purgeInterval * 10000 ≤ s.stations[(23 : StationId)].accumulation ∧
       s.stations[(23 : StationId)].state = .idle ∧ s.stations[(23 : StationId)].demand = false ∧
       s.stations[(23 : StationId)].debt < 3 ∧ ∀ y : StationId, s.stations[y].waits = false) ∧
    (let s := withStation guarded 23 fun q => { q with state := .purging, purgeEnd := some 1000000, debt := 3 }
     s.stations[(23 : StationId)].purgeEnd = some 1000000 ∧ 1000000 ≤ s.now) := by decide +kernel

/-! ## Lines and gates -/

/-- L7 in use in a state, its zone set {Z15}. -/
def withLine (state : LineState) : State :=
  guarded.updLine 7 fun q =>
    { q with inUse := true, state := state, zones := 0x8000, runUpEnd := some 1000000, runDownEnd := some 1000000 }

/-- G7 in use on L7 in a state, driven at a shutdown. -/
def withGate (s : State) (state : GateState) : State :=
  (s.updSegment 127 fun g => { g with inUse := true, line := 7 }).updGate 7 fun q =>
    { q with inUse := true, owner := 127, onShutdown := true, state := state, timer := some 1000000 }

theorem test_restart :
    guarded.lines[(7 : LineId)].inUse = false ∧ (withLine .running).lines[(7 : LineId)].state ≠ .stopped ∧
    (let s := withLine .stopped
     s.lines[(7 : LineId)].state = .stopped ∧
       (∀ z : ZoneId, inSet s.lines[(7 : LineId)].zones z.val = true → s.zones[z].level.val < 2) ∧
       (∀ i : SlotId, s.track? i = none) ∧ (∀ g : GateId, s.gates[g].inUse = false) ∧ s.startQueue = [] ∧
       s.recentStarts.length < s.limits.budget ∧ s.fansRunning 7 = false) ∧
    (¬∀ z : ZoneId, inSet (withLine .stopped).lines[(7 : LineId)].zones z.val = true →
      ((withLine .stopped).updZone 15 fun q => { q with level := .alarm }).zones[z].level.val < 2) ∧
    (let s := withTrack ((withLine .stopped).updSegment 0 fun g => { g with line := 7 }) 0 (spark [])
     s.track? 0 = some (spark []) ∧ (spark []).state ≠ .spent ∧ s.segments[(spark []).current].line = 7) ∧
    (let s := withGate (withLine .stopped) .abort
     s.gates[(7 : GateId)].inUse = true ∧ s.segments[s.gates[(7 : GateId)].owner].line = 7 ∧
       s.gates[(7 : GateId)].state ≠ .normal) ∧
    { withLine .stopped with startQueue := [3] }.startQueue ≠ [] ∧
    guarded.limits.budget ≤ { withLine .stopped with startList := [999998, 999999] }.recentStarts.length := by
  decide +kernel

theorem test_shutdown :
    (withLine .running).lines[(7 : LineId)].state = .running ∧ (∀ g : GateId, (withLine .running).gates[g].inUse = false) ∧
    ({ withLine .startWait with startQueue := [7] }.lines[(7 : LineId)].state = .startWait ∧
      { withLine .startWait with startQueue := [7] }.startQueue.Nodup) ∧
    (let s := withGate (withLine .running) .normal
     s.gates[(7 : GateId)].onShutdown = true ∧ s.gates[(7 : GateId)].state = .normal ∧
       s.segments[s.gates[(7 : GateId)].owner].line = 7) ∧
    ((withLine .starting).lines[(7 : LineId)].runUpEnd = some 1000000 ∧
      (withLine .starting).lines[(7 : LineId)].state = .starting) ∧
    ((withLine .stopping).lines[(7 : LineId)].runDownEnd = some 1000000 ∧
      (withLine .stopping).lines[(7 : LineId)].state = .stopping ∧ 1000000 ≤ guarded.now) := by decide +kernel

theorem test_starts_and_fans :
    ({ guarded with startList := [400000] }.startList = 400000 :: [] ∧ 400000 + 600000 ≤ guarded.now ∧
      guarded.startQueue = []) ∧
    (∀ l : LineId, guarded.lines[l].state ≠ .starting ∧ guarded.lines[l].state ≠ .running) ∧
    (let s := withLine .starting
     s.lines[(7 : LineId)].firstFan = 7 ∧ s.lines[(7 : LineId)].secondFan = none ∧ s.fanFeedback[(7 : FanId)] = false ∧
       ∀ k : LineId, k ≠ 7 → s.lines[k].state ≠ .starting ∧ s.lines[k].state ≠ .running) := by decide +kernel

/-- A line that waits for the budget, with and without feedback; a line of two fans; a fan lost in RUNNING. -/
theorem test_start_from_list :
    (let s := { withLine .startWait with startQueue := [7], startList := [400000, 400001] }
     s.mode = .guarded ∧ s.startQueue = [7] ∧ s.lines[(7 : LineId)].state = .startWait ∧
       ([400001].filter fun u => decide (s.now - u < 600000)).length < s.limits.budget ∧
       s.fanFeedback[(7 : FanId)] = false ∧ s.lines[(7 : LineId)].firstFan = 7) ∧
    (let s := { withLine .startWait with startQueue := [7], startList := [400000, 400001, 400002] }
     s.limits.budget ≤ ([400001, 400002].filter fun u => decide (s.now - u < 600000)).length) ∧
    (∀ st ∈ [LineState.starting, .running],
      let s := (withLine st).updLine 7 fun q => { q with secondFan := some 2 }
      s.lines[(7 : LineId)].state = st ∧ s.lines[(7 : LineId)].inUse = true ∧ s.lines[(7 : LineId)].firstFan = 7 ∧
        s.lines[(7 : LineId)].secondFan = some 2 ∧
        (∀ k : LineId, k ≠ 7 → s.lines[k].state ≠ .starting ∧ s.lines[k].state ≠ .running) ∧
        ∀ g : GateId, s.gates[g].inUse = false) := by decide +kernel

theorem test_gate_events :
    guarded.gates[(7 : GateId)].inUse = false ∧ (withGate guarded .fault).gates[(7 : GateId)].state = .fault ∧
    ((withGate guarded .toAbort).gates[(7 : GateId)].state = .toAbort ∧
      (withGate guarded .toAbort).gates[(7 : GateId)].abortLimit ≠ true) ∧
    (let s := (withGate guarded .normal).updGate 7 fun q => { q with normalLimit := true }
     s.gates[(7 : GateId)].state = .normal ∧ s.gates[(7 : GateId)].normalLimit = true) ∧
    (let s := (withGate guarded .abort).updGate 7 fun q => { q with abortLimit := true }
     s.gates[(7 : GateId)].state = .abort ∧ s.gates[(7 : GateId)].abortLimit = true) ∧
    ((withGate guarded .toNormal).gates[(7 : GateId)].timer = some 1000000 ∧ 1000000 ≤ guarded.now) := by decide +kernel

theorem test_gate_confirmed_normal :
    (withGate guarded .toNormal).gates[(7 : GateId)].state = .toNormal ∧
    (withGate guarded .toNormal).gates[(7 : GateId)].normalLimit ≠ true ∧
    (∀ i : SlotId, (withGate guarded .toNormal).track? i = none) ∧
    leaves (exec (.gateLimitChange 7 true false) (withGate guarded .toNormal))
      (fun t => t.gates[(7 : GateId)].state == .normal) = true := by decide +kernel

/-- A re-plan at a gate that faults: the resolved end of a kept branch, whose station has resolved, shows no marker (R92). -/
theorem test_resolved_end_remarked :
    (let kept (item : Item) : RouteItem := { entry item 0 900 false with conds := [{ gate := 3, side := .normal }] }
     let fork := { entry (.gate 7) 500 90000 false with seg := 127 }
     let k := { spark [entry (.entry none) 0 0 false, kept (.terminal .safeEnd (some 5) true), fork] with covered := true }
     let s := (withTrack (withGate guarded .normal) 47 k).updGate 7 fun q => { q with normalLimit := true }
     leaves (exec (.gateLimitChange 7 false false) s) (fun t => t.gates[(7 : GateId)].state == .fault &&
       (t.track? 47).any fun v => v.route[1]?.any fun r => r.item == .terminal .safeEnd none true)) = true := by
  decide +kernel

/-- A SPENT track whose route forks at the gate: it is settled, and stands where the outlet confirmed leads. -/
theorem test_spent_settled :
    (let far (seg : SegId) (side : Side) : RouteItem :=
       { entry (.entry none) 100 200 false with seg := seg, conds := [{ gate := 7, side := side }] }
     let k := { spark [entry (.entry none) 0 0 false, far 5 .normal, far 6 .abort] with state := .spent, member := none }
     let s := withTrack (withGate guarded .toNormal) 47 k
     s.gates[(7 : GateId)].inUse = true ∧ s.gates[(7 : GateId)].state = .toNormal ∧
       s.gates[(7 : GateId)].normalLimit ≠ true ∧ s.track? 47 = some k ∧ (∃ r ∈ k.route, ∃ c ∈ r.conds, c.gate = 7) ∧
       (∀ j : SlotId, j ≠ 47 → s.track? j = none) ∧
       (∀ x : StationId, ∀ e ∈ s.stations[x].served, e.handle ≠ s.handleOf 47) ∧
       leaves (exec (.gateLimitChange 7 true false) s) (fun t => (t.track? 47).any fun v =>
         v.current == 5 && v.route.length == 2 && v.route.all fun r => r.conds == []) = true) := by decide +kernel

theorem test_gate_commands :
    (let s := withGate (withLine .stopped) .abort
     s.gates[(7 : GateId)].state = .abort ∧
       (∃ z : ZoneId, inSet s.lines[(7 : LineId)].zones z.val = true ∧
         (s.updZone 15 fun q => { q with level := .fire }).zones[z].level = .fire) ∧
       (∀ z : ZoneId, s.zones[z].level ≠ .fire) ∧ (∀ i : SlotId, s.track? i = none) ∧
       ¬(s.gates[(7 : GateId)].normalLimit = true ∧ s.gates[(7 : GateId)].abortLimit = false)) ∧
    (withTrack guarded 0 (spark [entry (.gate 7) 0 0 false])).track? 0 = some (spark [entry (.gate 7) 0 0 false]) ∧
    crosses 7 (spark [entry (.gate 7) 0 0 false]).route = true := by decide +kernel

/-! ## Zones, shutters and sirens -/

theorem test_zone_commands :
    (15 : Half).toNat = (15 : ZoneId).val ∧
    guarded.zones[(15 : ZoneId)].level =
      ({ guarded.zones[(15 : ZoneId)] with latched := guarded.standingLevel 15 } : Zone).computed ∧
    ((1 : Byte).toNat ≠ 2 ∧ (1 : Byte).toNat ≠ 3) ∧ (Level.alarm.val = (2 : Byte).toNat ∧ 2 ≤ (2 : Byte).toNat) ∧
    (let s := guarded.updZone 15 fun q => { q with callRaw := true, callChanged := 999500 }
     max s.zones[(15 : ZoneId)].callChanged (s.guardEntry.getD 0) + 500 ≤ s.now ∧
       s.zones[(15 : ZoneId)].callRaw = true ∧ s.zones[(15 : ZoneId)].callActive = false) ∧
    (let s := guarded.updZone 15 fun q => { q with callActive := true, callChanged := 999500 }
     s.zones[(15 : ZoneId)].callRaw = false ∧ s.zones[(15 : ZoneId)].callActive = true) := by decide +kernel

/-- Z15 at FIRE with an escaped track, as an acknowledgement leaves it at ALARM. -/
theorem test_zone_lowered :
    (let s := guarded.updZone 15 fun q => { q with level := .fire, latched := .fire, escaped := 1, linkCall := some .fire }
     s.zones[(15 : ZoneId)].level ≠
         ({ s.zones[(15 : ZoneId)] with latched := s.standingLevel 15 } : Zone).computed ∧
       s.standingLevel 15 = .alarm ∧ (∀ x : StationId, s.stations[x].inUse = false) ∧
       (∀ h : ShutterId, s.shutters[h].state = .dropping) ∧
       leaves (exec (.ackZone 15 []) s) (fun t => t.zones[(15 : ZoneId)].level == .alarm) = true) := by decide +kernel

/-- S5 is the flood station of Z15, IDLE with units free; nothing else looks at Z15. -/
def flooding : State :=
  (guarded.updSegment 9 fun g =>
    { g with inUse := true, zone := 15, points := [{ what := .station 5, position := 0 }] }).updStation 5 fun q =>
      { q with inUse := true, flood := true }

theorem test_zone_called :
    (Level.fire.val = (3 : Byte).toNat ∧ flooding.zones[(15 : ZoneId)].level ≠ .fire ∧
      (∀ l : LineId, inSet flooding.lines[l].zones 15 = false) ∧
      (∀ h : ShutterId, flooding.shutters[h].sideA ≠ 15 ∧ flooding.shutters[h].sideB ≠ some 15) ∧
      (∀ y : StationId, flooding.stations[y].waits = false ∧ (y ≠ 5 → flooding.stations[y].inUse = false)) ∧
      flooding.zoneOfPlaced (.station 5) = some 15 ∧ flooding.stations[(5 : StationId)].state = .idle ∧
      min flooding.stations[(5 : StationId)].draw flooding.limits.units ≤ flooding.freeUnits) ∧
    leaves (exec (.callZone 15 [3]) flooding) (fun t => t.stations[(5 : StationId)].state == .releasing) = true ∧
    (inSet (withLine .running).lines[(7 : LineId)].zones 15 = true ∧
      leaves (exec (.callZone 15 [3]) (withLine .running))
        (fun t => t.lines[(7 : LineId)].state == .stopped && t.lines[(7 : LineId)].cause == .fire) = true) ∧
    (let s := guarded.updShutter 11 fun q => { q with state := .opened, granted := true, sideB := some 15 }
     s.zones[(15 : ZoneId)].level.val < 2 ∧ s.zones[(15 : ZoneId)].latched.val ≤ 2 ∧
       s.shutters[(11 : ShutterId)].granted = true ∧ s.shutters[(11 : ShutterId)].obstructed = false ∧
       s.shutters[(11 : ShutterId)].closeLevel = .alarm ∧
       (∀ h : ShutterId, h ≠ 11 → s.shutters[h].sideA ≠ 15 ∧ s.shutters[h].sideB ≠ some 15) ∧
       leaves (exec (.callZone 15 [2]) s) (fun t => t.shutters[(11 : ShutterId)].state == .closing) = true) := by
  decide +kernel

theorem test_called_lines : (withLine .running).linesOrdered := by
  refine ⟨List.nodup_nil, ?_, ?_, fun h => absurd h (by decide +kernel)⟩ <;> decide +kernel

/-- H11 in a state. -/
def withShutter (state : ShutterState) (granted : Bool) : State :=
  guarded.updShutter 11 fun q => { q with state := state, granted := granted }

theorem test_permits :
    (11 : Half).toNat = (11 : ShutterId).val ∧
    ((withShutter .closed false).shutters[(11 : ShutterId)].state ≠ .opened ∧
      (withShutter .closed false).shutters[(11 : ShutterId)].state ≠ .opening) ∧
    ((withShutter .opened true).shutters[(11 : ShutterId)].state = .opened ∧
      (withShutter .opened true).shutters[(11 : ShutterId)].obstructed = false ∧
      ¬((withShutter .opened true).shutters[(11 : ShutterId)].closeLevel.val ≤
        (withShutter .opened true).zones[(withShutter .opened true).shutters[(11 : ShutterId)].sideA].level.val)) ∧
    (let s := (withShutter .opening true).updShutter 11 fun q => { q with obstructed := true }
     s.shutters[(11 : ShutterId)].state = .opening ∧ s.shutters[(11 : ShutterId)].obstructed = true ∧
       s.shutters[(11 : ShutterId)].obstructions < 2) ∧
    (withShutter .fault false).shutters[(11 : ShutterId)].state = .fault ∧
    (∀ h : ShutterId, guarded.shutters[h].state ≠ .opened ∧ guarded.shutters[h].state ≠ .opening) := by decide +kernel

/-- An OPEN shutter at its third obstruction, and all twelve at once. -/
theorem test_permit_all :
    (let s := (withShutter .opening true).updShutter 11 fun q => { q with obstructed := true, obstructions := 2 }
     2 ≤ s.shutters[(11 : ShutterId)].obstructions ∧
       leaves (exec (.revokeHold 11 []) s) (fun t => t.shutters[(11 : ShutterId)].state == .dropping &&
         t.notices.flags == s.notices.flags ||| Notice.shutter.flag &&
         t.link.reply == (Reply.ok [1, 5]).bytes) = true ∧
       leaves (exec (.revokeAll 0 []) s) (fun t => t.shutters[(11 : ShutterId)].state == .dropping &&
         t.shutters[(0 : ShutterId)] == { s.shutters[(0 : ShutterId)] with granted := false }) = true) ∧
    leaves (exec (.grantHold 11 []) (withShutter .opened false)) (fun t => t.link.reply == (Reply.ok [0, 2]).bytes) =
      true := by decide +kernel

/-- What RELEASE GUARD finds of every kind: lines up, waiting and down, gates driven and left, shutters that close, pause and
drop. -/
theorem test_release_effects :
    (let s := withGate (withLine .running) .normal
     guarded.levelsComputed ∧ s.lines[(7 : LineId)].inUse = true ∧ s.lines[(7 : LineId)].state = .running ∧
       s.gates[(7 : GateId)].inUse = true ∧ s.gates[(7 : GateId)].onShutdown = true ∧
       s.gates[(7 : GateId)].state = .normal ∧ s.segments[s.gates[(7 : GateId)].owner].line = 7 ∧
       (withGate (withLine .stopped) .toNormal).lines[(7 : LineId)].state = .stopped) ∧
    (withLine .startWait).lines[(7 : LineId)].state = .startWait ∧
    (withShutter .opened true).shutters[(11 : ShutterId)].obstructed = false ∧
    (∀ n ∈ [1, 2], let s := (withShutter .opening true).updShutter 11 fun q => { q with obstructed := true, obstructions := n }
     s.shutters[(11 : ShutterId)].state = .opening ∧ s.shutters[(11 : ShutterId)].obstructions = n) ∧
    (withShutter .paused true).shutters[(11 : ShutterId)].state = .paused := by
  unfold State.levelsComputed; decide +kernel

theorem test_open_shutter :
    (State.reset.listens ∧ State.reset.mode = .config) ∧ (walking.listens ∧ walking.mode = .committing) ∧
    12 ≤ (12 : Half).toNat ∧ (withShutter .dropping false).shutters[(11 : ShutterId)].state ≠ .closed ∧
    (withShutter .closed false).shutters[(11 : ShutterId)].granted = false ∧
    (let s := (withShutter .closed true).updZone 0 fun q => { q with level := .alarm }
     s.shutters[(11 : ShutterId)].granted = true ∧
       s.shutters[(11 : ShutterId)].closeLevel.val ≤ s.zones[s.shutters[(11 : ShutterId)].sideA].level.val) ∧
    ((withShutter .closed true).shutters[(11 : ShutterId)].openLimit = false ∧
      (withShutter .closed true).shutters[(11 : ShutterId)].sideB = none) := by decide +kernel

theorem test_shutter_limits :
    guarded.resetLow = false ∧ (withShutter .closing false).shutters[(11 : ShutterId)].closedLimit = false ∧
    (withShutter .opened false).shutters[(11 : ShutterId)].openLimit = false ∧
    (let s := (withShutter .closed false).updShutter 11 fun q => { q with closedLimit := true }
     s.shutters[(11 : ShutterId)].state = .closed ∧ s.shutters[(11 : ShutterId)].closedLimit = true) ∧
    (let s := (withShutter .opened false).updShutter 11 fun q => { q with openLimit := true }
     s.shutters[(11 : ShutterId)].state = .opened ∧ s.shutters[(11 : ShutterId)].openLimit = true) := by decide +kernel

theorem test_shutter_timers :
    ((withShutter .dropping false).shutters[(11 : ShutterId)].travel = .running 600000 ∧ 600000 ≤ guarded.now) ∧
    (let s := (withShutter .closing false).updShutter 11 fun q => { q with obstructions := 2 }
     s.shutters[(11 : ShutterId)].obstructed = false ∧ s.shutters[(11 : ShutterId)].obstructions = 2) ∧
    (let s := (withShutter .paused false).updShutter 11 fun q =>
        { q with travel := .frozen 0, pauseStart := some 700000, rearmEnd := some 1000000 }
     s.shutters[(11 : ShutterId)].state = .paused ∧ s.shutters[(11 : ShutterId)].rearmEnd = some 1000000 ∧
       s.shutters[(11 : ShutterId)].travel.left s.now = 0 ∧ 700000 + 300000 ≤ s.now) ∧
    ((withShutter .paused false).updShutter 11 fun q => { q with travel := .frozen 1 }).shutters[
      (11 : ShutterId)].travel.left guarded.now ≠ 0 ∧
    ((withShutter .fault false).shutters[(11 : ShutterId)].state ≠ .closing ∧
      (withShutter .fault false).shutters[(11 : ShutterId)].state ≠ .paused) := by decide +kernel

/-- Y7 sounding ALARM in a phase that ends now. -/
def sounding (f : Siren → Siren) : State :=
  guarded.updSiren 7 fun q =>
    f { q with alarm := { Pattern.reset with empty := false, blasts := 2 }, cls := .alarm, sounding := .alarm,
               phaseEnd := some 1000000 }

theorem test_sirens :
    (let s := sounding fun q => { q with phase := .blast }
     s.sirens[(7 : SirenId)].sounds s.sirens[(7 : SirenId)].sounding =
         some { Pattern.reset with empty := false, blasts := 2 } ∧
       s.sirens[(7 : SirenId)].phaseEnd = some 1000000 ∧ 1000000 ≤ s.now ∧ s.sirens[(7 : SirenId)].blastIndex + 1 < 2) ∧
    (let s := sounding fun q => { q with phase := .blast, blastIndex := 1, pendingCls := some .normal }
     2 ≤ s.sirens[(7 : SirenId)].blastIndex + 1 ∧ s.sirens[(7 : SirenId)].pendingCls = some .normal) ∧
    (let s := sounding fun q => { q with phase := .blast, blastIndex := 1, groupIndex := 2 }
     s.sirens[(7 : SirenId)].pendingCls = none ∧ s.sirens[(7 : SirenId)].groupIndex + 1 = 3) ∧
    (let s := sounding fun q => { q with phase := .pause, opening := true }
     s.sirens[(7 : SirenId)].phase = .pause ∧ s.sirens[(7 : SirenId)].opening = true) ∧
    (sounding fun q => { q with phase := .gap }).sirens[(7 : SirenId)].phase = .gap := by decide +kernel

/-- Y7 as a change of class finds it: below, at and above what it sounds, in and out of a group, silenced; and a group that
completes with a class pending. -/
theorem test_classes :
    (∀ ph ∈ [Phase.blast, .gap, .pause, .done],
      let q := (sounding fun q => { q with phase := ph, pendingCls := some .watch }).sirens[(7 : SirenId)]
      q.silenced = none ∧ q.cls = .alarm ∧ q.sounding.val < Level.fire.val ∧ Level.watch.val < q.sounding.val ∧
        q.phase = ph ∧ q.pendingCls = some .watch) ∧
    (let q := (sounding fun q => { q with cls := .watch, pendingCls := some .watch }).sirens[(7 : SirenId)]
     q.cls ≠ .alarm ∧ q.sounding = .alarm) ∧
    (let q := (sounding fun q => { q with silenced := some .alarm }).sirens[(7 : SirenId)]
     q.silenced = some .alarm ∧ Level.alarm.val < Level.fire.val ∧ Level.watch.val ≤ Level.alarm.val) ∧
    (sounding id).sirens[(7 : SirenId)].sounds .fire = none ∧
    (sounding fun q => { q with zones := 0x8001 }).classOf 7 = .normal := by decide +kernel

theorem test_silence :
    8 ≤ (8 : Half).toNat ∧ (7 : Half).toNat = (7 : SirenId).val ∧
    (sounding fun q => { q with cls := .fire }).sirens[(7 : SirenId)].cls = .fire ∧
    guarded.sirens[(7 : SirenId)].cls = .normal ∧ (sounding id).sirens[(7 : SirenId)].cls = .alarm ∧
    (sounding id).sirens[(7 : SirenId)].silenced ≠ some (sounding id).sirens[(7 : SirenId)].cls ∧
    (sounding fun q => { q with silenced := some .alarm }).sirens[(7 : SirenId)].silenced = some .alarm := by
  decide +kernel

/-! ## Invariants -/

/-- The invariants hold of the part in GUARD, where a step finds an event that is due. -/
theorem test_invariants :
    guarded.resetHeld ∧ guarded.unitsBalance ∧ guarded.levelsComputed ∧ guarded.servedFits ∧
    leaves (step guarded) (fun t => t.pending == [.shutterTravelTimeout 0]) = true := by
  refine ⟨fun h => absurd h (by decide +kernel), ⟨by decide +kernel, fun h => absurd h (by decide +kernel)⟩, ?_, ?_, ?_⟩
  · unfold State.levelsComputed; decide +kernel
  · unfold State.servedFits; decide +kernel
  · decide +kernel

theorem test_layout_frozen :
    leaves (exec .surveyBoundary { guarded with nextSurvey := some 1000000 }) (fun t => t.nextSurvey == some 1010000) =
      true ∧ guarded.mode ≠ .config ∧ isPartReset .surveyBoundary = false := by decide +kernel

end Sys2Proof.Tests
end

section
/-! PROOFS. The Topology Store and the part modes: what a command can move, the answers of the loads, the validation walk,
GUARD entry, RELEASE GUARD and part resets. -/
namespace Sys2Proof.Laws
open Sys2Proof.Machine

/-! ## What only loads, mode changes and resets touch -/

/-- The loaded fields of a gate (R6). -/
def Gate.loaded (g : Gate) : Bool × SegId × SegId × SegId × Nat × Bool :=
  (g.inUse, g.owner, g.normalOut, g.abortOut, g.stroke, g.onShutdown)

/-- The loaded fields of a line (R133). -/
def Line.loaded (l : Line) : Bool × FanId × Option FanId × Nat × Nat × Nat × Nat :=
  (l.inUse, l.firstFan, l.secondFan, l.runUp, l.runDown, l.burstCount, l.burstWindow)

/-- The loaded fields of a station (R100). -/
def Station.loaded (q : Station) : Bool × Nat × Nat × Nat × Nat × Nat × Nat × Nat × Option TempId × Bool :=
  (q.inUse, q.draw, q.lead, q.holdSpark, q.holdEmber, q.confirmTime, q.maxRelease, q.purgeTime, q.link, q.flood)

/-- The loaded fields of a detector channel (R23). -/
def Channel.loaded (q : Channel) : ChanType × Bool × Byte := (q.type, q.tolerant, q.threshold)

/-- The loaded fields of an airflow channel (R38). -/
def Airflow.loaded (a : Airflow) : Bool × Nat := (a.inUse, a.scale)

/-- The loaded fields of a temperature channel (R44). -/
def Temperature.loaded (t : Temperature) : Bool × ZoneId × Int × Int × Int :=
  (t.inUse, t.zone, t.hotAt, t.alarmAt, t.fireAt)

/-- The loaded fields of a shutter (R159). -/
def Shutter.loaded (h : Shutter) : ZoneId × Option ZoneId × Level × Nat := (h.sideA, h.sideB, h.closeLevel, h.timeout)

/-- Every loaded field of the part. -/
structure Layout where
  limits : Limits
  segments : Vector Segment 128
  gates : Vector (Bool × SegId × SegId × SegId × Nat × Bool) 8
  lines : Vector (Bool × FanId × Option FanId × Nat × Nat × Nat × Nat) 8
  stations : Vector (Bool × Nat × Nat × Nat × Nat × Nat × Nat × Nat × Option TempId × Bool) 24
  channels : Vector (ChanType × Bool × Byte) 32
  airflows : Vector (Bool × Nat) 16
  temps : Vector (Bool × ZoneId × Int × Int × Int) 16
  shutters : Vector (ZoneId × Option ZoneId × Level × Nat) 12
  sirens : Vector (BitVec 16 × Option TempId × Int × Pattern × Pattern × Pattern) 8

/-- The loaded fields of a state. -/
def layoutOf (s : State) : Layout :=
  { limits := s.limits, segments := s.segments, gates := s.gates.map Gate.loaded, lines := s.lines.map Line.loaded,
    stations := s.stations.map Station.loaded, channels := s.channels.map Channel.loaded,
    airflows := s.airflows.map Airflow.loaded, temps := s.temps.map Temperature.loaded,
    shutters := s.shutters.map Shutter.loaded, sirens := s.sirens.map Siren.fixed }

/-- One state stands as another: the same mill time, RESET line, part mode and loaded fields. -/
structure Still (s t : State) : Prop where
  now : t.now = s.now
  resetLow : t.resetLow = s.resetLow
  mode : t.mode = s.mode
  layout : layoutOf t = layoutOf s

theorem Still.same (s : State) : Still s s := ⟨rfl, rfl, rfl, rfl⟩

theorem Still.trans {s t u : State} (h : Still s t) (k : Still t u) : Still s u :=
  ⟨k.now.trans h.now, k.resetLow.trans h.resetLow, k.mode.trans h.mode, k.layout.trans h.layout⟩

/-- Two tables of the same loaded fields hold the same ones at each place. -/
theorem map_get {α β : Type} {n : Nat} {v w : Vector α n} {p : α → β} (h : v.map p = w.map p) (i : Fin n) :
    p v[i] = p w[i] := by
  have e := congrArg (fun u : Vector β n => u[i]) h
  simpa using e

/-- Equal layouts are what the statements call loaded alike. -/
theorem loadedAlike_of_layout {s t : State} (h : layoutOf t = layoutOf s) : s.loadedAlike t := by
  simp only [layoutOf, Layout.mk.injEq] at h
  obtain ⟨limits, segments, gates, lines, stations, channels, airflows, temps, shutters, sirens⟩ := h
  refine ⟨limits, segments, fun g => ?_, fun l => ?_, fun x => ?_, fun d => ?_, fun a => ?_, fun i => ?_, fun i => ?_,
    map_get sirens⟩
  · simpa [Gate.loaded] using map_get gates g
  · simpa [Line.loaded] using map_get lines l
  · simpa [Station.loaded, Station.fixed] using map_get stations x
  · simpa [Channel.loaded] using map_get channels d
  · simpa [Airflow.loaded] using map_get airflows a
  · simpa [Temperature.loaded] using map_get temps i
  · simpa [Shutter.loaded] using map_get shutters i

theorem Still.loadedAlike {s t : State} (h : Still s t) : s.loadedAlike t := loadedAlike_of_layout h.layout

/-! ## Updates that leave everything loaded -/

/-- A table seen through a projection that the update of one place leaves alone there. -/
theorem updAt_map_at {α β : Type} {n : Nat} (v : Vector α n) (i : Fin n) (f : α → α) (p : α → β)
    (h : p (f v[i]) = p v[i]) : (updAt v i f).map p = v.map p := by
  apply Vector.ext
  intro j hj
  simp only [Vector.getElem_map, updAt_getElem]
  split
  · subst j; exact h
  · rfl

/-- A table mapped by what a projection does not see. -/
theorem map_map_same {α β : Type} {n : Nat} (v : Vector α n) (f : α → α) (p : α → β) (h : ∀ x, p (f x) = p x) :
    (v.map f).map p = v.map p := by
  apply Vector.ext
  intro j hj
  simp [h]

section
variable (s : State)

theorem updGate_still (i : GateId) (f : Gate → Gate) (h : Gate.loaded (f s.gates[i]) = Gate.loaded s.gates[i]) :
    Still s (s.updGate i f) := ⟨rfl, rfl, rfl, by simp [layoutOf, updAt_map_at _ _ _ _ h]⟩

theorem updLine_still (i : LineId) (f : Line → Line) (h : Line.loaded (f s.lines[i]) = Line.loaded s.lines[i]) :
    Still s (s.updLine i f) := ⟨rfl, rfl, rfl, by simp [layoutOf, updAt_map_at _ _ _ _ h]⟩

theorem updStation_still (i : StationId) (f : Station → Station)
    (h : Station.loaded (f s.stations[i]) = Station.loaded s.stations[i]) : Still s (s.updStation i f) :=
  ⟨rfl, rfl, rfl, by simp [layoutOf, updAt_map_at _ _ _ _ h]⟩

theorem updChannel_still (i : ChanId) (f : Channel → Channel)
    (h : Channel.loaded (f s.channels[i]) = Channel.loaded s.channels[i]) : Still s (s.updChannel i f) :=
  ⟨rfl, rfl, rfl, by simp [layoutOf, updAt_map_at _ _ _ _ h]⟩

theorem updAirflow_still (i : AirId) (f : Airflow → Airflow)
    (h : Airflow.loaded (f s.airflows[i]) = Airflow.loaded s.airflows[i]) : Still s (s.updAirflow i f) :=
  ⟨rfl, rfl, rfl, by simp [layoutOf, updAt_map_at _ _ _ _ h]⟩

theorem updTemp_still (i : TempId) (f : Temperature → Temperature)
    (h : Temperature.loaded (f s.temps[i]) = Temperature.loaded s.temps[i]) : Still s (s.updTemp i f) :=
  ⟨rfl, rfl, rfl, by simp [layoutOf, updAt_map_at _ _ _ _ h]⟩

theorem updShutter_still (i : ShutterId) (f : Shutter → Shutter)
    (h : Shutter.loaded (f s.shutters[i]) = Shutter.loaded s.shutters[i]) : Still s (s.updShutter i f) :=
  ⟨rfl, rfl, rfl, by simp [layoutOf, updAt_map_at _ _ _ _ h]⟩

theorem updSiren_still (i : SirenId) (f : Siren → Siren) (h : (f s.sirens[i]).fixed = s.sirens[i].fixed) :
    Still s (s.updSiren i f) := ⟨rfl, rfl, rfl, by simp [layoutOf, updAt_map_at _ _ _ _ h]⟩

theorem updZone_still (i : ZoneId) (f : Zone → Zone) : Still s (s.updZone i f) := ⟨rfl, rfl, rfl, rfl⟩

theorem updTrack_still (i : SlotId) (f : Track → Track) : Still s (s.updTrack i f) := ⟨rfl, rfl, rfl, rfl⟩

theorem raise_still (n : Notice) : Still s (s.raise n) := ⟨rfl, rfl, rfl, rfl⟩

theorem raiseLinkError_still (e : LinkError) : Still s (s.raiseLinkError e) := ⟨rfl, rfl, rfl, rfl⟩

theorem replyWith_still (r : Reply) : Still s (s.replyWith r) := ⟨rfl, rfl, rfl, rfl⟩

theorem driveOnly_still (b : Byte) : Still s (s.driveOnly b) := ⟨rfl, rfl, rfl, rfl⟩

theorem link_still (k : Link) : Still s { s with link := k } := ⟨rfl, rfl, rfl, rfl⟩

theorem notices_still (n : Notices) : Still s { s with notices := n } := ⟨rfl, rfl, rfl, rfl⟩

end

/-! ## Shared operations that leave everything loaded -/

/-- What deliveries keep includes mode, time and every loaded field. -/
theorem Kept.still {s t : State} (h : Kept s t) : Still s t := by
  refine ⟨h.now, h.resetLow, h.mode, ?_⟩
  simp only [layoutOf, Layout.mk.injEq]
  refine ⟨h.limits, h.segments, ?_, ?_, ?_, by rw [h.channels], by rw [h.airflows], by rw [h.temps], ?_, ?_⟩ <;>
    apply Vector.ext <;> intro i hi <;> simp only [Vector.getElem_map]
  · obtain ⟨⟩ := h.gates ⟨i, hi⟩
    simp_all [Gate.loaded]
  · obtain ⟨⟩ := h.lines ⟨i, hi⟩
    simp_all [Line.loaded]
  · obtain ⟨⟩ := h.stations ⟨i, hi⟩
    simp_all [Station.loaded]
  · obtain ⟨⟩ := h.shutters ⟨i, hi⟩
    simp_all [Shutter.loaded]
  · obtain ⟨⟩ := h.sirens ⟨i, hi⟩
    simp_all [Siren.fixed]

theorem Steps.still {s t : State} (h : Steps s t) : Still s t := h.kept.still

theorem Quiets.still {s t : State} (h : Quiets s t) : Still s t := h.kept.still

theorem finish_still (w : Work) : Still w.st w.finish := (finish_kept w).still

/-- Deliveries after a still event. -/
theorem Still.finish {s : State} {w : Work} (h : Still s w.st) : Still s w.finish := h.trans (finish_still w)

theorem Still.push {s : State} {w : Work} (h : Still s w.st) (d : Delivery) : Still s (w.push d).st := by
  rwa [push_st]

theorem event_still (s : State) (d : Bool) (f : State → Work) (h : Still s (f s).st) : Still s (s.event d f) := by
  unfold State.event
  split
  · exact h.finish
  · exact .same s

theorem transact_still (s : State) (f : State → State) (h : Still s (f s)) : Still s (s.transact f) := by
  obtain ⟨_, e⟩ | ⟨_, e⟩ | ⟨_, e⟩ := transact_cases s f <;> rw [e]
  · exact .same s
  · exact driveOnly_still _ _
  · exact h

/-- A fold of still operations is still. -/
theorem foldl_still {α : Type} (f : Work → α → Work) (l : List α) (h : ∀ w a, Still w.st (f w a).st) (w : Work) :
    Still w.st (l.foldl f w).st := by
  induction l generalizing w with
  | nil => exact .same _
  | cons a l ih => exact (h w a).trans (ih (f w a))

theorem foldl_state_still {α : Type} (f : State → α → State) (l : List α) (h : ∀ s a, Still s (f s a)) (s : State) :
    Still s (l.foldl f s) := by
  induction l generalizing s with
  | nil => exact .same _
  | cons a l ih => exact (h s a).trans (ih (f s a))

theorem recompute_still (w : Work) (z : ZoneId) : Still w.st (w.recompute z).st := (recompute_kept w z).still

theorem arrive_still (w : Work) (z : ZoneId) (l : Level) : Still w.st (w.arrive z l).st :=
  (updZone_still w.st z (Zone.latch l)).trans (recompute_still (w.mod fun s => s.updZone z (Zone.latch l)) z)

theorem refreshFault_still (s : State) (k : FaultKind) (z : ZoneId) : Still s (s.refreshFault k z) := by
  unfold State.refreshFault
  extract_lets bit new
  split
  · exact .same s
  · exact (updZone_still s z _).trans (raise_still _ _)

theorem refreshPlaced_still (s : State) (k : FaultKind) (what : Placed) : Still s (s.refreshPlaced k what) := by
  unfold State.refreshPlaced
  split
  · exact .same s
  · exact refreshFault_still _ _ _

theorem refreshAllFaults_still (s : State) : Still s s.refreshAllFaults :=
  foldl_state_still _ _ (fun s z => foldl_state_still _ _ (fun s k => refreshFault_still s k z) s) s

theorem moveShutter_still (s : State) (i : ShutterId) (f : Shutter → Shutter)
    (h : Shutter.loaded (f s.shutters[i]) = Shutter.loaded s.shutters[i]) : Still s (s.moveShutter i f) := by
  have moved : Still s (s.updShutter i fun _ => f s.shutters[i]) := updShutter_still _ _ _ h
  unfold State.moveShutter
  extract_lets before after shown told flagged
  have htold : Still s told := by
    unfold told
    split
    · exact moved.trans (raise_still _ _)
    · exact moved
  have hflagged : Still s flagged := htold.trans (refreshFault_still _ _ _)
  split
  · exact htold
  · cases after.sideB with
    | none => exact hflagged
    | some z => exact hflagged.trans (refreshFault_still _ _ _)

theorem lineTo_still (s : State) (l : LineId) (f : Line → Line) (h : Line.loaded (f s.lines[l]) = Line.loaded s.lines[l]) :
    Still s (s.lineTo l f) := by
  unfold State.lineTo
  dsimp only
  split
  · exact updLine_still _ _ _ h
  · exact (updLine_still _ _ _ h).trans (raise_still _ _)

theorem shutdown_still (w : Work) (l : LineId) (c : StopCause) : Still w.st (w.shutdown l c).st :=
  (shutdown_steps w l c).still

theorem memberMove_still (w : Work) (old new : Option Membership) : Still w.st (w.memberMove old new).st :=
  (memberMove_kept w old new).still

theorem retire_still (w : Work) (i : SlotId) : Still w.st (w.retire i).st := by
  unfold Work.retire
  split
  · exact .same _
  · rename_i t _
    have freed : Still w.st (w.mod fun s =>
        { s with slots := updAt s.slots i fun q => { gen := q.gen + 1, track := none },
                 gates := s.gates.map fun g =>
                   { g with diversions := g.diversions.filter fun d => d != w.st.handleOf i } }).st :=
      ⟨rfl, rfl, rfl, by simp [layoutOf, Gate.loaded]⟩
    have unserved : ∀ (w : Work) (x : StationId) (h : Handle), Still w.st
        (if w.st.stations[x].served.any fun e => e.handle == h then
          (w.mod fun s => s.updStation x fun q => { q with served := servedWithout h q.served }).push (.station x)
        else w).st := by
      intro w x h
      split
      · exact Still.push (updStation_still _ _ _ rfl) _
      · exact .same _
    have both := freed.trans (foldl_still _ (List.finRange 24) (fun w' x => unserved w' x (w.st.handleOf i)) _)
    dsimp only
    cases t.member with
    | none => exact both
    | some m => exact both.trans (memberMove_still _ _ _)

theorem faultGate_still (w : Work) (g : GateId) (r : GateFault) : Still w.st (w.faultGate g r).st := by
  unfold Work.faultGate
  dsimp only
  refine Still.trans (Still.push ?_ _) (shutdown_still _ _ _)
  exact (updGate_still _ _ _ rfl).trans (raise_still _ _)

theorem travelGate_still (w : Work) (g : GateId) (d : GateState) : Still w.st (w.travelGate g d).st :=
  Still.push (Still.push (updGate_still _ _ _ rfl) _) _

theorem checkGate_still (w : Work) (g : GateId) : Still w.st (w.checkGate g).st := (checkGate_steps w g).still

theorem judgeShutter_still (s : State) (i : ShutterId) : Still s (s.judgeShutter i) := (judgeShutter_steps s i).still

theorem judgeShutters_still (s : State) : Still s s.judgeShutters := (judgeShutters_steps s).still

theorem returnUnits_still (s : State) (x : StationId) (d : StationState) : Still s (s.returnUnits x d) :=
  ⟨rfl, rfl, rfl, (updStation_still s x (fun q => q.released d) rfl).layout⟩

theorem stopCovering_still (w : Work) (x : StationId) (r : Uncovered) : Still w.st (w.stopCovering x r).st :=
  (stopCovering_steps w x r).still

/-! ## Link commands that leave everything loaded -/

/-- A judgement leaves, if it answers a state at all, one that stands as the one it was given. -/
def JudgedStill (s : State) (j : Judged) : Prop := ∀ u r, j = .ok (u, r) → Still s u

theorem JudgedStill.ok {s u : State} (r : Reply) (h : Still s u) : JudgedStill s (.ok (u, r)) := by
  intro v q e
  cases e
  exact h

theorem JudgedStill.read (s : State) (r : Reply) : JudgedStill s (.ok (s, r)) := .ok r (.same s)

theorem JudgedStill.error (s : State) (r : Reply) : JudgedStill s (.error r) := fun _ _ e => nomatch e

/-- A step of a judgement changes nothing by itself. -/
theorem JudgedStill.bind {α : Type} {s : State} {x : Except Reply α} {f : α → Judged}
    (h : ∀ a, x = .ok a → JudgedStill s (f a)) : JudgedStill s (x >>= f) := by
  intro u r e
  obtain ⟨a, hx, hf⟩ := bind_ok e
  exact h a hx u r hf

/-- A request leaves everything loaded where its own judgement does. -/
theorem request_still {s : State} {n : Nat} {names : Names} {t : Half} {d : List Byte} {own : State → Judged}
    (h : JudgedStill s (own s)) : Still s (s.request n names t d own) := by
  obtain ⟨k, e⟩ | ⟨u, r, hu, _, e⟩ := request_cases s n names t d own <;> rw [e]
  · exact link_still s k
  · exact (h u r hu).trans (replyWith_still u r)

section
variable (s : State) (target : Half) (data : List Byte)

theorem readZone_still : JudgedStill s (s.readZone target) := .bind fun _ _ => .bind fun _ _ => .read s _
theorem readStation_still : JudgedStill s (s.readStation target) := .bind fun _ _ => .bind fun _ _ => .read s _
theorem readLine_still : JudgedStill s (s.readLine target) := .bind fun _ _ => .bind fun _ _ => .read s _
theorem readGate_still : JudgedStill s (s.readGate target) := .bind fun _ _ => .bind fun _ _ => .read s _
theorem readShutter_still : JudgedStill s (s.readShutter target) := .bind fun _ _ => .bind fun _ _ => .read s _
theorem readSiren_still : JudgedStill s (s.readSiren target) := .bind fun _ _ => .bind fun _ _ => .read s _
theorem readChannel_still : JudgedStill s (s.readChannel target) := .bind fun _ _ => .bind fun _ _ => .read s _
theorem readAirflow_still : JudgedStill s (s.readAirflow target) := .bind fun _ _ => .bind fun _ _ => .read s _
theorem readTemperature_still : JudgedStill s (s.readTemperature target) := .bind fun _ _ => .bind fun _ _ => .read s _
theorem lookupTrack_still : JudgedStill s (s.lookupTrack target) := .bind fun _ _ => .bind fun _ _ => .read s _
theorem listTracks_still : JudgedStill s (s.listTracks target data) :=
  .bind fun _ _ => .bind fun _ _ => .bind fun _ _ => .read s _

theorem clearNotices_still : JudgedStill s (s.clearNotices data) := .bind fun _ _ => .ok _ (notices_still s _)
theorem setNotices_still : JudgedStill s (s.setNotices data) := .bind fun _ _ => .ok _ (notices_still s _)
theorem maskNotices_still : JudgedStill s (s.maskNotices data) := .bind fun _ _ => .ok _ (notices_still s _)
theorem takeReset_still : JudgedStill s s.takeReset := .bind fun _ _ => .ok _ (link_still s _)

theorem annotateTrack_still : JudgedStill s (s.annotateTrack target data) :=
  .bind fun _ _ => .bind fun _ _ => .bind fun _ _ => .bind fun _ _ => .ok _ (updTrack_still s _ _)

theorem retireTrack_still : JudgedStill s (s.retireTrack target) :=
  .bind fun _ _ => .bind fun _ _ => .bind fun _ _ => .ok _ (Still.finish (retire_still s.begin _))

theorem acknowledge_still (z : ZoneId) : Still s (s.acknowledge z).st := by
  unfold State.acknowledge
  refine Still.trans ?_ (recompute_still _ z)
  exact updZone_still s z _

theorem ackZone_still : JudgedStill s (s.ackZone target) :=
  .bind fun _ _ => .bind fun _ _ => .ok _ (acknowledge_still s _).finish

theorem arriveCall_still (z : ZoneId) (l : Level) : Still s (s.begin.arriveCall z l).st := by
  unfold Work.arriveCall
  refine Still.trans ?_ (arrive_still _ z l)
  exact updZone_still s z _

theorem callZone_still : JudgedStill s (s.callZone target data) :=
  .bind fun _ _ => .bind fun _ _ => .bind fun _ _ => .ok _ (arriveCall_still s _ _).finish

theorem manualRelease_still : JudgedStill s (s.manualRelease target data) :=
  .bind fun _ _ => .bind fun _ _ => .bind fun _ _ => .bind fun _ _ => .bind fun _ _ =>
    .ok _ (Still.push (updStation_still s _ _ rfl) _).finish

theorem endOrder_still (x : StationId) : Still s (s.endOrder x).st := Still.push (updStation_still s _ _ rfl) _

theorem cancelRelease_still : JudgedStill s (s.cancelRelease target) :=
  .bind fun _ _ => .bind fun _ _ => .bind fun _ _ => .bind fun _ _ => .ok _ (endOrder_still s _).finish

theorem lockWork_still (x : StationId) : Still s (s.lockWork x).st := by
  unfold State.lockWork
  refine Still.push ?_ _
  split
  · exact ((returnUnits_still s x .locked).trans (updStation_still _ x Station.lock rfl)).trans
      (stopCovering_still (s.begin.mod fun s => (s.returnUnits x .locked).updStation x Station.lock) x .locked)
  · exact updStation_still s x Station.lock rfl

theorem lockStation_still : JudgedStill s (s.lockStation target) := by
  refine .bind fun _ _ => .bind fun x _ => .bind fun _ _ => ?_
  split
  · exact .read s _
  · exact .ok _ (lockWork_still s x).finish

theorem unlockStation_still : JudgedStill s (s.unlockStation target) :=
  .bind fun _ _ => .bind fun _ _ => .bind fun _ _ => .ok _ (Still.push (updStation_still s _ _ rfl) _).finish

theorem clearStation_still : JudgedStill s (s.clearStation target) :=
  .bind fun _ _ => .bind fun _ _ => .bind fun _ _ => .bind fun _ _ =>
    .ok _ (Still.push ((updStation_still s _ _ rfl).trans (refreshPlaced_still _ _ _)) _).finish

theorem joinQueue_still (l : LineId) (hm : s.mode = .guarded) : Still s (s.joinQueue l) := by
  have joined : Still s ({ s with startQueue := s.startQueue ++ [l] }.lineTo l fun q => { q with state := .startWait }) :=
    Still.trans (queue_kept s _ _).still (lineTo_still _ _ _ rfl)
  unfold State.joinQueue
  dsimp only
  split
  · exact joined.trans (testStarts_steps _ (joined.mode.trans hm)).still
  · exact joined

theorem restartLine_still : JudgedStill s (s.restartLine target) :=
  .bind fun _ hm => .bind fun _ _ => .bind fun _ _ => .bind fun _ _ => .bind fun _ _ => .bind fun _ _ =>
    .bind fun _ _ => .ok _ (joinQueue_still s _ (takenInGuard_ok.mp hm))

theorem stopLine_still : JudgedStill s (s.stopLine target) :=
  .bind fun _ _ => .bind fun _ _ => .bind fun _ _ => .ok _ (shutdown_still s.begin _ _).finish

theorem gateNormal_still : JudgedStill s (s.gateNormal target) :=
  .bind fun _ _ => .bind fun _ _ => .bind fun _ _ => .bind fun _ _ => .bind fun _ _ => .bind fun _ _ =>
    .ok _ (travelGate_still s.begin _ _).finish

theorem clearGate_still : JudgedStill s (s.clearGate target) :=
  .bind fun _ _ => .bind fun _ _ => .bind fun _ _ => .bind fun _ _ =>
    .ok _ ((updGate_still s _ _ rfl).trans (travelGate_still (State.begin _) _ _)).finish

theorem setPermit_still (i : ShutterId) (granted : Bool) : Still s (s.setPermit i granted) := by
  have set : Still s (s.updShutter i fun h => { h with granted := granted }) := updShutter_still s i _ rfl
  unfold State.setPermit
  dsimp only
  split
  · exact set
  · exact set.trans (judgeShutter_still _ _)

theorem permitOne_still (granted : Bool) : JudgedStill s (s.permitOne granted target) :=
  .bind fun _ _ => .bind fun _ _ => .ok _ (setPermit_still s _ granted)

theorem permitAll_still (granted : Bool) : JudgedStill s (s.permitAll granted) :=
  .bind fun _ _ => .ok _ (foldl_state_still _ _ (fun s i => setPermit_still s i granted) s)

theorem openShutter_still : JudgedStill s (s.openShutter target) := by
  refine .bind fun _ _ => .bind fun i _ => .bind fun _ _ => .bind fun _ _ => .bind fun _ _ =>
    .ok _ (moveShutter_still s i _ ?_)
  dsimp only
  split <;> rfl

theorem clearShutter_still : JudgedStill s (s.clearShutter target) := by
  refine .bind fun _ _ => .bind fun i _ => .bind fun _ _ => .ok _ (moveShutter_still s i _ ?_)
  dsimp only
  split <;> rfl

theorem silenceSiren_still : JudgedStill s (s.silenceSiren target) := by
  refine .bind fun _ _ => .bind fun i _ => .bind fun _ _ => .bind fun _ _ => .ok _ (updSiren_still s i _ ?_)
  unfold Siren.silence
  split <;> rfl

end

/-! ## Births -/

theorem takeRoute_still (w : Work) (i : SlotId) (route : List RouteItem) : Still w.st (w.takeRoute i route).st :=
  (takeRoute_steps w i route).still

theorem findSlot_still (w : Work) : Still w.st w.findSlot.1.st := by
  unfold Work.findSlot
  split
  · exact .same _
  · split
    · exact retire_still _ _
    · exact .same _

theorem arriveBurst_still (w : Work) (z : ZoneId) : Still w.st (w.arriveBurst z).st := by
  unfold Work.arriveBurst
  refine Still.trans ?_ (arrive_still _ z _)
  exact updZone_still _ z _

theorem arriveTableFull_still (w : Work) (z : ZoneId) : Still w.st (w.arriveTableFull z).st := by
  unfold Work.arriveTableFull
  refine Still.trans ?_ (arrive_still _ z _)
  exact updZone_still _ z _

theorem lineBirth_still (w : Work) (l : LineId) (t : Tick) : Still w.st (w.lineBirth l t).st := by
  unfold Work.lineBirth
  split
  · exact .same _
  · extract_lets joined arrived
    have hjoined : Still w.st joined.st := updLine_still _ _ _ rfl
    split
    · have harrived : Still joined.st arrived.st := by
        refine foldl_still _ _ (fun w z => ?_) _
        split
        · exact arriveBurst_still _ _
        · exact .same _
      refine (hjoined.trans harrived).trans (Still.trans ?_ (shutdown_still _ _ _))
      exact updLine_still _ _ _ rfl
    · exact hjoined

theorem birth_still (w : Work) (seg : SegId) (position : Nat) (d : ChanId) (glow : Glow) (intensity : Byte) (time : Tick)
    (injected : Bool) : Still w.st (w.birth seg position d glow intensity time injected).1.st := by
  have found := findSlot_still w
  unfold Work.birth
  split
  · rename_i v hv
    rwa [hv] at found
  · rename_i v i hv
    rw [hv] at found
    extract_lets born placed routed
    have hplaced : Still w.st placed.st := found.trans ⟨rfl, rfl, rfl, rfl⟩
    have hrouted : Still w.st routed.st :=
      (hplaced.trans (takeRoute_still _ _ _)).trans (raise_still _ _)
    clear_value routed
    split
    · exact hrouted
    · exact hrouted.trans (lineBirth_still routed _ time)

theorem tableFull_still (w : Work) (seg : SegId) : Still w.st (w.tableFull seg).st := by
  unfold Work.tableFull
  extract_lets g
  exact ((arriveTableFull_still w g.zone).trans (shutdown_still _ g.line .tableFull)).trans (raise_still _ _)

theorem correlate_still (w : Work) (i : SlotId) (d : ChanId) (glow : Glow) (intensity : Byte) (time : Tick) :
    Still w.st (w.correlate i d glow intensity time).st := by
  unfold Work.correlate
  split
  · exact .same _
  · refine Still.trans ?_ (takeRoute_still _ _ _)
    exact updTrack_still _ _ _

theorem qualified_still (w : Work) (d : ChanId) (glow : Glow) (intensity : Byte) (time : Tick) :
    Still w.st (w.qualified d glow intensity time).st := by
  unfold Work.qualified
  split
  · exact correlate_still _ _ _ _ _ _
  · split
    · exact .same _
    · rename_i seg position _
      have born := birth_still w seg position d glow intensity time false
      split
      · rename_i v _ hv
        rwa [hv] at born
      · rename_i v hv
        rw [hv] at born
        exact born.trans (tableFull_still _ _)

theorem injectTrack_still (s : State) (target : Half) (data : List Byte) : JudgedStill s (s.injectTrack target data) := by
  refine .bind fun _ _ => .bind fun d _ => .bind fun glow _ => .bind fun _ _ => ?_
  split
  · exact .error s _
  · rename_i seg position _
    have born := birth_still s.begin seg position d glow (byteAt data 1) s.now true
    split
    · exact .error s _
    · rename_i v _ hv
      rw [hv] at born
      exact .ok _ born.finish

/-! ## Events that leave everything loaded -/

section
variable (s : State)

theorem channelTo_still (d : ChanId) (c : ChanState) : Still s (s.channelTo d c) := by
  unfold State.channelTo
  split
  · exact .same s
  · exact ((updChannel_still s d _ rfl).trans (raise_still _ _)).trans (refreshPlaced_still _ _ _)

theorem frameError_still (d : ChanId) : Still s (s.frameError d) := by
  have counted : Still s (s.updChannel d fun q => { q.latchFlag .frameErr with errors := bump 255 q.errors }) :=
    updChannel_still s d _ rfl
  unfold State.frameError
  dsimp only
  split
  · exact counted.trans (channelTo_still _ _ _)
  · exact counted

theorem acceptFrame_still (d : ChanId) (glow : Glow) (time : Tick) (f : Frame) : Still s (s.acceptFrame d glow time f).st := by
  unfold State.acceptFrame
  extract_lets seen
  have hseen : Still s seen := updChannel_still s d _ rfl
  split
  · exact (hseen.trans (updChannel_still _ _ _ rfl)).trans (channelTo_still _ _ _)
  · exact (hseen.trans (updChannel_still _ _ _ rfl)).trans (channelTo_still _ _ _)
  · split
    · exact hseen.trans (updChannel_still _ _ _ rfl)
    · refine hseen.trans (Still.trans ?_ (qualified_still _ _ _ _ _))
      exact updChannel_still _ _ _ rfl

theorem judgeFrame_still (d : ChanId) (glow : Glow) (time : Tick) (f : Option Frame) :
    Still s (s.judgeFrame d glow time f).st := by
  unfold State.judgeFrame
  split
  · exact updChannel_still _ _ _ rfl
  · cases f with
    | none => exact frameError_still _ _
    | some f =>
      dsimp only
      split
      · exact .same s
      · exact acceptFrame_still _ _ _ _ _

theorem receiver_still (d : ChanId) (r : Receiver) : Still s (s.receiver d r) := updChannel_still s d _ rfl

theorem bitArrives_still (d : ChanId) (bit : Bool) : Still s (s.bitArrives d bit).st := by
  unfold State.bitArrives
  split
  · dsimp only
    split <;> exact receiver_still _ _ _
  · dsimp only
    split
    · exact receiver_still _ _ _
    · exact (receiver_still s d _).trans (judgeFrame_still _ _ _ _ _)

theorem stallEvent_still (w : Work) (c : AirId) (stall : StallState) : Still w.st (w.stallEvent c stall).st := by
  have enter : ∀ (w : Work) (i : SlotId), Still w.st (w.enterStall i).st := by
    intro w i
    unfold Work.enterStall
    split
    · exact .same _
    · split
      · refine Still.trans ?_ (withdrawUnopened_steps _ i).still
        exact updTrack_still _ i _
      · exact .same _
  have recover : ∀ (w : Work) (i : SlotId), Still w.st (w.recover i).st := by
    intro w i
    unfold Work.recover
    split
    · exact .same _
    · split
      · refine Still.trans ?_ (takeRoute_still _ i _)
        exact updTrack_still _ i _
      · exact .same _
  refine foldl_still _ _ (fun w i => ?_) w
  split
  · exact .same _
  · split
    · cases stall with
      | stalled => exact enter _ _
      | none => exact recover _ _
      | flowing => exact recover _ _
    · exact .same _

theorem airflow_boundary_loaded (a : Airflow) (inGuard : Bool) (vStall : Nat) (now : Tick) :
    Airflow.loaded (a.boundary inGuard vStall now) = Airflow.loaded a := by
  unfold Airflow.boundary Airflow.smooth
  split
  · rfl
  · split
    · rfl
    · dsimp only
      split
      · split <;> rfl
      · rfl

theorem tempBoundary_loaded (i : TempId) (t : Temperature) : Temperature.loaded (s.tempBoundary i t) = Temperature.loaded t := by
  unfold State.tempBoundary State.tempReads State.tempMisses
  split
  · rfl
  · split
    · rfl
    · dsimp only
      split
      · split <;> rfl
      · rfl

theorem sampled_still : Still s s.sampled := by
  refine ⟨rfl, rfl, rfl, ?_⟩
  simp only [layoutOf, State.sampled, Layout.mk.injEq, true_and, and_true]
  refine ⟨map_map_same _ _ _ fun a => airflow_boundary_loaded _ _ _ _, ?_⟩
  apply Vector.ext
  intro i hi
  simp [tempBoundary_loaded]

theorem tempArrivals_still (a b : Temperature) : Still s (s.tempArrivals a b) := by
  have alarm : Still s (if b.alarm && !a.alarm then s.updZone b.zone (Zone.latch .alarm) else s) := by
    split
    · exact updZone_still _ _ _
    · exact .same s
  unfold State.tempArrivals
  extract_lets t
  split
  · exact alarm.trans (updZone_still _ _ _)
  · exact alarm

theorem arrivals_still (before after : Vector Temperature 16) (u : State) :
    Still u ((List.finRange 16).foldl (fun u i => u.tempArrivals before[i] after[i]) u) :=
  foldl_state_still _ _ (fun u i => tempArrivals_still u before[i] after[i]) u

theorem mod_still (w : Work) (f : State → State) (h : Still w.st (f w.st)) : Still w.st (w.mod f).st := h

theorem gateBoundary_still : Still s s.gateBoundary.st := by
  unfold State.gateBoundary
  extract_lets t w1 w2 w3
  have sampled : Still s t := sampled_still s
  split
  · exact sampled
  · have stalls : Still t w1.st := by
      refine foldl_still _ _ (fun w c => ?_) t.begin
      split
      · exact .same _
      · exact stallEvent_still _ _ _
    clear_value w1
    have temps : Still w1.st w2.st := mod_still w1 _ (arrivals_still s.temps t.temps w1.st)
    clear_value w2
    have levels : Still w2.st w3.st := foldl_still _ _ recompute_still w2
    clear_value w3
    exact ((sampled.trans stalls).trans temps).trans
      (levels.trans (mod_still w3 _ (foldl_state_still _ _ (fun u z => refreshFault_still u _ z) w3.st)))

theorem faultStation_still (w : Work) (x : StationId) (r : StationFault) : Still w.st (w.faultStation x r).st := by
  unfold Work.faultStation
  extract_lets left stopped
  have hleft : Still w.st left.st := (returnUnits_still w.st x .fault).trans
    (updStation_still _ x (fun q => { q with faultReason := some r, manual := none }) rfl)
  have hstopped : Still left.st stopped.st := stopCovering_still left x .fault
  clear_value stopped
  exact Still.push (((hleft.trans hstopped).trans (refreshPlaced_still _ _ _)).trans (raise_still _ _)) _

theorem cutStation_still (w : Work) (x : StationId) : Still w.st (w.cutStation x).st := by
  unfold Work.cutStation
  extract_lets removed left cut
  have hleft : Still w.st left.st := (returnUnits_still w.st x .idle).trans
    (updStation_still _ x (fun q => { q with served := [], manual := none }) rfl)
  have hcut : Still left.st cut.st := foldl_still _ _ (fun w i => (stopEntries_steps w x _ .cut i).still) left
  clear_value cut
  exact Still.push ((hleft.trans hcut).trans (raise_still _ _)) _

theorem pressureSeen_still (x : StationId) (shown : Bool) : Still s (s.pressureSeen x shown).st := by
  unfold State.pressureSeen
  split
  · exact updStation_still s _ _ rfl
  · exact faultStation_still s.begin _ _
  · exact .same s

theorem limitsSeen_still (g : GateId) : Still s (s.limitsSeen g).st := by
  unfold State.limitsSeen
  split
  · exact faultGate_still s.begin _ _
  · exact checkGate_still s.begin _

theorem feedback_still (w : Work) (m : FanId) (running : Bool) (l : LineId) : Still w.st (w.feedback m running l).st := by
  unfold Work.feedback
  dsimp only
  split
  · exact .same _
  · split
    · exact (checkRunning_kept _ _).still
    · exact shutdown_still _ _ _
    · exact .same _

theorem callFilter_still (z : ZoneId) : Still s (s.callFilter z).st := by
  unfold State.callFilter
  extract_lets w
  have filtered : Still s w.st := updZone_still s z _
  split
  · exact filtered.trans (arrive_still _ _ _)
  · exact filtered

theorem callInput_still (z : ZoneId) (active : Bool) : Still s (s.callInput z active) := by
  unfold State.callInput
  split
  · exact .same s
  · exact updZone_still s z _

end

/-! ## What each command can move -/

section
variable (s : State)

theorem escapeTrack_still (w : Work) (i : SlotId) (r : EscapeReason) : Still w.st (w.escapeTrack i r).st := by
  unfold Work.escapeTrack
  split
  · exact .same _
  · split
    · extract_lets escaped synced
      have hescaped : Still w.st escaped.st := (updTrack_still w.st i _).trans (raise_still _ _)
      have hsynced : Still w.st synced.st := hescaped.trans (syncMember_steps escaped i).still
      clear_value synced
      split
      · exact hsynced
      · exact hsynced.push _
    · exact .same _

theorem trackEvent_still (i : SlotId) (due : Track → Bool) (f : State → Work) (h : Still s (f s).st) :
    Still s (s.trackEvent i due f) := event_still s _ f h

theorem lingerEnds_still (i : SlotId) :
    Still s (if (s.track? i).elim false fun t => t.hold then
        (s.updTrack i fun t => { t with lingerEnd := .expired }).begin
      else s.begin.retire i).st := by
  split
  · exact updTrack_still s i _
  · exact retire_still s.begin i

theorem entryEvent_still (i : SlotId) (place : Nat) (due : Tick → Tick → RouteItem → Bool)
    (f : Nat → RouteItem → Work → Work) (h : ∀ k r w, Still w.st (f k r w).st) :
    Still s (s.entryEvent i place due f) := by
  unfold State.entryEvent
  split
  · exact event_still s _ _ ((h _ _ s.begin).trans (extend_steps _ i).still)
  · exact .same s

theorem stationEarlyBound_still (i : SlotId) (place : Nat) : Still s (s.entryEvent i place earlyDue fun k r w =>
    r.item.station?.elim w fun x => w.earlyBound i k x) := by
  refine entryEvent_still s i place _ _ fun k r w => ?_
  cases r.item.station? with
  | none => exact .same _
  | some x => exact (earlyBound_steps w i k x).still

theorem stationLateBound_still (i : SlotId) (place : Nat) : Still s (s.entryEvent i place coverDue fun k r w =>
    r.item.station?.elim w fun x => w.resolveStation i k x none) := by
  refine entryEvent_still s i place _ _ fun k r w => ?_
  cases r.item.station? with
  | none => exact .same _
  | some x => exact (resolveStation_steps w i k x none).still

theorem lateBound_still (w : Work) (i : SlotId) (k : Nat) (r : RouteItem) : Still w.st (w.lateBound i k r).st := by
  unfold Work.lateBound
  split
  · exact (resolvePoint_steps w i k).still.trans (spentCheck_steps _ i).still
  · exact (resolvePoint_steps w i k).still

theorem abandoned_still (d : ChanId) :
    Still s (match s.channels[d].receiver with
      | .collecting glow time _ => (s.receiver d (.hunting [])).judgeFrame d glow time none
      | _ => s.begin).st := by
  split
  · exact (receiver_still s d _).trans (judgeFrame_still _ _ _ _ _)
  · exact .same s

theorem survey_still (n : Option Tick) : Still s { s with channels := s.channels.map Channel.survey, nextSurvey := n } := by
  refine ⟨rfl, rfl, rfl, ?_⟩
  simp only [layoutOf, Layout.mk.injEq, true_and, and_true]
  refine map_map_same _ _ _ fun q => ?_
  unfold Channel.survey
  split <;> rfl

theorem echoMissed_still (d : ChanId) :
    Still s (let t := s.updChannel d fun q => { q with missed := bump 2 q.missed, echoWindow := none }
      (if 2 ≤ t.channels[d].missed then t.channelTo d .blind else t).begin).st := by
  have closed : Still s (s.updChannel d fun q => { q with missed := bump 2 q.missed, echoWindow := none }) :=
    updChannel_still s d _ rfl
  dsimp only
  split
  · exact closed.trans (channelTo_still _ _ _)
  · exact closed

theorem airflowPulse_still (a : AirId) : Still s (if s.resetLow then s else
    s.updAirflow a fun q => if q.inUse then { q with count := bump 65535 q.count } else q) := by
  split
  · exact .same s
  · refine updAirflow_still s a _ ?_
    split <;> rfl

theorem temperaturePulse_still (t : TempId) (width : Nat) : Still s (if s.resetLow then s else
    s.updTemp t fun q => if q.inUse then { q with pulse := some width } else q) := by
  split
  · exact .same s
  · refine updTemp_still s t _ ?_
    split <;> rfl

theorem purgeDue_still (x : StationId) :
    Still s (let before := s.stations[x].debt
      let t := s.updStation x fun q => { q with debt := bump Config.debtLimit q.debt, accumulation := 0 }
      let t := if before + 1 = Config.debtLimit then (t.refreshPlaced .purgeOverdue (.station x)).raise .station else t
      t.begin.push (.station x)).st := by
  have owed : Still s (s.updStation x fun q => { q with debt := bump Config.debtLimit q.debt, accumulation := 0 }) :=
    updStation_still s x _ rfl
  dsimp only
  refine Still.push ?_ _
  split
  · exact (owed.trans (refreshPlaced_still _ _ _)).trans (raise_still _ _)
  · exact owed

theorem startsTested_still : Still s (let t := { s with startList := s.startList.tail }
    (if t.mode = Mode.guarded then t.testStarts else t).begin).st := by
  have shorter : Still s { s with startList := s.startList.tail } := (queue_kept s _ _).still
  dsimp only
  split
  · exact shorter.trans (testStarts_steps _ ‹_›).still
  · exact shorter

theorem shutterEvent_still (i : ShutterId) (due : Shutter → Bool) (f : Shutter → Shutter)
    (h : ∀ q, Shutter.loaded (f q) = Shutter.loaded q) : Still s (s.shutterEvent i due f) := by
  unfold State.shutterEvent
  split
  · exact moveShutter_still s i f (h _)
  · exact .same s

end

section
variable (h : Shutter) (now : Tick)

theorem limits_loaded (o c : Bool) : Shutter.loaded (h.limits o c now) = Shutter.loaded h := by
  have opened : ∀ (h : Shutter), Shutter.loaded (h.openLimitChange o now) = Shutter.loaded h := by
    intro h
    unfold Shutter.openLimitChange
    dsimp only
    split <;> rfl
  have closed : ∀ (h : Shutter), Shutter.loaded (h.closedLimitChange c now) = Shutter.loaded h := by
    intro h
    unfold Shutter.closedLimitChange
    dsimp only
    split <;> rfl
  unfold Shutter.limits
  dsimp only
  split <;> split <;> simp only [opened, closed]

theorem expire_loaded : Shutter.loaded (h.expire now) = Shutter.loaded h := by
  unfold Shutter.expire
  split <;> rfl

theorem obstruct_loaded : Shutter.loaded (h.obstruct now) = Shutter.loaded h := by
  unfold Shutter.obstruct
  dsimp only
  split <;> rfl

theorem obstruction_loaded (active : Bool) : Shutter.loaded (h.obstruction active now) = Shutter.loaded h := by
  unfold Shutter.obstruction
  dsimp only
  split
  · rfl
  · split
    · split
      · exact obstruct_loaded _ _
      · rfl
    · rfl
    · rfl

theorem resume_loaded : Shutter.loaded (h.resume now) = Shutter.loaded h := by
  unfold Shutter.resume
  dsimp only
  split <;> rfl

end

theorem completeGroup_fixed (y : Siren) (p : Pattern) (now : Tick) : (y.completeGroup p now).1.fixed = y.fixed := by
  have fall : ∀ (y : Siren) (c : Level), (y.fall c now).fixed = y.fixed := by
    intro y c
    unfold Siren.fall
    dsimp only
    split <;> rfl
  unfold Siren.completeGroup
  extract_lets counted due reported after
  have kept : reported.fixed = y.fixed := by
    unfold reported
    split <;> rfl
  unfold after
  split
  · exact (fall _ _).trans kept
  · split
    · exact kept
    · exact kept

theorem phaseDone_fixed (y : Siren) (p : Pattern) (derate : Bool) (now : Tick) :
    (y.phaseDone p derate now).1.fixed = y.fixed := by
  unfold Siren.phaseDone
  split
  · split
    · rfl
    · exact completeGroup_fixed _ _ _
  · rfl
  · rfl
  · rfl

theorem sirenPhaseEnd_still (s : State) (i : SirenId) : Still s (s.sirenPhaseEnd i) := by
  unfold State.sirenPhaseEnd
  split
  · split
    · exact updSiren_still s i _ rfl
    · extract_lets r t
      have moved : Still s t := updSiren_still s i _ (phaseDone_fixed _ _ _ _)
      split
      · exact moved.trans (raise_still _ _)
      · exact moved
  · exact .same s

theorem shutterLimitChange_still (s : State) (h : ShutterId) (o c : Bool) : Still s (if s.resetLow then
    s.updShutter h fun q => { q with openLimit := o, closedLimit := c }
    else s.moveShutter h fun q => q.limits o c s.now) := by
  split
  · exact updShutter_still s h _ rfl
  · exact moveShutter_still s h _ (limits_loaded _ _ _ _)

theorem shutterObstruction_still (s : State) (h : ShutterId) (active : Bool) : Still s (if s.resetLow then
    s.updShutter h fun q => { q with obstructed := active }
    else s.moveShutter h fun q => q.obstruction active s.now) := by
  split
  · exact updShutter_still s h _ rfl
  · exact moveShutter_still s h _ (obstruction_loaded _ _ _)

/-- A load answers in CONFIG only, and leaves the part's mode and time alone. -/
def JudgedLoad (s : State) (j : Judged) : Prop :=
  ∀ u r, j = .ok (u, r) → s.mode = .config ∧ u.now = s.now ∧ u.resetLow = s.resetLow ∧ u.mode = s.mode

theorem JudgedLoad.ok {s u : State} (r : Reply) (hm : s.mode = .config)
    (h : u.now = s.now ∧ u.resetLow = s.resetLow ∧ u.mode = s.mode) : JudgedLoad s (.ok (u, r)) := by
  intro v q e
  cases e
  exact ⟨hm, h⟩

theorem JudgedLoad.error (s : State) (r : Reply) : JudgedLoad s (.error r) := fun _ _ e => nomatch e

theorem JudgedLoad.bind {α : Type} {s : State} {x : Except Reply α} {f : α → Judged}
    (h : ∀ a, x = .ok a → JudgedLoad s (f a)) : JudgedLoad s (x >>= f) := by
  intro u r e
  obtain ⟨a, hx, hf⟩ := bind_ok e
  exact h a hx u r hf

/-- The mode step of a load. -/
theorem JudgedLoad.inConfig {s : State} {f : Unit → Judged} (h : s.mode = .config → JudgedLoad s (f ())) :
    JudgedLoad s (takenInConfig s >>= f) := .bind fun _ hm => h (takenInConfig_ok.mp hm)

section
variable (s : State) (target : Half) (data : List Byte)

theorem loadLimits_load : JudgedLoad s (s.loadLimits data) := .inConfig fun hm => .ok _ hm ⟨rfl, rfl, rfl⟩

theorem loadSegment_load : JudgedLoad s (s.loadSegment target data) :=
  .inConfig fun hm => .bind fun _ _ => .bind fun _ _ => .bind fun _ _ => .bind fun _ _ => .bind fun _ _ => .bind fun _ _ =>
    .bind fun _ _ => .bind fun _ _ => .ok _ hm ⟨rfl, rfl, rfl⟩

theorem loadPoint_load : JudgedLoad s (s.loadPoint target data) := by
  refine .inConfig fun hm => .bind fun _ _ => .bind fun _ _ => .bind fun placing _ => ?_
  dsimp only
  split
  · exact .bind fun _ _ => .bind fun _ _ => .bind fun _ _ => .ok _ hm ⟨rfl, rfl, rfl⟩
  · exact .bind fun _ _ => .ok _ hm ⟨rfl, rfl, rfl⟩

theorem loadGate_load : JudgedLoad s (s.loadGate target data) := by
  have stands : ∀ (brought : Bool) (t : State) (g : GateId),
      Still t (if brought then t.begin.checkGate g else t.begin).finish := by
    intro brought t g
    split
    · exact (checkGate_still t.begin g).finish
    · exact Still.finish (.same t)
  exact .inConfig fun hm => .bind fun g _ => .bind fun _ _ => .bind fun _ _ => .bind fun _ _ => .bind fun inUse _ =>
    .bind fun _ _ => .ok _ hm ⟨(stands _ _ _).now, (stands _ _ _).resetLow, (stands _ _ _).mode⟩

theorem loadLine_load : JudgedLoad s (s.loadLine target data) := by
  refine .inConfig fun hm => .bind fun g _ => .bind fun _ _ => .bind fun _ _ => .bind fun _ _ => .ok _ hm ?_
  unfold State.lineTo
  dsimp only
  split <;> exact ⟨rfl, rfl, rfl⟩

theorem loadStation_load : JudgedLoad s (s.loadStation target data) :=
  .inConfig fun hm => .bind fun _ _ => .bind fun _ _ => .bind fun _ _ => .bind fun _ _ => .ok _ hm ⟨rfl, rfl, rfl⟩

theorem loadChannel_load : JudgedLoad s (s.loadChannel target data) :=
  .inConfig fun hm => .bind fun _ _ => .bind fun _ _ => .bind fun _ _ => .ok _ hm ⟨rfl, rfl, rfl⟩

theorem loadAirflow_load : JudgedLoad s (s.loadAirflow target data) :=
  .inConfig fun hm => .bind fun _ _ => .bind fun _ _ => .ok _ hm ⟨rfl, rfl, rfl⟩

theorem loadTemperature_load : JudgedLoad s (s.loadTemperature target data) :=
  .inConfig fun hm => .bind fun _ _ => .bind fun _ _ => .bind fun _ _ => .ok _ hm ⟨rfl, rfl, rfl⟩

theorem loadShutter_load : JudgedLoad s (s.loadShutter target data) := by
  refine .inConfig fun hm => .bind fun _ _ => .bind fun a _ => .bind fun _ _ => ?_
  cases a with
  | none => exact .error s _
  | some a => exact .bind fun _ _ => .ok _ hm ⟨rfl, rfl, rfl⟩

theorem loadSiren_load : JudgedLoad s (s.loadSiren target data) :=
  .inConfig fun hm => .bind fun _ _ => .bind fun _ _ => .ok _ hm ⟨rfl, rfl, rfl⟩

theorem loadPattern_load : JudgedLoad s (s.loadPattern target data) :=
  .inConfig fun hm => .bind fun _ _ => .bind fun _ _ => .bind fun _ _ => .ok _ hm ⟨rfl, rfl, rfl⟩

end

/-! ## The end of the walk, and RELEASE GUARD -/

theorem guardRecords_still (s : State) : Still { s with mode := .guarded } s.guardRecords := by
  have channel : ∀ q : Channel, Channel.loaded (q.guard s.now s.limits.supervision) = Channel.loaded q := by
    intro q
    unfold Channel.guard
    split <;> rfl
  have airflow : ∀ a : Airflow, Airflow.loaded (a.guard s.limits.vStall) = Airflow.loaded a := by
    intro a
    unfold Airflow.guard
    split <;> rfl
  have temp : ∀ t : Temperature, Temperature.loaded t.guard = Temperature.loaded t := by
    intro t
    unfold Temperature.guard
    split <;> rfl
  have gate : ∀ g : Gate, Gate.loaded (g.guard s.now) = Gate.loaded g := by
    intro g
    unfold Gate.guard
    split <;> rfl
  refine ⟨rfl, rfl, rfl, ?_⟩
  simp only [layoutOf, State.guardRecords, Layout.mk.injEq, true_and]
  refine ⟨map_map_same _ _ _ gate, ?_, map_map_same _ _ _ fun _ => rfl, map_map_same _ _ _ channel,
    map_map_same _ _ _ airflow, map_map_same _ _ _ temp, map_map_same _ _ _ fun _ => rfl⟩
  apply Vector.ext
  intro l hl
  simp [Line.guard, Line.loaded]

theorem enterGuard_still (s : State) : Still { s with mode := .guarded } s.enterGuard.st := by
  unfold State.enterGuard
  extract_lets entered faulted
  have hentered : Still { s with mode := .guarded } entered.st := (guardRecords_still s).trans (raise_still _ _)
  have hfaulted : Still entered.st faulted.st := by
    refine foldl_still _ _ (fun w g => ?_) entered
    split
    · exact faultGate_still w g _
    · exact .same _
  exact (hentered.trans hfaulted).trans (mod_still faulted _ (refreshAllFaults_still faulted.st))

theorem releaseZone_still (w : Work) (z : ZoneId) : Still w.st (w.releaseZone z).st := by
  have fell : Still w.st (w.mod fun s => s.updZone z fun q => q.release s.now).st := updZone_still _ z _
  unfold Work.releaseZone
  extract_lets old v
  split
  · exact fell
  · exact (fell.trans (raise_still _ _)).push _

/-- The records that RELEASE GUARD resets once the lines are down (R17). -/
theorem releaseRecords_still (s : State) : Still s { s with
    lines := s.lines.map fun l => { l with burst := [] }, startQueue := [],
    gates := s.gates.map fun g => { g with timer := none },
    channels := s.channels.map Channel.release, airflows := s.airflows.map Airflow.release,
    temps := s.temps.map Temperature.release } := by
  refine ⟨rfl, rfl, rfl, ?_⟩
  simp only [layoutOf, Layout.mk.injEq, true_and, and_true]
  exact ⟨map_map_same _ _ _ fun _ => rfl, map_map_same _ _ _ fun _ => rfl, map_map_same _ _ _ fun _ => rfl,
    map_map_same _ _ _ fun _ => rfl, map_map_same _ _ _ fun _ => rfl⟩

theorem Still.sirensReleased {s u : State} (h : Still s u) : Still s { u with sirens := s.sirens.map Siren.release } := by
  refine ⟨h.now, h.resetLow, h.mode, ?_⟩
  have layout := h.layout
  simp only [layoutOf, Layout.mk.injEq] at layout ⊢
  obtain ⟨limits, segments, gates, lines, stations, channels, airflows, temps, shutters, _⟩ := layout
  exact ⟨limits, segments, gates, lines, stations, channels, airflows, temps, shutters, map_map_same _ _ _ fun _ => rfl⟩

theorem stationsReleased_still (s : State) (n : Nat) :
    Still s { s with stations := s.stations.map Station.release, freeUnits := n } := by
  refine ⟨rfl, rfl, rfl, ?_⟩
  simp only [layoutOf, Layout.mk.injEq, true_and, and_true]
  exact map_map_same _ _ _ fun _ => rfl

theorem releaseWork_still (s : State) : Still { s with mode := .config } s.releaseWork.st := by
  unfold State.releaseWork
  extract_lets w0 w1 w2 w3 w4 w5
  have begun : Still { s with mode := .config } w0.st := ⟨rfl, rfl, rfl, rfl⟩
  have stations : Still w0.st w1.st := stationsReleased_still w0.st _
  have retired : Still w1.st w2.st := foldl_still _ _ retire_still w1
  have lines : Still w2.st w3.st := by
    refine foldl_still _ _ (fun w l => ?_) w2
    split
    · exact .same _
    · exact .same _
    · exact shutdown_still _ _ _
  have records : Still w3.st w4.st := releaseRecords_still w3.st
  have zones : Still w4.st w5.st := foldl_still _ _ releaseZone_still w4
  have rest : Still w5.st (w5.mod fun s => { s.refreshAllFaults.judgeShutters with
      sirens := s.sirens.map Siren.release }).st := by
    refine mod_still w5 _ (Still.sirensReleased ?_)
    exact (refreshAllFaults_still w5.st).trans (judgeShutters_still _)
  exact (((((begun.trans stations).trans retired).trans lines).trans records).trans zones).trans rest

/-- A state with another part mode. -/
def inMode (s : State) (m : Mode) : State := { s with mode := m }

/-- What one command that is no part reset can move (R8 to R10, R13, R14, R17): nothing of the mode, the time and the layout;
the layout, in CONFIG; or the mode, by COMMIT, the end of the walk or RELEASE GUARD. -/
inductive Move (s : State) : Instr → State → Prop
  | still {c : Instr} {t : State} (h : Still s t) : Move s c t
  | load {c : Instr} {t : State} (hm : s.mode = .config)
      (h : t.now = s.now ∧ t.resetLow = s.resetLow ∧ t.mode = s.mode) : Move s c t
  | commit {target : Half} {data : List Byte} {t : State} (hr : s.resetLow = false) (hm : s.mode = .config)
      (h : Still (inMode s .committing) t) : Move s (.commit target data) t
  | failed {v : Violation} {t : State} (hr : s.resetLow = false) (hm : s.mode = .committing)
      (hv : s.firstViolation = some v) (h : Still (inMode s .config) t) : Move s .validationWalkEnd t
  | passed {t : State} (hr : s.resetLow = false) (hm : s.mode = .committing) (hv : s.firstViolation = none)
      (h : Still (inMode s .guarded) t) : Move s .validationWalkEnd t
  | released {target : Half} {data : List Byte} {t : State} (hr : s.resetLow = false) (hm : s.mode = .guarded)
      (h : Still (inMode s .config) t) : Move s (.releaseGuard target data) t

/-- A load request moves nothing, or it is taken in CONFIG. -/
theorem request_load {s : State} {c : Instr} {n : Nat} {names : Names} {t : Half} {d : List Byte} {own : State → Judged}
    (h : JudgedLoad s (own s)) : Move s c (s.request n names t d own) := by
  obtain ⟨k, e⟩ | ⟨u, r, hu, _, e⟩ := request_cases s n names t d own <;> rw [e]
  · exact .still (link_still s k)
  · obtain ⟨hm, hs⟩ := h u r hu
    exact .load hm hs

theorem commit_move (s : State) (target : Half) (data : List Byte) :
    Move s (.commit target data) (s.request 0 .nothing target data State.commit) := by
  obtain ⟨k, e⟩ | ⟨u, r, hu, listens, e⟩ := request_cases s 0 .nothing target data State.commit <;> rw [e]
  · exact .still (link_still s k)
  · obtain ⟨_, hm, hu⟩ := bind_ok hu
    cases hu
    exact .commit listens.1 (takenInConfig_ok.mp hm) ⟨rfl, rfl, rfl, rfl⟩

theorem releaseGuard_move (s : State) (target : Half) (data : List Byte) :
    Move s (.releaseGuard target data) (s.request 0 .nothing target data State.releaseGuard) := by
  obtain ⟨k, e⟩ | ⟨u, r, hu, listens, e⟩ := request_cases s 0 .nothing target data State.releaseGuard <;> rw [e]
  · exact .still (link_still s k)
  · obtain ⟨_, hm, hu⟩ := bind_ok hu
    obtain ⟨_, _, hu⟩ := bind_ok hu
    obtain ⟨_, _, hu⟩ := bind_ok hu
    have work : Still (inMode s .config) s.releaseWork.finish := (releaseWork_still s).finish
    obtain ⟨rfl, rfl⟩ := Prod.mk.inj (Except.ok.inj hu)
    exact .released listens.1 (takenInGuard_ok.mp hm) (work.trans (replyWith_still _ _))

theorem walkDue_iff (s : State) : s.walkDue = true ↔ s.mode = .committing ∧ reached s.walkEnd s.now = true := by
  simp [State.walkDue]

/-- The end of the walk, where it is due and finds a violation (R13). -/
theorem walkEnd_failed (s : State) (v : Violation) (hr : s.resetLow = false) (hd : s.walkDue = true)
    (hv : s.firstViolation = some v) :
    exec .validationWalkEnd s =
      .next ({ s with mode := .config, walkEnd := none, result := .failed v }.raise .commit) := by
  change Host.Outcome.next (s.event s.walkDue _) = _
  rw [event_due s _ _ hr hd, hv, begin_finish]

/-- The end of the walk, where it is due and finds none (R14). -/
theorem walkEnd_passed (s : State) (hr : s.resetLow = false) (hd : s.walkDue = true) (hv : s.firstViolation = none) :
    exec .validationWalkEnd s = .next s.enterGuard.finish := by
  change Host.Outcome.next (s.event s.walkDue _) = _
  rw [event_due s _ _ hr hd, hv]

/-- The end of the walk where none is due. -/
theorem walkEnd_idle (s : State) (h : s.resetLow = true ∨ s.walkDue = false) : exec .validationWalkEnd s = .next s := by
  change Host.Outcome.next (s.event s.walkDue _) = _
  rw [event_not s _ _ h]

theorem walkEnd_move (s : State) : ∃ t, exec .validationWalkEnd s = .next t ∧ Move s .validationWalkEnd t := by
  by_cases idle : s.resetLow = true ∨ s.walkDue = false
  · exact ⟨s, walkEnd_idle s idle, .still (.same s)⟩
  · simp only [not_or, Bool.not_eq_true, Bool.not_eq_false] at idle
    obtain ⟨hr, hd⟩ := idle
    have hm := ((walkDue_iff s).mp hd).1
    cases hv : s.firstViolation with
    | some v => exact ⟨_, walkEnd_failed s v hr hd hv, .failed hr hm hv ⟨rfl, rfl, rfl, rfl⟩⟩
    | none => exact ⟨_, walkEnd_passed s hr hd hv, .passed hr hm hv (enterGuard_still s).finish⟩

/-- A link event. -/
theorem badCrc_still (s : State) (header : BitVec 32) (data : List Byte) (crc : Half) :
    ∃ t, execBadCrc header data crc s = .next t ∧ Still s t := by
  refine ⟨_, rfl, ?_⟩
  split
  · exact transact_still s _ (((replyWith_still s _).trans (link_still _ _)).trans (raiseLinkError_still _ _))
  · exact .same s

theorem headerParityError_still (s : State) (header : BadHeader) :
    ∃ t, execHeaderParityError header s = .next t ∧ Still s t := by
  refine ⟨_, rfl, ?_⟩
  split
  · exact .same s
  · exact transact_still s _ (((driveOnly_still s _).trans (link_still _ _)).trans (raiseLinkError_still _ _))

theorem unknownOp_still (s : State) (opcode : BitVec 7) (target : Half) (data : List Byte) :
    ∃ t, execUnknownOp opcode target data s = .next t ∧ Still s t := by
  refine ⟨_, rfl, ?_⟩
  split
  · exact .same s
  · exact transact_still s _ (replyWith_still s _)

/-- A change made under a condition. -/
theorem ite_still {s t : State} (p : Prop) [Decidable p] (h : Still s t) : Still s (if p then t else s) := by
  split
  · exact h
  · exact .same s

/-- The commands that bring no move of their own. -/
def bringsNoMove : Instr → Bool
  | .loadLimits _ _ | .loadSegment _ _ | .loadPoint _ _ | .loadGate _ _ | .loadLine _ _ | .loadStation _ _
  | .loadChannel _ _ | .loadAirflow _ _ | .loadTemperature _ _ | .loadShutter _ _ | .loadSiren _ _ | .loadPattern _ _
  | .commit _ _ | .validationWalkEnd | .releaseGuard _ _
  | .linkPartResetTakesPlace | .resetLineLow | .resetLineHigh _ | .powerUp => false
  | _ => true

/-- Every command but the loads, COMMIT, the end of the walk, RELEASE GUARD and the part resets leaves the mode, the time and
everything loaded. -/
theorem exec_still (c : Instr) (s : State) (hc : bringsNoMove c = true) : ∃ t, exec c s = .next t ∧ Still s t := by
  cases c with
  | loadLimits => cases hc
  | loadSegment => cases hc
  | loadPoint => cases hc
  | loadGate => cases hc
  | loadLine => cases hc
  | loadStation => cases hc
  | loadChannel => cases hc
  | loadAirflow => cases hc
  | loadTemperature => cases hc
  | loadShutter => cases hc
  | loadSiren => cases hc
  | loadPattern => cases hc
  | commit => cases hc
  | validationWalkEnd => cases hc
  | releaseGuard => cases hc
  | linkPartResetTakesPlace => cases hc
  | resetLineLow => cases hc
  | resetLineHigh => cases hc
  | powerUp => cases hc
  -- reads and notice commands
  | readStatus t d => exact ⟨_, rfl, request_still (.read s _)⟩
  | lookupTrack t d => exact ⟨_, rfl, request_still (lookupTrack_still s t)⟩
  | listTracks t d => exact ⟨_, rfl, request_still (listTracks_still s t d)⟩
  | readZone t d => exact ⟨_, rfl, request_still (readZone_still s t)⟩
  | readStation t d => exact ⟨_, rfl, request_still (readStation_still s t)⟩
  | readLine t d => exact ⟨_, rfl, request_still (readLine_still s t)⟩
  | readGate t d => exact ⟨_, rfl, request_still (readGate_still s t)⟩
  | readShutter t d => exact ⟨_, rfl, request_still (readShutter_still s t)⟩
  | readSiren t d => exact ⟨_, rfl, request_still (readSiren_still s t)⟩
  | readChannel t d => exact ⟨_, rfl, request_still (readChannel_still s t)⟩
  | readAirflow t d => exact ⟨_, rfl, request_still (readAirflow_still s t)⟩
  | readTemperature t d => exact ⟨_, rfl, request_still (readTemperature_still s t)⟩
  | readNotices t d => exact ⟨_, rfl, request_still (.read s _)⟩
  | clearNotices t d => exact ⟨_, rfl, request_still (clearNotices_still s d)⟩
  | setNotices t d => exact ⟨_, rfl, request_still (setNotices_still s d)⟩
  | maskNotices t d => exact ⟨_, rfl, request_still (maskNotices_still s d)⟩
  | partReset t d => exact ⟨_, rfl, request_still (takeReset_still s)⟩
  -- tracks and zones
  | annotateTrack t d => exact ⟨_, rfl, request_still (annotateTrack_still s t d)⟩
  | retireTrack t d => exact ⟨_, rfl, request_still (retireTrack_still s t)⟩
  | injectTrack t d => exact ⟨_, rfl, request_still (injectTrack_still s t d)⟩
  | ackZone t d => exact ⟨_, rfl, request_still (ackZone_still s t)⟩
  | callZone t d => exact ⟨_, rfl, request_still (callZone_still s t d)⟩
  -- stations
  | manualRelease t d => exact ⟨_, rfl, request_still (manualRelease_still s t d)⟩
  | cancelRelease t d => exact ⟨_, rfl, request_still (cancelRelease_still s t)⟩
  | lockStation t d => exact ⟨_, rfl, request_still (lockStation_still s t)⟩
  | unlockStation t d => exact ⟨_, rfl, request_still (unlockStation_still s t)⟩
  | clearStation t d => exact ⟨_, rfl, request_still (clearStation_still s t)⟩
  -- lines and gates
  | restartLine t d => exact ⟨_, rfl, request_still (restartLine_still s t)⟩
  | stopLine t d => exact ⟨_, rfl, request_still (stopLine_still s t)⟩
  | gateNormal t d => exact ⟨_, rfl, request_still (gateNormal_still s t)⟩
  | clearGate t d => exact ⟨_, rfl, request_still (clearGate_still s t)⟩
  -- shutters and sirens
  | grantHold t d => exact ⟨_, rfl, request_still (permitOne_still s t true)⟩
  | revokeHold t d => exact ⟨_, rfl, request_still (permitOne_still s t false)⟩
  | grantAll t d => exact ⟨_, rfl, request_still (permitAll_still s true)⟩
  | revokeAll t d => exact ⟨_, rfl, request_still (permitAll_still s false)⟩
  | openShutter t d => exact ⟨_, rfl, request_still (openShutter_still s t)⟩
  | clearShutter t d => exact ⟨_, rfl, request_still (clearShutter_still s t)⟩
  | silenceSiren t d => exact ⟨_, rfl, request_still (silenceSiren_still s t)⟩
  -- the link
  | unknownOp o t d => exact unknownOp_still s o t d
  | headerParityError h => exact headerParityError_still s h
  | alertHoldEnd => exact ⟨_, rfl, ite_still _ (link_still s _)⟩
  | holdTransactionIgnored => exact ⟨_, rfl, ite_still _ (driveOnly_still s _)⟩
  | badCrc h d crc => exact badCrc_still s h d crc
  | alertPulseEnd => exact ⟨_, rfl, ite_still _ (link_still s _)⟩
  | shortTransaction =>
    exact ⟨_, rfl, transact_still s _ ((driveOnly_still s _).trans (raiseLinkError_still _ _))⟩
  -- detectors and inputs
  | frameComplete d bit => exact ⟨_, rfl, event_still s _ _ (bitArrives_still s d bit)⟩
  | frameAbandoned d => exact ⟨_, rfl, event_still s _ _ (abandoned_still s d)⟩
  | surveyBoundary => exact ⟨_, rfl, event_still s _ _ (survey_still s _)⟩
  | supervisionPulse d => exact ⟨_, rfl, event_still s _ _ (updChannel_still s d _ rfl)⟩
  | testDriveEnd d => exact ⟨_, rfl, event_still s _ _ (updChannel_still s d _ rfl)⟩
  | echoWindowExpiry d => exact ⟨_, rfl, event_still s _ _ (echoMissed_still s d)⟩
  | airflowPulse a => exact ⟨_, rfl, airflowPulse_still s a⟩
  | temperaturePulse t w => exact ⟨_, rfl, temperaturePulse_still s t w⟩
  | sampleGateBoundary => exact ⟨_, rfl, event_still s _ _ (gateBoundary_still s)⟩
  | detectorBitArrival d bit => exact ⟨_, rfl, event_still s _ _ (bitArrives_still s d bit)⟩
  -- track events
  | stallLimitExpiry i => exact ⟨_, rfl, trackEvent_still s i _ _ (escapeTrack_still s.begin i .stall)⟩
  | segmentAdvance i => exact ⟨_, rfl, trackEvent_still s i _ _ (advance_steps s.begin i).still⟩
  | recentPassExpiry i => exact ⟨_, rfl, trackEvent_still s i _ _ (updTrack_still s i _)⟩
  | lingerExpiry i => exact ⟨_, rfl, trackEvent_still s i _ _ (lingerEnds_still s i)⟩
  | stationEarlyBound i place => exact ⟨_, rfl, stationEarlyBound_still s i place⟩
  | stationLateBound i place => exact ⟨_, rfl, stationLateBound_still s i place⟩
  | entryLateBound i place => exact ⟨_, rfl, entryEvent_still s i place _ _ fun k r w => lateBound_still w i k r⟩
  -- station events
  | servedEntryOpen x i => exact ⟨_, rfl, event_still s _ _ (Still.push (updStation_still s x _ rfl) _)⟩
  | servedEntryClose x i => exact ⟨_, rfl, event_still s _ _ (Still.push (updStation_still s x _ rfl) _)⟩
  | deadlinePassed x i => exact ⟨_, rfl, event_still s _ _ (Still.push (updStation_still s x _ rfl) _)⟩
  | floodMinimumRun x => exact ⟨_, rfl, event_still s _ _ (Still.push (updStation_still s x _ rfl) _)⟩
  | pressureConfirmInput x shown =>
    exact ⟨_, rfl, (updStation_still s x _ rfl).trans (event_still _ _ _ (pressureSeen_still _ x shown))⟩
  | confirmTimeout x => exact ⟨_, rfl, event_still s _ _ (faultStation_still s.begin x .noConfirm)⟩
  | maxReleaseCut x => exact ⟨_, rfl, event_still s _ _ (cutStation_still s.begin x)⟩
  | manualOrderEnd x => exact ⟨_, rfl, event_still s _ _ (endOrder_still s x)⟩
  | purgeDue x => exact ⟨_, rfl, event_still s _ _ (purgeDue_still s x)⟩
  | purgeEnd x =>
    exact ⟨_, rfl, event_still s _ _ (Still.push ((updStation_still s x _ rfl).trans (refreshPlaced_still _ _ _)) _)⟩
  -- gate and line events
  | gateLimitChange g n a =>
    exact ⟨_, rfl, (updGate_still s g _ rfl).trans (event_still _ _ _ (limitsSeen_still _ g))⟩
  | gateTravelTimeout g => exact ⟨_, rfl, event_still s _ _ (faultGate_still s.begin g .timeout)⟩
  | runDownEnd l => exact ⟨_, rfl, event_still s _ _ (lineTo_still s l _ rfl)⟩
  | startListExpiry => exact ⟨_, rfl, event_still s _ _ (startsTested_still s)⟩
  | fanFeedbackChange m running =>
    exact ⟨_, rfl, Still.trans (t := { s with fanFeedback := updAt s.fanFeedback m fun _ => running }) ⟨rfl, rfl, rfl, rfl⟩
      (event_still _ _ _ (foldl_still _ _ (fun w l => feedback_still w m running l) (State.begin _)))⟩
  | runUpEnd l => exact ⟨_, rfl, event_still s _ _ (shutdown_still s.begin l .fanFault)⟩
  -- zone, shutter and siren events
  | callPointInput z active => exact ⟨_, rfl, callInput_still s z active⟩
  | callPointFilter z => exact ⟨_, rfl, event_still s _ _ (callFilter_still s z)⟩
  | shutterLimitChange h o c => exact ⟨_, rfl, shutterLimitChange_still s h o c⟩
  | shutterTravelTimeout h => exact ⟨_, rfl, shutterEvent_still s h _ _ fun q => expire_loaded q s.now⟩
  | shutterObstruction h active => exact ⟨_, rfl, shutterObstruction_still s h active⟩
  | rearmEnd h => exact ⟨_, rfl, shutterEvent_still s h _ _ fun q => resume_loaded q s.now⟩
  | pauseLimit h => exact ⟨_, rfl, shutterEvent_still s h _ _ fun _ => rfl⟩
  | sirenPhaseEnd y => exact ⟨_, rfl, sirenPhaseEnd_still s y⟩

/-- What any command but a part reset moves. -/
theorem exec_move (c : Instr) (s : State) (hc : isPartReset c = false) : ∃ t, exec c s = .next t ∧ Move s c t := by
  by_cases brings : bringsNoMove c = true
  · obtain ⟨t, e, h⟩ := exec_still c s brings
    exact ⟨t, e, .still h⟩
  · cases c with
    | loadLimits t d => exact ⟨_, rfl, request_load (loadLimits_load s d)⟩
    | loadSegment t d => exact ⟨_, rfl, request_load (loadSegment_load s t d)⟩
    | loadPoint t d => exact ⟨_, rfl, request_load (loadPoint_load s t d)⟩
    | loadGate t d => exact ⟨_, rfl, request_load (loadGate_load s t d)⟩
    | loadLine t d => exact ⟨_, rfl, request_load (loadLine_load s t d)⟩
    | loadStation t d => exact ⟨_, rfl, request_load (loadStation_load s t d)⟩
    | loadChannel t d => exact ⟨_, rfl, request_load (loadChannel_load s t d)⟩
    | loadAirflow t d => exact ⟨_, rfl, request_load (loadAirflow_load s t d)⟩
    | loadTemperature t d => exact ⟨_, rfl, request_load (loadTemperature_load s t d)⟩
    | loadShutter t d => exact ⟨_, rfl, request_load (loadShutter_load s t d)⟩
    | loadSiren t d => exact ⟨_, rfl, request_load (loadSiren_load s t d)⟩
    | loadPattern t d => exact ⟨_, rfl, request_load (loadPattern_load s t d)⟩
    | commit t d => exact ⟨_, rfl, commit_move s t d⟩
    | validationWalkEnd => exact walkEnd_move s
    | releaseGuard t d => exact ⟨_, rfl, releaseGuard_move s t d⟩
    | linkPartResetTakesPlace => cases hc
    | resetLineLow => cases hc
    | resetLineHigh => cases hc
    | powerUp => cases hc
    | _ => exact absurd rfl brings

/-- The mode and the mill time after a part reset (R195): it takes place, or nothing happens. -/
theorem exec_partReset (c : Instr) (s : State) (hc : isPartReset c = true) :
    ∃ t, exec c s = .next t ∧ (t = s ∨ t.mode = .config ∧ t.now = 0) := by
  cases c with
  | linkPartResetTakesPlace => refine ⟨_, rfl, ?_⟩; split <;> simp [State.partReset, State.reset]
  | resetLineLow => refine ⟨_, rfl, ?_⟩; split <;> simp [State.partReset, State.reset]
  | resetLineHigh low => refine ⟨_, rfl, ?_⟩; split <;> simp [State.partReset, State.reset]
  | powerUp => exact ⟨_, rfl, .inr ⟨rfl, rfl⟩⟩
  | _ => cases hc

/-- Settles O60: outside CONFIG no command but a part reset moves the layout. -/
theorem layoutFrozen : Obligations.LayoutFrozen := by
  intro c s t h hm hc
  obtain ⟨u, e, move⟩ := exec_move c s hc
  obtain rfl : u = t := by rw [e] at h; exact Host.Outcome.next.inj h
  cases move with
  | still h => exact h.loadedAlike
  | load config _ => exact absurd config hm
  | commit _ config _ => exact absurd config hm
  | failed _ _ _ h => exact loadedAlike_of_layout (s := s) h.layout
  | passed _ _ _ h => exact loadedAlike_of_layout (s := s) h.layout
  | released _ _ h => exact loadedAlike_of_layout (s := s) h.layout

/-- No command takes the part out of CONFIG or on in mill time while the RESET line is low. -/
theorem exec_resetHeld (c : Instr) (s t : State) (held : s.resetHeld) (e : exec c s = .next t) : t.resetHeld := by
  intro low
  cases hc : isPartReset c with
  | true =>
    obtain ⟨u, e', moved⟩ := exec_partReset c s hc
    obtain rfl : u = t := by rw [e'] at e; exact Host.Outcome.next.inj e
    obtain rfl | ⟨hm, hn⟩ := moved
    · exact held low
    · exact ⟨hn, hm⟩
  | false =>
    obtain ⟨u, e', move⟩ := exec_move c s hc
    obtain rfl : u = t := by rw [e'] at e; exact Host.Outcome.next.inj e
    cases move with
    | still h =>
      obtain ⟨hn, hm⟩ := held (h.resetLow.symm.trans low)
      exact ⟨h.now.trans hn, h.mode.trans hm⟩
    | load _ h =>
      obtain ⟨now, resetLow, mode⟩ := h
      obtain ⟨hn, hm⟩ := held (resetLow.symm.trans low)
      exact ⟨now.trans hn, mode.trans hm⟩
    | commit hr _ h => exact absurd (hr.symm.trans (h.resetLow.symm.trans low)) Bool.false_ne_true
    | failed hr _ _ h => exact absurd (hr.symm.trans (h.resetLow.symm.trans low)) Bool.false_ne_true
    | passed hr _ _ h => exact absurd (hr.symm.trans (h.resetLow.symm.trans low)) Bool.false_ne_true
    | released hr _ h => exact absurd (hr.symm.trans (h.resetLow.symm.trans low)) Bool.false_ne_true

/-- A part whose queue is empty keeps its RESET line. -/
theorem idle_resetLow (s : State) : s.idle.resetLow = s.resetLow := by
  unfold State.idle
  split
  · rfl
  · split <;> rfl

/-- Settles O55, by what one command can move; with the queue empty nothing happens while RESET is low. -/
theorem resetHeldKept : Obligations.ResetHeldKept := by
  intro s t held h
  unfold step at h
  split at h
  · rename_i c rest _
    exact exec_resetHeld c { s with pending := rest } t held h
  · obtain rfl : s.idle = t := Host.Outcome.next.inj h
    intro low
    rw [idle_resetLow] at low
    have nothing : s.idle = s := by simp [State.idle, low]
    rw [nothing]
    exact held low

/-! ## Answers of requests -/

/-- A request whose judgement answers a state leaves it with the reply. -/
theorem request_answer {s u : State} {n : Nat} {names : Names} {t : Half} {d : List Byte} {own : State → Judged} {r : Reply}
    (h : s.listens) (hn : d.length = n) (ht : names = .nothing → t = 0) (ho : own s = .ok (u, r)) :
    Host.Outcome.next (φ := Fault) (ρ := Refusal) (s.request n names t d own) = .next (u.replyWith r) := by
  rw [request_taken s n names t d own h hn ht, ho]
  rfl

/-- A request whose judgement refuses it leaves the reply alone. -/
theorem request_refused {s : State} {n : Nat} {names : Names} {t : Half} {d : List Byte} {own : State → Judged} {r : Reply}
    (h : s.listens) (hn : d.length = n) (ht : names = .nothing → t = 0) (ho : own s = .error r) :
    Host.Outcome.next (φ := Fault) (ρ := Refusal) (s.request n names t d own) = .next (s.replyWith r) := by
  rw [request_taken s n names t d own h hn ht, ho]
  rfl

/-- A passed step of a judgement. -/
theorem bind_of_ok {α β : Type} {x : Except Reply α} {a : α} {f : α → Except Reply β} (h : x = .ok a) : (x >>= f) = f a := by
  rw [h]
  rfl

/-- A step of a judgement that answers. -/
theorem bind_of_error {α β : Type} {x : Except Reply α} {r : Reply} {f : α → Except Reply β} (h : x = .error r) :
    (x >>= f) = .error r := by
  rw [h]
  rfl

theorem takenInConfig_of_config {s : State} (h : s.mode = .config) : takenInConfig s = .ok () := takenInConfig_ok.mpr h
theorem takenInGuard_of_guarded {s : State} (h : s.mode = .guarded) : takenInGuard s = .ok () := takenInGuard_ok.mpr h
theorem refuseFor_passed {b : Bool} {r : Reason} (h : b = false) : refuseFor b r = .ok () := refuseFor_ok.mpr h
theorem refuseFor_refused {b : Bool} {r : Reason} (h : b = true) : refuseFor b r = .error (.refused r) := by
  rw [h]
  rfl

/-! ## COMMIT and RELEASE GUARD -/

/-- COMMIT taken (R10). -/
theorem commit_taken (s : State) (h : s.listens) (hm : s.mode = .config) :
    exec (.commit 0 []) s =
      .next ({ s with mode := .committing, walkEnd := some (s.now + 200) }.replyWith (.ok [])) :=
  request_answer h rfl (fun _ => rfl) (bind_of_ok (takenInConfig_of_config hm))

/-- COMMIT in GUARD (R189). -/
theorem commit_wrongMode (s : State) (h : s.listens) (hm : s.mode = .guarded) :
    exec (.commit 0 []) s = .next (s.replyWith (.bare .wrongMode)) :=
  request_refused h rfl (fun _ => rfl) (bind_of_error (by simp [takenInConfig, hm]))

/-- RELEASE GUARD outside GUARD (R189). -/
theorem releaseGuard_outside (s : State) (r : Reply) (h : s.listens) (hm : takenInGuard s = .error r) :
    exec (.releaseGuard 0 []) s = .next (s.replyWith r) :=
  request_refused h rfl (fun _ => rfl) (bind_of_error hm)

/-- Some live track is active exactly where one is not SPENT (R16). -/
theorem trackActive_iff (s : State) :
    s.trackActive = true ↔ ∃ (i : SlotId) (k : Track), s.track? i = some k ∧ k.state ≠ .spent := by
  unfold State.trackActive
  rw [List.any_eq_true]
  constructor
  · rintro ⟨i, _, h⟩
    cases ht : s.track? i with
    | none => simp [ht] at h
    | some k => exact ⟨i, k, ht, by simpa [ht] using h⟩
  · rintro ⟨i, k, ht, hk⟩
    exact ⟨i, List.mem_finRange i, by simpa [ht] using hk⟩

/-- No zone at ALARM or above, as RELEASE GUARD tests it (R16). -/
theorem zonesQuiet {s : State} (h : ∀ z : ZoneId, s.zones[z].level.val < 2) :
    (s.zones.any fun z => z.level.atLeast .alarm) = false := by
  rw [← Bool.not_eq_true, zones_any_alarm]
  rintro ⟨z, hz⟩
  exact absurd hz (by have := h z; omega)

theorem releaseGuard_zoneActive (s : State) (h : s.listens) (hm : s.mode = .guarded)
    (hz : ∃ z : ZoneId, 2 ≤ s.zones[z].level.val) :
    exec (.releaseGuard 0 []) s = .next (s.replyWith (.refused .zoneActive)) := by
  exact request_refused h rfl (fun _ => rfl) ((bind_of_ok (takenInGuard_of_guarded hm)).trans
    (bind_of_error (refuseFor_refused ((zones_any_alarm s).mpr hz))))

theorem releaseGuard_trackActive (s : State) (h : s.listens) (hm : s.mode = .guarded)
    (hz : ∀ z : ZoneId, s.zones[z].level.val < 2)
    (ht : ∃ (i : SlotId) (k : Track), s.track? i = some k ∧ k.state ≠ .spent) :
    exec (.releaseGuard 0 []) s = .next (s.replyWith (.refused .trackActive)) := by
  exact request_refused h rfl (fun _ => rfl) ((bind_of_ok (takenInGuard_of_guarded hm)).trans
    ((bind_of_ok (refuseFor_passed (zonesQuiet hz))).trans
      (bind_of_error (refuseFor_refused ((trackActive_iff s).mpr ht)))))

/-- RELEASE GUARD taken (R17). -/
theorem releaseGuard_taken (s : State) (h : s.listens) (hm : s.mode = .guarded)
    (hz : ∀ z : ZoneId, s.zones[z].level.val < 2)
    (ht : ∀ (i : SlotId) (k : Track), s.track? i = some k → k.state = .spent) :
    exec (.releaseGuard 0 []) s = .next (s.releaseWork.finish.replyWith (.ok [])) := by
  have inactive : s.trackActive = false := by
    rw [← Bool.not_eq_true, trackActive_iff]
    rintro ⟨i, k, hk, hs⟩
    exact hs (ht i k hk)
  exact request_answer h rfl (fun _ => rfl) ((bind_of_ok (takenInGuard_of_guarded hm)).trans
    ((bind_of_ok (refuseFor_passed (zonesQuiet hz))).trans (bind_of_ok (refuseFor_passed inactive))))

/-- Settles O7: the two refusals of RELEASE GUARD, in the order in which they are judged. -/
theorem releaseGuardRefused : Obligations.ReleaseGuardRefused := fun s h hm =>
  ⟨releaseGuard_zoneActive s h hm, releaseGuard_trackActive s h hm⟩

/-! ## Mode moves -/

/-- The events that change the mode (R9). -/
theorem mode_changes (c : Instr) (s t : State) (e : exec c s = .next t) (changed : t.mode ≠ s.mode) :
    (isPartReset c = true ∧ t.mode = .config) ∨
    ((∃ target data, c = .commit target data) ∧ s.mode = .config ∧ t.mode = .committing) ∨
    (c = .validationWalkEnd ∧ s.mode = .committing ∧
      ((s.firstViolation ≠ none ∧ t.mode = .config) ∨ (s.firstViolation = none ∧ t.mode = .guarded))) ∨
    ((∃ target data, c = .releaseGuard target data) ∧ s.mode = .guarded ∧ t.mode = .config) := by
  cases hc : isPartReset c with
  | true =>
    obtain ⟨u, e', moved⟩ := exec_partReset c s hc
    obtain rfl : u = t := by rw [e'] at e; exact Host.Outcome.next.inj e
    obtain rfl | ⟨hm, _⟩ := moved
    · exact absurd rfl changed
    · exact .inl ⟨rfl, hm⟩
  | false =>
    obtain ⟨u, e', move⟩ := exec_move c s hc
    obtain rfl : u = t := by rw [e'] at e; exact Host.Outcome.next.inj e
    cases move with
    | still h => exact absurd h.mode changed
    | load _ h => exact absurd h.2.2 changed
    | commit _ hm h => exact .inr (.inl ⟨⟨_, _, rfl⟩, hm, h.mode⟩)
    | failed _ hm hv h => exact .inr (.inr (.inl ⟨rfl, hm, .inl ⟨by simp [hv], h.mode⟩⟩))
    | passed _ hm hv h => exact .inr (.inr (.inl ⟨rfl, hm, .inr ⟨hv, h.mode⟩⟩))
    | released _ hm h => exact .inr (.inr (.inr ⟨⟨_, _, rfl⟩, hm, h.mode⟩))

/-- The mode at the end of the walk (R13, R14). -/
theorem walkEnd_mode (s : State) (hr : s.resetLow = false) (hm : s.mode = .committing)
    (hw : reached s.walkEnd s.now = true) :
    ∃ t : State, exec .validationWalkEnd s = .next t ∧
      t.mode = if s.firstViolation = none then .guarded else .config := by
  have due := (walkDue_iff s).mpr ⟨hm, hw⟩
  cases hv : s.firstViolation with
  | none => exact ⟨_, walkEnd_passed s hr due hv, (enterGuard_still s).finish.mode⟩
  | some v => exact ⟨_, walkEnd_failed s v hr due hv, rfl⟩

/-- Settles O4, by what one command can move, and by the answers of COMMIT, the end of the walk and RELEASE GUARD. -/
theorem modeMoves : Obligations.ModeMoves := by
  refine ⟨mode_changes, fun s => ⟨_, rfl, rfl⟩, fun s hr => ⟨_, rfl, by simp [hr, State.partReset, State.reset]⟩,
    fun s ht => ⟨_, rfl, by simp [ht, State.partReset, State.reset]⟩, commit_taken, walkEnd_mode, ?_, commit_wrongMode,
    ?_, ?_⟩
  · intro s h hm hz ht
    exact ⟨_, releaseGuard_taken s h hm hz ht, (releaseWork_still s).finish.mode⟩
  · intro s h hm
    exact releaseGuard_outside s _ h (by simp [takenInGuard, hm])
  · intro s h hm
    exact releaseGuard_outside s _ h (by simp [takenInGuard, hm])

/-! ## Part resets -/

theorem takenUnlessCommitting_of_ne {s : State} (h : s.mode ≠ .committing) : takenUnlessCommitting s = .ok () :=
  takenUnlessCommitting_ok.mpr h

section
variable (s : State)

theorem partReset_gates (g : GateId) : s.partReset.gates[g] =
    { State.reset.gates[g] with normalLimit := s.gates[g].normalLimit, abortLimit := s.gates[g].abortLimit } := by
  simp [State.partReset, State.reset]

theorem partReset_stations (x : StationId) :
    s.partReset.stations[x] = { State.reset.stations[x] with pressure := s.stations[x].pressure } := by
  simp [State.partReset, State.reset]

theorem partReset_zones (z : ZoneId) :
    s.partReset.zones[z] = { State.reset.zones[z] with callRaw := s.zones[z].callRaw } := by
  simp [State.partReset, State.reset]

/-- The state that a shutter with the reset timeout takes from its closed limit at mill time 0 (R159, R165). -/
theorem take_zero (h : Shutter) (ht : h.timeout = 60) : h.take 0 = { h with
    state := if h.closedLimit then .closed else .dropping,
    travel := if h.closedLimit then .absent else .running 600000 } := by
  have fresh : h.fresh 0 = .running 600000 := by
    unfold Shutter.fresh Config.second
    rw [ht]
  unfold Shutter.take
  cases h.closedLimit
  · simp [fresh]
  · simp

/-- A shutter's state after a part reset comes from its closed limit (R159). -/
theorem partReset_shutters (h : ShutterId) : s.partReset.shutters[h] = { State.reset.shutters[h] with
    openLimit := s.shutters[h].openLimit, closedLimit := s.shutters[h].closedLimit,
    obstructed := s.shutters[h].obstructed,
    state := if s.shutters[h].closedLimit then .closed else .dropping,
    travel := if s.shutters[h].closedLimit then .absent else .running 600000 } := by
  have map : s.partReset.shutters[h] = { Shutter.reset with
      openLimit := s.shutters[h].openLimit, closedLimit := s.shutters[h].closedLimit,
      obstructed := s.shutters[h].obstructed }.take 0 := Vector.getElem_map _ _
  have reset : State.reset.shutters[h] = Shutter.reset := Vector.getElem_replicate _
  rw [map, reset, take_zero _ rfl]

/-- PART RESET taken (R195). -/
theorem partReset_taken (h : s.listens) (hm : s.mode ≠ .committing) :
    exec (.partReset 0 []) s = .next ({ s with link := { s.link with resetTaken := true } }.replyWith (.ok [])) := by
  exact request_answer h rfl (fun _ => rfl) (bind_of_ok (takenUnlessCommitting_of_ne hm))

theorem resetLineLow_fall (h : s.resetLow = false) :
    exec .resetLineLow s = .next { s.partReset with resetLow := true } := by
  change Host.Outcome.next (if s.resetLow then s else { s with resetLow := true }.partReset) = _
  rw [h]
  rfl

theorem resetLineLow_low (h : s.resetLow = true) : exec .resetLineLow s = .next s := by
  change Host.Outcome.next (if s.resetLow then s else { s with resetLow := true }.partReset) = _
  rw [h]
  rfl

theorem linkPartReset_taken (h : s.link.resetTaken = true) : exec .linkPartResetTakesPlace s = .next s.partReset := by
  change Host.Outcome.next (if s.link.resetTaken then s.partReset else s) = _
  rw [h]
  rfl

theorem linkPartReset_idle (h : s.link.resetTaken = false) : exec .linkPartResetTakesPlace s = .next s := by
  change Host.Outcome.next (if s.link.resetTaken then s.partReset else s) = _
  rw [h]
  rfl

theorem resetLineHigh_rise (low : Option Nat) (h : s.resetLow = true) :
    exec (.resetLineHigh low) s =
      .next { s.partReset with resetLow := false, link := { s.partReset.link with ignoring := low } } := by
  unfold exec execResetLineHigh
  rw [h]
  rfl

theorem resetLineHigh_high (low : Option Nat) (h : s.resetLow = false) : exec (.resetLineHigh low) s = .next s := by
  unfold exec execResetLineHigh
  rw [h]
  rfl

end

/-- Settles O9: every way in which a part reset takes place leaves the state that power-up leaves, but for the level of RESET
and the transaction held through its rise. -/
theorem partResetFromAnyMode : Obligations.PartResetFromAnyMode := by
  refine ⟨fun s => ⟨s.partReset, rfl, fun h => ⟨_, resetLineLow_fall s h, rfl⟩, linkPartReset_taken s,
    fun low h => ⟨_, resetLineHigh_rise s low h, rfl⟩, ?_⟩, partReset_taken, linkPartReset_idle, resetLineLow_low,
    resetLineHigh_high⟩
  refine ⟨rfl, rfl, rfl, rfl, rfl, rfl, rfl, rfl, rfl, rfl, rfl, rfl, rfl, rfl, rfl, rfl, rfl, rfl, rfl, rfl, rfl, rfl,
    partReset_gates s, partReset_stations s, partReset_zones s, partReset_shutters s⟩

/-! ## The invariants at reset -/

/-- No station draws while none is releasing. -/
theorem drawn_of_none (s : State) (h : ∀ x : StationId, s.stations[x].state ≠ .releasing) : s.drawn = 0 := by
  have fold : ∀ (l : List StationId),
      l.foldl (fun n x => n + if s.stations[x].state = .releasing then s.drawOf x else 0) 0 = 0 := by
    intro l
    induction l with
    | nil => rfl
    | cons x l ih => rw [List.foldl_cons, if_neg (h x)]; exact ih
  exact fold _

theorem reset_stations (x : StationId) : State.reset.stations[x] = Station.reset := by simp [State.reset]
theorem reset_zones (z : ZoneId) : State.reset.zones[z] = Zone.reset := by simp [State.reset]
theorem reset_lines (l : LineId) : State.reset.lines[l] = Line.reset l := by simp [State.reset]

theorem reset_unitsBalance : State.reset.unitsBalance := by
  have none : ∀ x : StationId, State.reset.stations[x].state ≠ .releasing := by
    intro x
    rw [reset_stations]
    decide
  refine ⟨?_, fun _ => none⟩
  rw [drawn_of_none _ none]
  rfl

theorem reset_linesOrdered : State.reset.linesOrdered := by
  have stopped : ∀ l : LineId, State.reset.lines[l].state = .stopped := by
    intro l
    rw [reset_lines]
    rfl
  refine ⟨List.nodup_nil, fun l => ?_, fun l _ => stopped l, fun _ l => .inl (stopped l)⟩
  rw [stopped l]
  exact iff_of_false List.not_mem_nil (by decide)

/-- Settles O54: each invariant by the reset values of the records it speaks of. -/
theorem resetMeetsInvariants : Obligations.ResetMeetsInvariants := by
  refine ⟨fun _ => ⟨rfl, rfl⟩, reset_unitsBalance, fun z => ?_, reset_linesOrdered, fun x => ?_⟩
  · rw [reset_zones]
    rfl
  · rw [reset_stations]
    exact Nat.zero_le _

/-! ## LOAD LIMITS, LOAD SEGMENT and LOAD POINT -/

/-- Settles O18. -/
theorem loadLimitsWrites : Obligations.LoadLimitsWrites := fun _ _ h hm hd =>
  request_answer h hd (fun _ => rfl) (bind_of_ok (takenInConfig_of_config hm))

/-! ## How a load is judged (R8)

A load answers NO_SUCH where a field names no instance, and then BAD_FIELD where a field is none of its choices. -/

/-- One step of a judgement: NO_SUCH where `p` holds, else BAD_FIELD where `c` holds, else it passes. -/
structure Judges {α : Type} (x : Except Reply α) (p c : Prop) : Prop where
  noSuch : p → x = .error (.bare .noSuch)
  badField : ¬p → c → x = .error (.refused .badField)
  passes : ¬p → ¬c → ∃ a, x = .ok a

/-- A whole judgement: NO_SUCH where `p` holds, else BAD_FIELD where `c` holds. -/
structure Refuses {α : Type} (x : Except Reply α) (p c : Prop) : Prop where
  noSuch : p → x = .error (.bare .noSuch)
  badField : ¬p → c → x = .error (.refused .badField)

theorem Refuses.nothing {α : Type} (x : Except Reply α) : Refuses x False False := ⟨fun h => h.elim, fun _ h => h.elim⟩

/-- A step that judges instances only, before the rest. -/
theorem Refuses.inst {α β : Type} {x : Except Reply α} {f : α → Except Reply β} {p q c : Prop} (h : Judges x p False)
    (k : ∀ a, x = .ok a → ¬p → Refuses (f a) q c) : Refuses (x >>= f) (p ∨ q) c := by
  by_cases hp : p
  · exact ⟨fun _ => bind_of_error (h.noSuch hp), fun hn => absurd (.inl hp) hn⟩
  · obtain ⟨a, ha⟩ := h.passes hp id
    rw [bind_of_ok ha]
    have rest := k a ha hp
    exact ⟨fun hq => rest.noSuch (hq.resolve_left hp), fun hn => rest.badField fun hq => hn (.inr hq)⟩

/-- A step after which no instance is judged any more. -/
theorem Refuses.choice {α β : Type} {x : Except Reply α} {f : α → Except Reply β} {p c d : Prop} (h : Judges x p c)
    (k : ∀ a, x = .ok a → Refuses (f a) False d) : Refuses (x >>= f) p (c ∨ d) := by
  by_cases hp : p
  · exact ⟨fun _ => bind_of_error (h.noSuch hp), fun hn => absurd hp hn⟩
  · by_cases hc : c
    · exact ⟨fun e => absurd e hp, fun _ _ => bind_of_error (h.badField hp hc)⟩
    · obtain ⟨a, ha⟩ := h.passes hp hc
      rw [bind_of_ok ha]
      exact ⟨fun e => absurd e hp, fun _ hd => (k a ha).badField id (hd.resolve_left hc)⟩

/-- A step that passes. -/
theorem Refuses.passed {α β : Type} {x : Except Reply α} {f : α → Except Reply β} {p c : Prop} {a : α} (h : x = .ok a)
    (k : Refuses (f a) p c) : Refuses (x >>= f) p c := by rwa [bind_of_ok h]

/-- The conditions of a refusal worded anew. -/
theorem Refuses.worded {α : Type} {x : Except Reply α} {p q c d : Prop} (h : Refuses x p c) (hp : q ↔ p) (hc : d ↔ c) :
    Refuses x q d := by rwa [hp, hc]

/-- The answers of a request whose judgement refuses it. -/
theorem Refuses.request {s : State} {n : Nat} {t : Half} {d : List Byte} {own : State → Judged} {p c : Prop}
    (h : Refuses (own s) p c) (hs : s.listens) (hd : d.length = n) :
    (p → Host.Outcome.next (φ := Fault) (ρ := Refusal) (s.request n .instances t d own) =
      .next (s.replyWith (.bare .noSuch))) ∧
    (¬p → c → Host.Outcome.next (φ := Fault) (ρ := Refusal) (s.request n .instances t d own) =
      .next (s.replyWith (.refused .badField))) :=
  ⟨fun hp => request_refused hs hd (fun e => nomatch e) (h.noSuch hp),
   fun hp hc => request_refused hs hd (fun e => nomatch e) (h.badField hp hc)⟩

/-! ## The steps of a judgement -/

theorem instOf_judges (n v : Nat) : Judges (instOf n v) (n ≤ v) False where
  noSuch h := dif_neg (by omega)
  badField _ h := h.elim
  passes h _ := ⟨⟨v, by omega⟩, dif_pos _⟩

theorem instOrWord_judges (n v : Nat) : Judges (instOrWord n v) (n ≤ v ∧ v ≠ 255) False where
  noSuch h := by
    unfold instOrWord
    rw [if_neg h.2, dif_neg (by omega)]
  badField _ h := h.elim
  passes h _ := by
    unfold instOrWord
    by_cases hv : v = 255
    · exact ⟨none, if_pos hv⟩
    · exact ⟨some ⟨v, by omega⟩, by rw [if_neg hv, dif_pos]⟩

theorem oneOf_judges {α : Type} (choices : List α) (v : Nat) : Judges (oneOf choices v) False (choices.length ≤ v) where
  noSuch h := h.elim
  badField _ h := by
    unfold oneOf
    rw [List.getElem?_eq_none h]
  passes _ h := by
    unfold oneOf
    have hv : v < choices.length := by omega
    exact ⟨choices[v], by rw [List.getElem?_eq_getElem hv]⟩

theorem flagOf_judges (v : Nat) : Judges (flagOf v) False (2 ≤ v) := oneOf_judges _ v

theorem levelAmong_judges (levels : List Level) (v : Nat) :
    Judges (levelAmong levels v) False (∀ l ∈ levels, l.val ≠ v) where
  noSuch h := h.elim
  badField _ h := by
    unfold levelAmong
    rw [List.find?_eq_none.mpr fun l hl => by simpa using h l hl]
  passes _ h := by
    unfold levelAmong
    cases e : levels.find? fun l => l.val == v with
    | none => exact absurd (fun l hl => by simpa using List.find?_eq_none.mp e l hl) h
    | some l => exact ⟨l, rfl⟩

theorem outletTarget_judges (kind target : Nat) :
    Judges (outletTarget kind target) ((kind = 0 ∧ 128 ≤ target) ∨ (kind = 1 ∧ 8 ≤ target)) False := by
  match kind with
  | 0 =>
    refine ⟨fun h => bind_of_error ((instOf_judges 128 target).noSuch (by omega)), fun _ h => h.elim, fun h _ => ?_⟩
    obtain ⟨i, hi⟩ := (instOf_judges 128 target).passes (by omega) id
    exact ⟨(), bind_of_ok hi⟩
  | 1 =>
    refine ⟨fun h => bind_of_error ((instOf_judges 8 target).noSuch (by omega)), fun _ h => h.elim, fun h _ => ?_⟩
    obtain ⟨i, hi⟩ := (instOf_judges 8 target).passes (by omega) id
    exact ⟨(), bind_of_ok hi⟩
  | n + 2 => exact ⟨fun h => by omega, fun _ h => h.elim, fun _ _ => ⟨(), rfl⟩⟩

/-- The outlet of a target that has been judged (R2). -/
theorem outletOf_judges (kind target : Nat) (h : ¬((kind = 0 ∧ 128 ≤ target) ∨ (kind = 1 ∧ 8 ≤ target))) :
    Judges (outletOf kind target) False (3 ≤ kind) := by
  match kind with
  | 0 =>
    obtain ⟨i, hi⟩ := (instOf_judges 128 target).passes (by omega) id
    exact ⟨fun h => h.elim, fun _ h => by omega, fun _ _ => ⟨.next i, bind_of_ok hi⟩⟩
  | 1 =>
    obtain ⟨i, hi⟩ := (instOf_judges 8 target).passes (by omega) id
    exact ⟨fun h => h.elim, fun _ h => by omega, fun _ _ => ⟨.gate i, bind_of_ok hi⟩⟩
  | 2 => exact ⟨fun h => h.elim, fun _ h => by omega, fun _ _ => ⟨_, rfl⟩⟩
  | n + 3 => exact ⟨fun h => h.elim, fun _ _ => rfl, fun _ h => by omega⟩

/-- An outlet that is found has a target of its kind. -/
theorem outletTarget_of_outlet {kind target : Nat} {o : Outlet} (h : outletOf kind target = .ok o) :
    outletTarget kind target = .ok () := by
  match kind with
  | 0 =>
    obtain ⟨i, hi, _⟩ := bind_ok h
    exact bind_of_ok hi
  | 1 =>
    obtain ⟨i, hi, _⟩ := bind_ok h
    exact bind_of_ok hi
  | n + 2 => rfl

theorem placedOf_judges (kind inst : Nat) :
    Judges (placedOf kind inst) ((kind ≠ 1 ∧ 32 ≤ inst) ∨ (kind = 1 ∧ 24 ≤ inst)) (2 ≤ kind) := by
  match kind with
  | 0 =>
    refine ⟨fun h => bind_of_error ((instOf_judges 32 inst).noSuch (by omega)), fun _ h => by omega, fun h _ => ?_⟩
    obtain ⟨i, hi⟩ := (instOf_judges 32 inst).passes (by omega) id
    exact ⟨.detector i, bind_of_ok hi⟩
  | 1 =>
    refine ⟨fun h => bind_of_error ((instOf_judges 24 inst).noSuch (by omega)), fun _ h => by omega, fun h _ => ?_⟩
    obtain ⟨i, hi⟩ := (instOf_judges 24 inst).passes (by omega) id
    exact ⟨.station i, bind_of_ok hi⟩
  | n + 2 =>
    refine ⟨fun h => bind_of_error ((instOf_judges 32 inst).noSuch (by omega)), fun h _ => ?_, fun _ h => by omega⟩
    obtain ⟨i, hi⟩ := (instOf_judges 32 inst).passes (by omega) id
    exact bind_of_ok hi

/-! ## LOAD SEGMENT and LOAD POINT -/

section
variable {s : State} {t : Half} {d : List Byte}

theorem loadSegment_refuses {i : SegId} (hm : s.mode = .config) (ht : t.toNat = i.val) :
    Refuses (s.loadSegment t d)
      ((16 ≤ natAt d 3 ∧ natAt d 3 ≠ 255) ∨ 16 ≤ natAt d 6 ∨ 8 ≤ natAt d 7 ∨
        (natAt d 8 = 0 ∧ 128 ≤ natAt d 9) ∨ (natAt d 8 = 1 ∧ 8 ≤ natAt d 9))
      (2 ≤ natAt d 0 ∨ 3 ≤ natAt d 8 ∨ 2 ≤ natAt d 10) := by
  refine Refuses.worded (.passed (takenInConfig_of_config hm) (.passed (targetOf_ok.mpr ht)
    (.inst (instOrWord_judges _ _) fun source _ _ => .inst (instOf_judges _ _) fun zone _ _ =>
      .inst (instOf_judges _ _) fun line _ _ => .inst (outletTarget_judges _ _) fun _ _ outlet =>
      .choice (flagOf_judges _) fun inUse _ => .choice (outletOf_judges _ _ outlet) fun _ _ =>
      .choice (oneOf_judges _ _) fun _ _ => .nothing _))) (by simp) (by simp)

/-- A segment record written (R2, R3). -/
theorem loadSegment_writes {i : SegId} {source : Option AirId} {zone : ZoneId} {line : LineId} {inUse : Bool}
    {outlet : Outlet} {kind : EndKind} (hm : s.mode = .config) (ht : t.toNat = i.val)
    (hsource : instOrWord 16 (natAt d 3) = .ok source) (hzone : instOf 16 (natAt d 6) = .ok zone)
    (hline : instOf 8 (natAt d 7) = .ok line) (huse : flagOf (natAt d 0) = .ok inUse)
    (houtlet : outletOf (natAt d 8) (natAt d 9) = .ok outlet)
    (hkind : oneOf [.protectedEnd, .safeEnd] (natAt d 10) = .ok kind) :
    s.loadSegment t d = .ok (s.updSegment i fun g =>
        { inUse := inUse, length := clamp 1 20000 (natAt2 d 1), source := source,
          fixedVel := clamp s.limits.vStall 600 (natAt2 d 4), zone := zone, line := line, outlet := outlet,
          endKind := kind, points := if inUse then g.points else [] },
      .loaded (clamp 1 20000 (natAt2 d 1) != natAt2 d 1 || clamp s.limits.vStall 600 (natAt2 d 4) != natAt2 d 4)) :=
  (bind_of_ok (takenInConfig_of_config hm)).trans <| (bind_of_ok (targetOf_ok.mpr ht)).trans <|
  (bind_of_ok hsource).trans <| (bind_of_ok hzone).trans <| (bind_of_ok hline).trans <|
  (bind_of_ok (outletTarget_of_outlet houtlet)).trans <| (bind_of_ok huse).trans <| (bind_of_ok houtlet).trans <|
  bind_of_ok hkind

/-- Settles O19. -/
theorem loadSegmentWrites : Obligations.LoadSegmentWrites := by
  refine ⟨?_, ?_⟩
  · intro s t d i source zone line inUse outlet kind h hm hd ht hsource hzone hline huse houtlet hkind
    exact request_answer h hd (fun e => nomatch e)
      (loadSegment_writes hm ht hsource hzone hline huse houtlet hkind)
  · intro s t d i h hm hd ht
    exact (loadSegment_refuses hm ht).request h hd

theorem loadPoint_refuses {i : SegId} (hm : s.mode = .config) (ht : t.toNat = i.val) :
    Refuses (s.loadPoint t d) ((natAt d 1 ≠ 1 ∧ 32 ≤ natAt d 2) ∨ (natAt d 1 = 1 ∧ 24 ≤ natAt d 2))
      (2 ≤ natAt d 0 ∨ 2 ≤ natAt d 1) := by
  refine Refuses.worded (.passed (takenInConfig_of_config hm) (.passed (targetOf_ok.mpr ht)
    (.choice (placedOf_judges _ _) fun what _ => .choice (oneOf_judges _ _) fun placing _ => .nothing _)))
    Iff.rfl (by simp [or_comm])

/-- LOAD POINT, past the judgement of its fields (R5). -/
theorem loadPoint_judged {i : SegId} {what : Placed} {placing : Bool} (hm : s.mode = .config) (ht : t.toNat = i.val)
    (hw : placedOf (natAt d 1) (natAt d 2) = .ok what) (hp : oneOf [true, false] (natAt d 0) = .ok placing) :
    let point : Point := { what := what, position := clamp 0 19999 (natAt2 d 3) }
    s.loadPoint t d =
      if placing then do
        refuseFor (decide (4 ≤ s.segments[i].points.length)) .pointsFull
        refuseFor (!s.segments[i].inUse) .notInUse
        refuseFor (s.segments[i].points.any fun p => p.what == what) .alreadyPlaced
        return (s.updSegment i fun g => { g with points := insertAfter Point.key point g.points },
          .loaded (point.position != natAt2 d 3))
      else do
        refuseIf (!(s.segments[i].points.any fun p => p.what == what)) (.bare .noSuch)
        return (s.updSegment i fun g => { g with points := g.points.filter fun p => p.what != what }, .loaded false) :=
  (bind_of_ok (takenInConfig_of_config hm)).trans <| (bind_of_ok (targetOf_ok.mpr ht)).trans <|
  (bind_of_ok hw).trans <| bind_of_ok hp

end

/-- A placement is held where a point names it. -/
theorem held_iff (points : List Point) (what : Placed) :
    (points.any fun p => p.what == what) = true ↔ ∃ p ∈ points, p.what = what := by simp

theorem not_held_iff (points : List Point) (what : Placed) :
    (points.any fun p => p.what == what) = false ↔ ∀ p ∈ points, p.what ≠ what := by simp

theorem refuseIf_refused {b : Bool} {r : Reply} (h : b = true) : refuseIf b r = .error r := by
  rw [h]
  rfl

theorem refuseIf_passed {b : Bool} {r : Reply} (h : b = false) : refuseIf b r = .ok () := refuseIf_ok.mpr h

section
variable {s : State} {t : Half} {d : List Byte} {i : SegId} {what : Placed}

/-- Placing a point (R5). -/
theorem loadPoint_place (h : s.listens) (hm : s.mode = .config) (hd : d.length = 5) (ht : t.toNat = i.val)
    (hw : placedOf (natAt d 1) (natAt d 2) = .ok what) (h0 : natAt d 0 = 0) :
    (4 ≤ s.segments[i].points.length → exec (.loadPoint t d) s = .next (s.replyWith (.refused .pointsFull))) ∧
    (s.segments[i].points.length < 4 → s.segments[i].inUse = false →
      exec (.loadPoint t d) s = .next (s.replyWith (.refused .notInUse))) ∧
    (s.segments[i].points.length < 4 → s.segments[i].inUse = true → (∃ p ∈ s.segments[i].points, p.what = what) →
      exec (.loadPoint t d) s = .next (s.replyWith (.refused .alreadyPlaced))) ∧
    (s.segments[i].points.length < 4 → s.segments[i].inUse = true → (∀ p ∈ s.segments[i].points, p.what ≠ what) →
      exec (.loadPoint t d) s = .next ({ s with segments := updAt s.segments i fun g =>
        { g with points := insertAfter Point.key { what := what, position := clamp 0 19999 (natAt2 d 3) } g.points } }.replyWith
        (.loaded (clamp 0 19999 (natAt2 d 3) != natAt2 d 3)))) := by
  have placing : oneOf [true, false] (natAt d 0) = .ok true := by rw [h0]; rfl
  have judged := loadPoint_judged hm ht hw placing
  have refused {r : Reply} (e : s.loadPoint t d = .error r) : exec (.loadPoint t d) s = .next (s.replyWith r) :=
    request_refused h hd (fun e => nomatch e) e
  have answer {u : State} {r : Reply} (e : s.loadPoint t d = .ok (u, r)) :
      exec (.loadPoint t d) s = .next (u.replyWith r) := request_answer h hd (fun e => nomatch e) e
  refine ⟨fun full => ?_, fun room unused => ?_, fun room used held => ?_, fun room used free => ?_⟩
  · exact refused (judged.trans (bind_of_error (refuseFor_refused (decide_eq_true full))))
  · have passed : decide (4 ≤ s.segments[i].points.length) = false := decide_eq_false (by omega)
    exact refused (judged.trans ((bind_of_ok (refuseFor_passed passed)).trans
      (bind_of_error (refuseFor_refused (by rw [unused]; rfl)))))
  · have passed : decide (4 ≤ s.segments[i].points.length) = false := decide_eq_false (by omega)
    exact refused (judged.trans ((bind_of_ok (refuseFor_passed passed)).trans
      ((bind_of_ok (refuseFor_passed (by rw [used]; rfl))).trans
        (bind_of_error (refuseFor_refused ((held_iff _ _).mpr held))))))
  · have passed : decide (4 ≤ s.segments[i].points.length) = false := decide_eq_false (by omega)
    exact answer (judged.trans ((bind_of_ok (refuseFor_passed passed)).trans
      ((bind_of_ok (refuseFor_passed (by rw [used]; rfl))).trans
        (bind_of_ok (refuseFor_passed ((not_held_iff _ _).mpr free))))))

/-- Removing a point (R5). -/
theorem loadPoint_remove (h : s.listens) (hm : s.mode = .config) (hd : d.length = 5) (ht : t.toNat = i.val)
    (hw : placedOf (natAt d 1) (natAt d 2) = .ok what) (h0 : natAt d 0 = 1) :
    ((∀ p ∈ s.segments[i].points, p.what ≠ what) → exec (.loadPoint t d) s = .next (s.replyWith (.bare .noSuch))) ∧
    ((∃ p ∈ s.segments[i].points, p.what = what) →
      exec (.loadPoint t d) s = .next ({ s with segments := updAt s.segments i fun g =>
        { g with points := g.points.filter fun p => p.what != what } }.replyWith (.bare .ok))) := by
  have removing : oneOf [true, false] (natAt d 0) = .ok false := by rw [h0]; rfl
  have judged := loadPoint_judged hm ht hw removing
  constructor
  · intro free
    exact request_refused h hd (fun e => nomatch e) (judged.trans
      (bind_of_error (refuseIf_refused (by rw [(not_held_iff _ _).mpr free]; rfl))))
  · intro held
    exact request_answer h hd (fun e => nomatch e) (judged.trans
      (bind_of_ok (refuseIf_passed (by rw [(held_iff _ _).mpr held]; rfl))))

/-- An action that is none of the choices (R8). -/
theorem loadPoint_badAction (h : s.listens) (hm : s.mode = .config) (hd : d.length = 5) (ht : t.toNat = i.val)
    (hw : placedOf (natAt d 1) (natAt d 2) = .ok what) (h0 : 2 ≤ natAt d 0) :
    exec (.loadPoint t d) s = .next (s.replyWith (.refused .badField)) :=
  request_refused h hd (fun e => nomatch e) <|
    (bind_of_ok (takenInConfig_of_config hm)).trans <| (bind_of_ok (targetOf_ok.mpr ht)).trans <|
    (bind_of_ok hw).trans <| bind_of_error ((oneOf_judges _ _).badField id h0)

end

/-- Settles O20. -/
theorem loadPointPlaces : Obligations.LoadPointPlaces := by
  refine ⟨?_, ?_⟩
  · intro s t d i what h hm hd ht hw
    exact ⟨loadPoint_place h hm hd ht hw, loadPoint_remove h hm hd ht hw, loadPoint_badAction h hm hd ht hw⟩
  · intro s t d i h hm hd ht
    exact (loadPoint_refuses hm ht).request h hd

/-! ## LOAD LINE and LOAD STATION -/

/-- Two values compared, and the same decided. -/
theorem bne_eq_decide_ne {α : Type} [BEq α] [LawfulBEq α] [DecidableEq α] (a b : α) : (a != b) = decide (a ≠ b) := by
  by_cases h : a = b <;> simp [h]

/-- A line that keeps its state raises nothing. -/
theorem lineTo_of_same {s : State} {l : LineId} {f : Line → Line} (h : (f s.lines[l]).state = s.lines[l].state) :
    s.lineTo l f = s.updLine l f := by
  unfold State.lineTo
  dsimp only
  rw [if_pos]
  rw [updLine_lines, updAt_same, h]

/-- A table changed at one place by two functions that agree there. -/
theorem updAt_congr {α : Type} {n : Nat} (v : Vector α n) (i : Fin n) {f g : α → α} (h : f v[i] = g v[i]) :
    updAt v i f = updAt v i g := by
  unfold updAt
  rw [h]

section
variable {s : State} {t : Half} {d : List Byte}

theorem loadLine_refuses {l : LineId} (hm : s.mode = .config) (ht : t.toNat = l.val) :
    Refuses (s.loadLine t d) (8 ≤ natAt d 1 ∨ (8 ≤ natAt d 2 ∧ natAt d 2 ≠ 255)) (2 ≤ natAt d 0) := by
  refine Refuses.worded (.passed (takenInConfig_of_config hm) (.passed (targetOf_ok.mpr ht)
    (.inst (instOf_judges _ _) fun _ _ _ => .inst (instOrWord_judges _ _) fun _ _ _ =>
      .choice (flagOf_judges _) fun _ _ => .nothing _))) (by simp) (by simp)

/-- What LOAD LINE makes of a line (R133, R145). -/
def lineLoaded (d : List Byte) (first : FanId) (second : Option FanId) (inUse : Bool) (q : Line) : Line :=
  { q.load inUse with
    firstFan := first, secondFan := second, runUp := clamp 1 60 (natAt d 3), runDown := clamp 0 120 (natAt d 4),
    burstCount := clamp 2 16 (natAt d 5), burstWindow := clamp 1 600 (natAt2 d 6) }

/-- The reply of LOAD LINE. -/
def lineReply (d : List Byte) : Reply :=
  .loaded (decide ([clamp 1 60 (natAt d 3), clamp 0 120 (natAt d 4), clamp 2 16 (natAt d 5), clamp 1 600 (natAt2 d 6)] ≠
    [natAt d 3, natAt d 4, natAt d 5, natAt2 d 6]))

/-- LOAD LINE taken. -/
theorem loadLine_taken {l : LineId} {first : FanId} {second : Option FanId} {inUse : Bool} (h : s.listens)
    (hm : s.mode = .config) (hd : d.length = 8) (ht : t.toNat = l.val) (hf : instOf 8 (natAt d 1) = .ok first)
    (hs : instOrWord 8 (natAt d 2) = .ok second) (hu : flagOf (natAt d 0) = .ok inUse) :
    exec (.loadLine t d) s = .next ((s.lineTo l (lineLoaded d first second inUse)).replyWith (lineReply d)) := by
  refine request_answer h hd (fun e => nomatch e) ?_
  unfold lineReply
  rw [← bne_eq_decide_ne]
  exact (bind_of_ok (takenInConfig_of_config hm)).trans <| (bind_of_ok (targetOf_ok.mpr ht)).trans <|
    (bind_of_ok hf).trans <| (bind_of_ok hs).trans <| bind_of_ok hu

/-- A STOPPING line taken out of use (R145). -/
theorem lineLoaded_stopped (d : List Byte) (first : FanId) (second : Option FanId) (q : Line) (h : q.state = .stopping) :
    lineLoaded d first second false q =
      { q.halt with
        inUse := false, firstFan := first, secondFan := second, runUp := clamp 1 60 (natAt d 3),
        runDown := clamp 0 120 (natAt d 4), burstCount := clamp 2 16 (natAt d 5),
        burstWindow := clamp 1 600 (natAt2 d 6) } := by
  simp [lineLoaded, Line.load, h]

theorem lineLoaded_writes (d : List Byte) (first : FanId) (second : Option FanId) (inUse : Bool) (q : Line)
    (h : ¬(inUse = false ∧ q.state = .stopping)) :
    lineLoaded d first second inUse q =
      { q with
        inUse := inUse, firstFan := first, secondFan := second, runUp := clamp 1 60 (natAt d 3),
        runDown := clamp 0 120 (natAt d 4), burstCount := clamp 2 16 (natAt d 5),
        burstWindow := clamp 1 600 (natAt2 d 6),
        cause := if inUse = true ∧ q.inUse = false then .config else q.cause } := by
  unfold lineLoaded Line.load
  cases inUse with
  | true => cases hq : q.inUse <;> simp [hq]
  | false => simp_all

/-- A STOPPING line taken out of use stops (R145). -/
theorem loadLine_stops {l : LineId} (first : FanId) (second : Option FanId) (hl : s.lines[l].state = .stopping) :
    let u := s.lineTo l (lineLoaded d first second false)
    u.lines[l].state = .stopped ∧ u.lines[l].inUse = false ∧ u.lines[l].runDownEnd = none ∧ u.raised .line := by
  have stopped := lineLoaded_stopped d first second s.lines[l] hl
  have line : (s.updLine l (lineLoaded d first second false)).lines[l] = lineLoaded d first second false s.lines[l] :=
    updAt_same _ _ _
  have told : s.lineTo l (lineLoaded d first second false) =
      (s.updLine l (lineLoaded d first second false)).raise .line := by
    unfold State.lineTo
    dsimp only
    rw [line, stopped, hl]
    rfl
  dsimp only
  rw [told, raise_lines, line, stopped]
  exact ⟨rfl, rfl, rfl, raise_raised _ _⟩

theorem loadStation_refuses {x : StationId} (hm : s.mode = .config) (ht : t.toNat = x.val) :
    Refuses (s.loadStation t d) (16 ≤ natAt d 11 ∧ natAt d 11 ≠ 255) (2 ≤ natAt d 0 ∨ 2 ≤ natAt d 12) := by
  refine Refuses.worded (.passed (takenInConfig_of_config hm) (.passed (targetOf_ok.mpr ht)
    (.inst (instOrWord_judges _ _) fun _ _ _ => .choice (flagOf_judges _) fun _ _ =>
      .choice (flagOf_judges _) fun _ _ => .nothing _))) (by simp) (by simp)

/-- LOAD STATION taken (R100). -/
theorem loadStation_taken {x : StationId} {link : Option TempId} {inUse flood : Bool} (h : s.listens)
    (hm : s.mode = .config) (hd : d.length = 13) (ht : t.toNat = x.val) (hl : instOrWord 16 (natAt d 11) = .ok link)
    (hu : flagOf (natAt d 0) = .ok inUse) (hf : flagOf (natAt d 12) = .ok flood) :
    exec (.loadStation t d) s = .next ({ s with stations := updAt s.stations x fun q =>
      { q with
        inUse := inUse, draw := clamp 1 4 (natAt d 1), lead := clamp 0 5000 (natAt2 d 2),
        holdSpark := clamp 0 20000 (natAt2 d 4), holdEmber := clamp 0 20000 (natAt2 d 6),
        confirmTime := clamp 1 50 (natAt d 8), maxRelease := clamp 1 120 (natAt d 9),
        purgeTime := clamp 1 20 (natAt d 10), link := link, flood := flood } }.replyWith
      (.loaded (decide ([clamp 1 4 (natAt d 1), clamp 0 5000 (natAt2 d 2), clamp 0 20000 (natAt2 d 4),
        clamp 0 20000 (natAt2 d 6), clamp 1 50 (natAt d 8), clamp 1 120 (natAt d 9), clamp 1 20 (natAt d 10)] ≠
        [natAt d 1, natAt2 d 2, natAt2 d 4, natAt2 d 6, natAt d 8, natAt d 9, natAt d 10])))) := by
  rw [← bne_eq_decide_ne]
  exact request_answer h hd (fun e => nomatch e) <|
    (bind_of_ok (takenInConfig_of_config hm)).trans <| (bind_of_ok (targetOf_ok.mpr ht)).trans <|
    (bind_of_ok hl).trans <| (bind_of_ok hu).trans <| bind_of_ok hf

end

/-- Settles O22. -/
theorem loadLineAndStationWrite : Obligations.LoadLineAndStationWrite := by
  refine ⟨?_, ?_, ?_, ?_, ?_⟩
  · intro s t d l first second inUse h hm hd ht hf hs hu hn
    have writes := lineLoaded_writes d first second inUse s.lines[l] hn
    rw [loadLine_taken h hm hd ht hf hs hu, lineTo_of_same (by rw [writes])]
    unfold State.updLine
    exact congrArg (fun v => Host.Outcome.next (({ s with lines := v } : State).replyWith (lineReply d)))
      (updAt_congr _ _ writes)
  · intro s t d l first second h hm hd ht hf hs h0 hl
    have unused : flagOf (natAt d 0) = .ok false := by rw [h0]; rfl
    exact ⟨_, _, loadLine_taken h hm hd ht hf hs unused, loadLine_stops first second hl⟩
  · intro s t d x link inUse flood h hm hd ht hl hu hf
    exact loadStation_taken h hm hd ht hl hu hf
  · intro s t d l h hm hd ht
    exact (loadLine_refuses hm ht).request h hd
  · intro s t d x h hm hd ht
    exact (loadStation_refuses hm ht).request h hd

/-! ## LOAD GATE -/

/-- What LOAD GATE makes of a gate (R6, R129). -/
def gateLoaded (s : State) (d : List Byte) (owner normalOut abortOut : SegId) (inUse onShutdown : Bool) (q : Gate) : Gate :=
  { q with
    inUse := inUse, owner := owner, normalOut := normalOut, abortOut := abortOut, stroke := clamp 2 100 (natAt d 4),
    onShutdown := onShutdown,
    state := if inUse then q.state else .toAbort,
    timer := if inUse then q.timer else none,
    faultReason := if inUse then q.faultReason else none,
    diversions := if inUse then q.diversions else [],
    stateChanged := if inUse ∨ q.state = .toAbort then q.stateChanged else some s.now }

/-- The pair that confirms a gate in ABORT. -/
theorem pairAbort_iff (q : Gate) : q.pairAbort = true ↔ q.abortLimit = true ∧ q.normalLimit = false := by
  simp [Gate.pairAbort]

/-- A travelling gate whose ABORT pair is not standing is not confirmed. -/
theorem checkGate_unconfirmed (w : Work) (g : GateId) (h : w.st.gates[g].state = .toAbort)
    (hp : ¬(w.st.gates[g].abortLimit = true ∧ w.st.gates[g].normalLimit = false)) : w.checkGate g = w := by
  unfold Work.checkGate
  dsimp only
  rw [h, if_neg (fun k => hp ((pairAbort_iff _).mp k))]
  simp

/-- A travelling gate whose ABORT pair stands is confirmed. -/
theorem checkGate_confirms (w : Work) (g : GateId) (hu : w.st.gates[g].inUse = true) (h : w.st.gates[g].state = .toAbort)
    (hp : w.st.gates[g].abortLimit = true ∧ w.st.gates[g].normalLimit = false) :
    w.checkGate g = w.confirmGate g .abort := by
  unfold Work.checkGate
  dsimp only
  rw [hu, h, if_pos ((pairAbort_iff _).mpr hp)]
  rfl

/-- The diversions of a gate served: nothing but tracks and the list changes. -/
theorem diversionsServed_steps (s : State) (g : GateId) :
    Steps s ((s.markDiverted g s.gates[g].diversions).updGate g fun q => { q with diversions := [] }) :=
  (markDiverted_steps g _ s).trans (.one (.gate _ g _ (diversions_step _ _)))

/-- A gate confirmed in ABORT stands there with its notice. -/
theorem confirmGate_abort (w : Work) (g : GateId) :
    (w.confirmGate g .abort).st.gates[g].state = .abort ∧ (w.confirmGate g .abort).st.raised .gate := by
  have settled : ∀ v : Work, Kept v.st ((v.settle g .abort).mod fun s =>
      (s.markDiverted g s.gates[g].diversions).updGate g fun q => { q with diversions := [] }).st := fun v =>
    Steps.kept ((settle_steps v g .abort).loud.trans (diversionsServed_steps (v.settle g .abort).st g))
  let v : Work := w.mod fun s => (s.updGate g fun q =>
    { q with state := .abort, timer := none, stateChanged := some s.now }).raise .gate
  have kept : Kept v.st (w.confirmGate g .abort).st := settled v
  have stands : v.st.gates[g].state = .abort := congrArg Gate.state (updAt_same _ _ _)
  have told : v.st.raised .gate := raise_raised _ _
  exact ⟨(kept.gates g).abort stands, kept.raised .gate told⟩

section
variable {s : State} {t : Half} {d : List Byte}

theorem loadGate_refuses {g : GateId} (hm : s.mode = .config) (ht : t.toNat = g.val) :
    Refuses (s.loadGate t d) (128 ≤ natAt d 1 ∨ 128 ≤ natAt d 2 ∨ 128 ≤ natAt d 3) (2 ≤ natAt d 0 ∨ 2 ≤ natAt d 5) := by
  refine Refuses.worded (.passed (takenInConfig_of_config hm) (.passed (targetOf_ok.mpr ht)
    (.inst (instOf_judges _ _) fun _ _ _ => .inst (instOf_judges _ _) fun _ _ _ => .inst (instOf_judges _ _) fun _ _ _ =>
      .choice (flagOf_judges _) fun _ _ => .choice (flagOf_judges _) fun _ _ => .nothing _))) (by simp) (by simp)

theorem gateLoaded_eq (owner normalOut abortOut : SegId) (inUse onShutdown : Bool) (q : Gate) :
    ({ (if inUse then q else q.retired s.now) with
        inUse := inUse, owner := owner, normalOut := normalOut, abortOut := abortOut, stroke := clamp 2 100 (natAt d 4),
        onShutdown := onShutdown } : Gate) = gateLoaded s d owner normalOut abortOut inUse onShutdown q := by
  cases inUse <;> simp [gateLoaded, Gate.retired]

/-- LOAD GATE taken. -/
theorem loadGate_taken {g : GateId} {owner normalOut abortOut : SegId} {inUse onShutdown : Bool} (h : s.listens)
    (hm : s.mode = .config) (hd : d.length = 6) (ht : t.toNat = g.val) (ho : instOf 128 (natAt d 1) = .ok owner)
    (hn : instOf 128 (natAt d 2) = .ok normalOut) (ha : instOf 128 (natAt d 3) = .ok abortOut)
    (hu : flagOf (natAt d 0) = .ok inUse) (hs : flagOf (natAt d 5) = .ok onShutdown) :
    let u := s.updGate g (gateLoaded s d owner normalOut abortOut inUse onShutdown)
    exec (.loadGate t d) s =
      .next ((if inUse && !s.gates[g].inUse then u.begin.checkGate g else u.begin).finish.replyWith
        (.loaded (clamp 2 100 (natAt d 4) != natAt d 4))) := by
  have judged : s.loadGate t d = _ :=
    (bind_of_ok (takenInConfig_of_config hm)).trans <| (bind_of_ok (targetOf_ok.mpr ht)).trans <|
    (bind_of_ok ho).trans <| (bind_of_ok hn).trans <| (bind_of_ok ha).trans <| (bind_of_ok hu).trans <| bind_of_ok hs
  dsimp only at judged
  simp only [gateLoaded_eq] at judged
  exact request_answer h hd (fun e => nomatch e) judged

/-- LOAD GATE that confirms nothing writes the record and no more. -/
theorem loadGate_writes {g : GateId} {owner normalOut abortOut : SegId} {inUse onShutdown : Bool}
    (hq : inUse = false ∨ s.gates[g].inUse = true ∨
      (s.gates[g].state = .toAbort ∧ ¬(s.gates[g].abortLimit = true ∧ s.gates[g].normalLimit = false))) :
    let u := s.updGate g (gateLoaded s d owner normalOut abortOut inUse onShutdown)
    (if inUse && !s.gates[g].inUse then u.begin.checkGate g else u.begin).finish = u := by
  intro u
  split
  · rename_i brought
    simp only [Bool.and_eq_true, Bool.not_eq_true'] at brought
    obtain ⟨use, unused⟩ := brought
    have record : u.gates[g] = gateLoaded s d owner normalOut abortOut inUse onShutdown s.gates[g] := updAt_same _ _ _
    obtain h | h | ⟨travel, pair⟩ := hq
    · exact absurd (h.symm.trans use) Bool.false_ne_true
    · exact absurd (unused.symm.trans h) Bool.false_ne_true
    · rw [checkGate_unconfirmed, begin_finish]
      · rw [begin_st, record, gateLoaded, travel]
        exact ite_self _
      · rw [begin_st, record]
        exact pair
  · exact begin_finish u

/-- LOAD GATE that brings a gate with its ABORT pair into use confirms it (R129). -/
theorem loadGate_confirms {g : GateId} {owner normalOut abortOut : SegId} {onShutdown : Bool}
    (travel : s.gates[g].state = .toAbort) (pair : s.gates[g].abortLimit = true ∧ s.gates[g].normalLimit = false) :
    let u := s.updGate g (gateLoaded s d owner normalOut abortOut true onShutdown)
    let v := (u.begin.checkGate g).finish
    v.gates[g].state = .abort ∧ v.raised .gate ∧ u.Framed v := by
  intro u v
  have record : u.gates[g] = gateLoaded s d owner normalOut abortOut true onShutdown s.gates[g] := updAt_same _ _ _
  have confirmed : u.begin.checkGate g = u.begin.confirmGate g .abort := by
    refine checkGate_confirms _ _ ?_ ?_ ?_ <;> rw [begin_st, record]
    · rfl
    · exact travel
    · exact pair
  obtain ⟨abort, raised⟩ := confirmGate_abort u.begin g
  rw [← confirmed] at abort raised
  have kept := finish_kept (u.begin.checkGate g)
  exact ⟨(kept.gates g).abort abort, kept.raised .gate raised, ((checkGate_steps u.begin g).kept.trans kept).framed⟩

end

/-- Settles O21. -/
theorem loadGateWrites : Obligations.LoadGateWrites := by
  refine ⟨?_, ?_⟩
  · intro s t d g owner normalOut abortOut inUse onShutdown h hm hd ht ho hn ha hu hs
    have taken := loadGate_taken h hm hd ht ho hn ha hu hs
    refine ⟨fun hq => ?_, fun use unused travel abort normal => ?_⟩
    · rw [taken, loadGate_writes hq]
      rfl
    · subst use
      have brought : (true && !s.gates[g].inUse) = true := by rw [unused]; rfl
      dsimp only at taken
      rw [if_pos brought] at taken
      exact ⟨_, taken, loadGate_confirms travel ⟨abort, normal⟩⟩
  · intro s t d g h hm hd ht
    exact (loadGate_refuses hm ht).request h hd

/-! ## LOAD CHANNEL, LOAD AIRFLOW and LOAD TEMPERATURE -/

section
variable {s : State} {t : Half} {d : List Byte}

theorem loadChannel_refuses {c : ChanId} (hm : s.mode = .config) (ht : t.toNat = c.val) :
    Refuses (s.loadChannel t d) False (4 ≤ natAt d 0 ∨ 2 ≤ natAt d 1) := by
  refine Refuses.worded (.passed (takenInConfig_of_config hm) (.passed (targetOf_ok.mpr ht)
    (.choice (oneOf_judges _ _) fun _ _ => .choice (flagOf_judges _) fun _ _ => .nothing _))) Iff.rfl (by simp)

theorem loadAirflow_refuses {a : AirId} (hm : s.mode = .config) (ht : t.toNat = a.val) :
    Refuses (s.loadAirflow t d) False (2 ≤ natAt d 0) := by
  refine Refuses.worded (.passed (takenInConfig_of_config hm) (.passed (targetOf_ok.mpr ht)
    (.choice (flagOf_judges _) fun _ _ => .nothing _))) Iff.rfl (by simp)

theorem loadTemperature_refuses {i : TempId} (hm : s.mode = .config) (ht : t.toNat = i.val) :
    Refuses (s.loadTemperature t d) (16 ≤ natAt d 1) (2 ≤ natAt d 0) := by
  refine Refuses.worded (.passed (takenInConfig_of_config hm) (.passed (targetOf_ok.mpr ht)
    (.inst (instOf_judges _ _) fun _ _ _ => .choice (flagOf_judges _) fun _ _ => .nothing _))) (by simp) (by simp)

end

/-- What LOAD AIRFLOW makes of a channel (R38). -/
theorem airflow_load_eq (q : Airflow) (inUse : Bool) (scale : Nat) :
    q.load inUse scale =
      if inUse = true ∧ q.inUse = true then { q with scale := scale }
      else { q with inUse := inUse, scale := scale, count := 0, sample := 0, discard := inUse } := by
  unfold Airflow.load
  cases inUse <;> cases q.inUse <;> rfl

/-- What LOAD TEMPERATURE makes of a channel (R44, R45). -/
theorem temperature_load_eq (q : Temperature) (inUse : Bool) (zone : ZoneId) (hot alarm fire : Int) :
    ({ q.bring inUse with zone := zone, hotAt := hot, alarmAt := alarm, fireAt := fire } : Temperature) =
      if inUse = true ∧ q.inUse = true then { q with zone := zone, hotAt := hot, alarmAt := alarm, fireAt := fire }
      else if inUse = true then
        { q with inUse := true, zone := zone, hotAt := hot, alarmAt := alarm, fireAt := fire, reading := none,
                 readingTick := none, missing := 0, pulse := none, discard := true }
      else { q with inUse := false, zone := zone, hotAt := hot, alarmAt := alarm, fireAt := fire, pulse := none,
                    discard := false } := by
  unfold Temperature.bring
  cases inUse <;> cases hq : q.inUse <;> simp [hq]

/-- Settles O23. -/
theorem loadInputChannelsWrite : Obligations.LoadInputChannelsWrite := by
  refine ⟨?_, ?_, ?_, ?_, ?_, ?_⟩
  · intro s t a b threshold d type tolerant h hm ht htype htol
    exact request_answer h rfl (fun e => nomatch e) <|
      (bind_of_ok (takenInConfig_of_config hm)).trans <| (bind_of_ok (targetOf_ok.mpr ht)).trans <|
      (bind_of_ok htype).trans <| bind_of_ok htol
  · intro s t d a inUse h hm hd ht hu
    simp only [← airflow_load_eq]
    exact request_answer h hd (fun e => nomatch e) <|
      (bind_of_ok (takenInConfig_of_config hm)).trans <| (bind_of_ok (targetOf_ok.mpr ht)).trans <| bind_of_ok hu
  · intro s t d i zone inUse h hm hd ht hz hu
    simp only [← temperature_load_eq]
    exact request_answer h hd (fun e => nomatch e) <|
      (bind_of_ok (takenInConfig_of_config hm)).trans <| (bind_of_ok (targetOf_ok.mpr ht)).trans <|
      (bind_of_ok hz).trans <| bind_of_ok hu
  · intro s t a b threshold d h hm ht hc
    exact request_refused h rfl (fun e => nomatch e) ((loadChannel_refuses hm ht).badField id hc)
  · intro s t d a h hm hd ht hu
    exact request_refused h hd (fun e => nomatch e) ((loadAirflow_refuses hm ht).badField id hu)
  · intro s t d i h hm hd ht
    exact (loadTemperature_refuses hm ht).request h hd

/-! ## LOAD SHUTTER, LOAD SIREN and LOAD PATTERN -/

/-- A level among the choices is found by its value. -/
theorem levelAmong_of_val {levels : List Level} {l : Level} (h : l ∈ levels) : levelAmong levels l.val = .ok l := by
  have injective : ∀ m : Level, m.val = l.val → m = l := by cases l <;> intro m <;> cases m <;> decide
  unfold levelAmong
  cases e : levels.find? fun m => m.val == l.val with
  | none => exact absurd (List.find?_eq_none.mp e l h) (by simp)
  | some m =>
    have found : m.val = l.val := by simpa using List.find?_some e
    rw [injective m found]

section
variable {s : State} {t : Half} {d : List Byte}

/-- The levels of a shutter: ALARM and FIRE. -/
theorem alarmOrFire_ne (v : Nat) : (∀ l ∈ [Level.alarm, .fire], l.val ≠ v) ↔ v ≠ 2 ∧ v ≠ 3 := by
  simp [Level.val, eq_comm]

theorem anyClass_ne (v : Nat) : (∀ l ∈ [Level.watch, .alarm, .fire], l.val ≠ v) ↔ v = 0 ∨ 4 ≤ v := by
  simp [Level.val]
  omega

/-- YARD has no side A. -/
theorem instOrWord_none {n v : Nat} (h : instOrWord n v = .ok none) : v = 255 := by
  unfold instOrWord at h
  by_contra hv
  rw [if_neg hv] at h
  split at h <;> cases h

theorem instOrWord_some {n v : Nat} {i : Fin n} (h : instOrWord n v = .ok (some i)) : v ≠ 255 := by
  rintro rfl
  cases h

theorem loadShutter_refuses {i : ShutterId} (hm : s.mode = .config) (ht : t.toNat = i.val) :
    Refuses (s.loadShutter t d) ((16 ≤ natAt d 0 ∧ natAt d 0 ≠ 255) ∨ (16 ≤ natAt d 1 ∧ natAt d 1 ≠ 255))
      (natAt d 0 = 255 ∨ (natAt d 2 ≠ 2 ∧ natAt d 2 ≠ 3)) := by
  refine Refuses.worded (p := (16 ≤ natAt d 0 ∧ natAt d 0 ≠ 255) ∨ (16 ≤ natAt d 1 ∧ natAt d 1 ≠ 255) ∨ False)
    (.passed (takenInConfig_of_config hm) (.passed (targetOf_ok.mpr ht)
      (.inst (instOrWord_judges _ _) fun a ha _ => .inst (instOrWord_judges _ _) fun _ _ _ => ?_))) (by simp) Iff.rfl
  cases a with
  | none => exact ⟨fun e => e.elim, fun _ _ => rfl⟩
  | some a =>
    have notYard : natAt d 0 ≠ 255 := instOrWord_some ha
    exact Refuses.worded (.choice (levelAmong_judges _ _) fun _ _ => .nothing _) Iff.rfl
      (by simp only [notYard, alarmOrFire_ne, false_or, or_false])

theorem loadSiren_refuses {y : SirenId} (hm : s.mode = .config) (ht : t.toNat = y.val) :
    Refuses (s.loadSiren t d) (16 ≤ natAt d 2 ∧ natAt d 2 ≠ 255) False := by
  refine Refuses.worded (.passed (takenInConfig_of_config hm) (.passed (targetOf_ok.mpr ht)
    (.inst (instOrWord_judges _ _) fun _ _ _ => .nothing _))) (by simp) Iff.rfl

theorem loadPattern_refuses {y : SirenId} (hm : s.mode = .config) (ht : t.toNat = y.val) :
    Refuses (s.loadPattern t d) False (natAt d 0 = 0 ∨ 4 ≤ natAt d 0 ∨ 2 ≤ natAt d 1) := by
  refine Refuses.worded (.passed (takenInConfig_of_config hm) (.passed (targetOf_ok.mpr ht)
    (.choice (levelAmong_judges _ _) fun _ _ => .choice (flagOf_judges _) fun _ _ => .nothing _))) Iff.rfl
    (by rw [anyClass_ne, or_false, or_assoc])

/-- LOAD SHUTTER taken (R159). -/
theorem loadShutter_taken {h : ShutterId} {a : ZoneId} {b : Option ZoneId} {level : Level} (hs : s.listens)
    (hm : s.mode = .config) (hd : d.length = 4) (ht : t.toNat = h.val) (ha : natAt d 0 = a.val)
    (hb : instOrWord 16 (natAt d 1) = .ok b) (hl : natAt d 2 = level.val) (hv : 2 ≤ level.val) :
    exec (.loadShutter t d) s = .next ({ s with shutters := updAt s.shutters h fun q =>
      { q with sideA := a, sideB := b, closeLevel := level, timeout := clamp 1 120 (natAt d 3) } }.replyWith
      (.loaded (clamp 1 120 (natAt d 3) != natAt d 3))) := by
  have sideA : instOrWord 16 (natAt d 0) = .ok (some a) := by
    unfold instOrWord
    rw [if_neg (by omega), dif_pos (by omega)]
    congr
  have member : level ∈ [Level.alarm, .fire] := by cases level <;> simp_all [Level.val]
  have close : levelAmong [.alarm, .fire] (natAt d 2) = .ok level := by
    rw [hl]
    exact levelAmong_of_val member
  exact request_answer hs hd (fun e => nomatch e) <|
    (bind_of_ok (takenInConfig_of_config hm)).trans <| (bind_of_ok (targetOf_ok.mpr ht)).trans <|
    (bind_of_ok sideA).trans <| (bind_of_ok hb).trans <| bind_of_ok close

/-- LOAD PATTERN taken (R174). -/
theorem loadPattern_taken {y : SirenId} {cls : Level} {empty : Bool} (hs : s.listens) (hm : s.mode = .config)
    (hd : d.length = 9) (ht : t.toNat = y.val) (hc : natAt d 0 = cls.val) (hn : cls ≠ .normal)
    (he : flagOf (natAt d 1) = .ok empty) :
    let p := patternOf empty d
    exec (.loadPattern t d) s = .next ({ s with sirens := updAt s.sirens y fun q =>
      { q with watch := if cls = Level.watch then p else q.watch, alarm := if cls = Level.alarm then p else q.alarm,
               fire := if cls = Level.fire then p else q.fire } }.replyWith
      (.loaded (p.blast != natAt d 2 || p.gap != natAt d 3 || p.blasts != natAt d 4 || p.groupGap != natAt2 d 5))) := by
  have found : levelAmong [.watch, .alarm, .fire] (natAt d 0) = .ok cls := by
    rw [hc]
    exact levelAmong_of_val (by cases cls <;> simp_all)
  cases cls with
  | normal => exact absurd rfl hn
  | _ =>
    exact request_answer hs hd (fun e => nomatch e) <|
      (bind_of_ok (takenInConfig_of_config hm)).trans <| (bind_of_ok (targetOf_ok.mpr ht)).trans <|
      (bind_of_ok found).trans <| bind_of_ok he

end

/-- Settles O24. -/
theorem loadShutterAndSirenWrite : Obligations.LoadShutterAndSirenWrite := by
  refine ⟨?_, ?_, ?_, ?_, ?_, ?_⟩
  · intro s t d h a b level hs hm hd ht ha hb hl hv
    exact loadShutter_taken hs hm hd ht ha hb hl hv
  · intro s t d y link h hm hd ht hl
    exact request_answer h hd (fun e => nomatch e) <|
      (bind_of_ok (takenInConfig_of_config hm)).trans <| (bind_of_ok (targetOf_ok.mpr ht)).trans <| bind_of_ok hl
  · intro s t d y cls empty h hm hd ht hc hn he
    exact loadPattern_taken h hm hd ht hc hn he
  · intro s t d i h hm hd ht
    exact (loadShutter_refuses hm ht).request h hd
  · intro s t d y h hm hd ht big word
    exact request_refused h hd (fun e => nomatch e) ((loadSiren_refuses hm ht).noSuch ⟨big, word⟩)
  · intro s t d y h hm hd ht bad
    exact request_refused h hd (fun e => nomatch e) ((loadPattern_refuses hm ht).badField id bad)

/-! ## The validation walk (R11, R12) -/

/-- What the walk's look at the violations of one kind finds: the violated one of the lowest number. -/
structure Finds (s : State) (mine : Violation → Prop) (found : Option Violation) : Prop where
  none : found = none → ∀ w, mine w → ¬s.breaks w
  owned : ∀ v, found = some v → mine v
  breaks : ∀ v, found = some v → s.breaks v
  first : ∀ v, found = some v → ∀ w, mine w → s.breaks w → v.kind = w.kind → v.number ≤ w.number

/-- The first number of a table for which a test holds. -/
theorem finRange_find_first {n : Nat} {p : Fin n → Bool} {i : Fin n} (h : (List.finRange n).find? p = some i) (j : Fin n)
    (hj : p j = true) : i ≤ j := by
  obtain ⟨_, k, hk, hi, before⟩ := List.find?_eq_some_iff_getElem.mp h
  have hv : k = i.val := by rw [← hi, List.getElem_finRange]; rfl
  by_contra lower
  have early := before j.val (by rw [hv]; omega)
  rw [List.getElem_finRange] at early
  simp [hj] at early

/-- A look through a table of instances, by their numbers. -/
theorem finds_table {s : State} {n : Nat} {mine : Violation → Prop} (mk : Fin n → Violation) (p : Fin n → Bool)
    (hp : ∀ i, p i = true ↔ s.breaks (mk i)) (hm : ∀ w, mine w ↔ ∃ i, w = mk i) (hn : ∀ i, (mk i).number = i.val) :
    Finds s mine (((List.finRange n).find? p).map mk) where
  none e w hw hb := by
    obtain ⟨i, rfl⟩ := (hm w).mp hw
    exact List.find?_eq_none.mp (Option.map_eq_none_iff.mp e) i (List.mem_finRange i) ((hp i).mpr hb)
  owned v e := by
    obtain ⟨i, _, rfl⟩ := Option.map_eq_some_iff.mp e
    exact (hm _).mpr ⟨i, rfl⟩
  breaks v e := by
    obtain ⟨i, hi, rfl⟩ := Option.map_eq_some_iff.mp e
    exact (hp i).mp (List.find?_some hi)
  first v e w hw hb _ := by
    obtain ⟨i, hi, rfl⟩ := Option.map_eq_some_iff.mp e
    obtain ⟨j, rfl⟩ := (hm w).mp hw
    rw [hn, hn]
    exact finRange_find_first hi j ((hp j).mpr hb)

/-- One kind of instance looked through before another. -/
theorem Finds.or {s : State} {mine other : Violation → Prop} {a b : Option Violation} (h : Finds s mine a)
    (k : Finds s other b) (hk : ∀ v w, mine v → other w → v.kind ≠ w.kind) :
    Finds s (fun w => mine w ∨ other w) (a.or b) := by
  cases a with
  | none =>
    refine ⟨fun e w hw => ?_, fun v e => .inr (k.owned v e), k.breaks, fun v e w hw hb kinds => ?_⟩
    · exact hw.elim (h.none rfl w) (k.none e w)
    · exact hw.elim (fun m => absurd hb (h.none rfl w m)) fun m => k.first v e w m hb kinds
  | some a =>
    refine ⟨fun e => (nomatch e), fun v e => .inl (h.owned v e), h.breaks, fun v e w hw hb kinds => ?_⟩
    exact hw.elim (fun m => h.first v e w m hb kinds) fun m => absurd kinds (hk v w (h.owned v e) m)

theorem Finds.worded {s : State} {mine other : Violation → Prop} {a : Option Violation} (h : Finds s mine a)
    (e : ∀ w, other w ↔ mine w) : Finds s other a := by rwa [funext fun w => propext (e w)]

section
variable (s : State)

theorem check1_finds : Finds s (fun w => w.check = 1) (s.firstSegment .segLine fun _ g => !s.lines[g.line].inUse) := by
  refine finds_table _ _ (fun i => ?_) (fun w => ?_) fun _ => rfl
  · simp [State.breaks]
  · cases w <;> simp [Violation.check]

theorem check2_finds : Finds s (fun w => w.check = 2) (s.firstSegment .segAirflow fun _ g =>
    match g.source with | some a => !s.airflows[a].inUse | none => false) := by
  refine finds_table _ _ (fun i => ?_) (fun w => ?_) fun _ => rfl
  · unfold State.breaks
    rw [Bool.and_eq_true]
    refine and_congr Iff.rfl ?_
    dsimp only
    cases s.segments[i].source <;> simp
  · cases w <;> simp [Violation.check]

theorem check3_finds : Finds s (fun w => w.check = 3) (s.firstSegment .segNext fun _ g =>
    match g.outlet with | .next j => !s.segments[j].inUse | _ => false) := by
  refine finds_table _ _ (fun i => ?_) (fun w => ?_) fun _ => rfl
  · unfold State.breaks
    rw [Bool.and_eq_true]
    refine and_congr Iff.rfl ?_
    dsimp only
    cases s.segments[i].outlet <;> simp
  · cases w <;> simp [Violation.check]

theorem check4_finds : Finds s (fun w => w.check = 4) (s.firstSegment .segGate fun i g =>
    match g.outlet with | .gate k => !s.gates[k].inUse || s.gates[k].owner != i | _ => false) := by
  refine finds_table _ _ (fun i => ?_) (fun w => ?_) fun _ => rfl
  · unfold State.breaks
    rw [Bool.and_eq_true]
    refine and_congr Iff.rfl ?_
    dsimp only
    cases s.segments[i].outlet <;> simp
  · cases w <;> simp [Violation.check]

theorem check5_finds : Finds s (fun w => w.check = 5) (s.firstGate .gateOwner fun k g =>
    !s.segments[g.owner].inUse || s.segments[g.owner].outlet != .gate k) := by
  refine finds_table _ _ (fun i => ?_) (fun w => ?_) fun _ => rfl
  · simp [State.breaks]
  · cases w <;> simp [Violation.check]

theorem check6_finds : Finds s (fun w => w.check = 6) (s.firstGate .gateOutlet fun _ g =>
    !s.segments[g.normalOut].inUse || !s.segments[g.abortOut].inUse || g.normalOut == g.abortOut) := by
  refine finds_table _ _ (fun i => ?_) (fun w => ?_) fun _ => rfl
  · simp [State.breaks, or_assoc]
  · cases w <;> simp [Violation.check]

theorem check7_finds : Finds s (fun w => w.check = 7) (s.firstSegment .pointPosition fun _ g =>
    g.points.any fun p => decide (g.length ≤ p.position)) := by
  refine finds_table _ _ (fun i => ?_) (fun w => ?_) fun _ => rfl
  · simp [State.breaks]
  · cases w <;> simp [Violation.check]

theorem check8_finds : Finds s (fun w => w.check = 8)
    ((((List.finRange 32).find? fun d => s.channels[d].type == .off && decide (0 < s.timesPlaced (.detector d))).map
        Violation.pointDetector).or
      (((List.finRange 24).find? fun x => !s.stations[x].inUse && decide (0 < s.timesPlaced (.station x))).map
        Violation.pointStation)) := by
  refine Finds.worded (.or (mine := fun w => ∃ d, w = .pointDetector d) (other := fun w => ∃ x, w = .pointStation x)
    (finds_table _ _ (fun i => ?_) (fun _ => Iff.rfl) fun _ => rfl)
    (finds_table _ _ (fun i => ?_) (fun _ => Iff.rfl) fun _ => rfl) ?_) fun w => ?_
  · simp [State.breaks, timesPlaced_eq_placings]
  · simp [State.breaks, timesPlaced_eq_placings]
  · rintro _ _ ⟨d, rfl⟩ ⟨x, rfl⟩
    simp [Violation.kind]
  · cases w <;> simp [Violation.check]

theorem check9_finds : Finds s (fun w => w.check = 9)
    (((List.finRange 32).find? fun d => s.channels[d].type != .off && s.timesPlaced (.detector d) != 1).map
      Violation.detectorPlacement) := by
  refine finds_table _ _ (fun i => ?_) (fun w => ?_) fun _ => rfl
  · simp [State.breaks, timesPlaced_eq_placings]
  · cases w <;> simp [Violation.check]

theorem check10_finds : Finds s (fun w => w.check = 10)
    (((List.finRange 24).find? fun x => s.stations[x].inUse && s.timesPlaced (.station x) != 1).map
      Violation.stationPlacement) := by
  refine finds_table _ _ (fun i => ?_) (fun w => ?_) fun _ => rfl
  · simp [State.breaks, timesPlaced_eq_placings]
  · cases w <;> simp [Violation.check]

theorem check11_finds : Finds s (fun w => w.check = 11)
    (s.firstSegment .pathLong fun i _ => !s.pathEnds Config.routeRoom i) := by
  refine finds_table _ _ (fun i => ?_) (fun w => ?_) fun _ => rfl
  · have path := pathEnds_eq_false s Config.routeRoom i
    unfold State.breaks
    rw [Bool.and_eq_true, Bool.not_eq_true', path]
    rfl
  · cases w <;> simp [Violation.check]

/-- The ones of an exclusive or are the bits in which two codes differ. -/
theorem onesIn_xor (a b : Byte) :
    onesIn (a ^^^ b) = (List.range 8).countP fun i => a.getLsbD i != b.getLsbD i := by
  have fold : ∀ (l : List Nat) (n : Nat), l.foldl (fun n i => n + ((a ^^^ b).getLsbD i).toNat) n =
      n + l.countP fun i => a.getLsbD i != b.getLsbD i := by
    intro l
    induction l with
    | nil => intro n; rfl
    | cons i l ih =>
      intro n
      rw [List.foldl_cons, ih, List.countP_cons, BitVec.getLsbD_xor]
      cases a.getLsbD i <;> cases b.getLsbD i <;> simp <;> omega
  exact (fold _ 0).trans (Nat.zero_add _)

theorem check12_finds : Finds s (fun w => w.check = 12)
    (if onesIn (s.limits.sparkCode ^^^ s.limits.emberCode) < 3 then some .codesClose else none) := by
  have only : ∀ w : Violation, w.check = 12 → w = .codesClose := by intro w; cases w <;> simp [Violation.check]
  have close : s.breaks .codesClose ↔ onesIn (s.limits.sparkCode ^^^ s.limits.emberCode) < 3 := by
    rw [onesIn_xor]
    rfl
  refine ⟨fun e w hw => ?_, fun v e => ?_, fun v e => ?_, fun v e w hw _ _ => ?_⟩ <;> split at e
  · cases e
  · rw [only w hw, close]
    assumption
  · cases e
    rfl
  · cases e
  · cases e
    exact close.mpr ‹_›
  · cases e
  · cases e
    rw [only w hw]
  · cases e

theorem line_fans_iff (l : Line) (m : FanId) : m ∈ l.fans ↔ l.firstFan = m ∨ l.secondFan = some m := by
  unfold Line.fans
  cases l.secondFan <;> simp [eq_comm]

theorem fanNamedTwice_iff (l : LineId) : s.fanNamedTwice l = true ↔
    s.lines[l].secondFan = some s.lines[l].firstFan ∨
      ∃ (k : LineId) (m : FanId), k < l ∧ s.lines[k].inUse = true ∧
        (s.lines[l].firstFan = m ∨ s.lines[l].secondFan = some m) ∧
        (s.lines[k].firstFan = m ∨ s.lines[k].secondFan = some m) := by
  unfold State.fanNamedTwice
  simp only [Bool.or_eq_true, beq_iff_eq, List.any_eq_true, List.mem_finRange, true_and, Bool.and_eq_true,
    decide_eq_true_eq, List.contains_iff_mem, line_fans_iff]
  refine or_congr Iff.rfl (exists_congr fun k => ?_)
  constructor
  · rintro ⟨⟨lower, use⟩, m, here, there⟩
    exact ⟨m, lower, use, here, there⟩
  · rintro ⟨m, lower, use, here, there⟩
    exact ⟨⟨lower, use⟩, m, here, there⟩

theorem check13_finds : Finds s (fun w => w.check = 13)
    (((List.finRange 8).find? fun l => s.lines[l].inUse && s.fanNamedTwice l).map Violation.lineFans) := by
  refine finds_table _ _ (fun i => ?_) (fun w => ?_) fun _ => rfl
  · unfold State.breaks
    rw [Bool.and_eq_true, fanNamedTwice_iff]
  · cases w <;> simp [Violation.check]

end

/-- The checks of a walk from one number on, each looking for its own violations. -/
inductive Walk (s : State) : Nat → List (Option Violation) → Prop
  | nil (k : Nat) : Walk s k []
  | cons {k : Nat} {a : Option Violation} {l : List (Option Violation)} (h : Finds s (fun w => w.check = k) a)
      (rest : Walk s (k + 1) l) : Walk s k (a :: l)

/-- A walk that finds nothing has passed all its checks. -/
theorem Walk.passed {s : State} {k : Nat} {l : List (Option Violation)} (h : Walk s k l) (e : l.findSome? id = none)
    (w : Violation) (lo : k ≤ w.check) (hi : w.check < k + l.length) : ¬s.breaks w := by
  induction h with
  | nil k =>
    rw [List.length_nil] at hi
    omega
  | @cons k a l h rest ih =>
    rw [List.findSome?_cons] at e
    rw [List.length_cons] at hi
    cases a with
    | some v => cases e
    | none =>
      by_cases now : w.check = k
      · exact h.none rfl w now
      · exact ih e (by omega) (by omega)

/-- A walk that ends at a violation ends at the first one. -/
theorem Walk.ends {s : State} {k : Nat} {l : List (Option Violation)} (h : Walk s k l) {v : Violation}
    (e : l.findSome? id = some v) :
    k ≤ v.check ∧ s.breaks v ∧ ∀ w, k ≤ w.check → s.breaks w → v.notAfter w := by
  induction h with
  | nil k => cases e
  | @cons k a l h rest ih =>
    rw [List.findSome?_cons] at e
    cases a with
    | none =>
      obtain ⟨lo, broken, first⟩ := ih e
      refine ⟨by omega, broken, fun w hw hb => ?_⟩
      by_cases now : w.check = k
      · exact absurd hb (h.none rfl w now)
      · exact first w (by omega) hb
    | some u =>
      obtain rfl : u = v := Option.some.inj e
      have own := h.owned u rfl
      refine ⟨own.ge, h.breaks u rfl, fun w hw hb => ?_⟩
      by_cases now : w.check = k
      · exact .inr ⟨own.trans now.symm, h.first u rfl w now hb⟩
      · exact .inl (by omega)

/-- The thirteen checks. -/
theorem violations_walk (s : State) : Walk s 1 s.violations :=
  .cons (check1_finds s) <| .cons (check2_finds s) <| .cons (check3_finds s) <| .cons (check4_finds s) <|
  .cons (check5_finds s) <| .cons (check6_finds s) <| .cons (check7_finds s) <| .cons (check8_finds s) <|
  .cons (check9_finds s) <| .cons (check10_finds s) <| .cons (check11_finds s) <| .cons (check12_finds s) <|
  .cons (check13_finds s) <| .nil 14

theorem check_bounds (w : Violation) : 1 ≤ w.check ∧ w.check < 14 := by
  cases w <;> simp [Violation.check]

/-- Settles O5, by the thirteen checks each on its own, and the order in which the walk takes them. -/
theorem walkEndsAtViolation : Obligations.WalkEndsAtViolation := by
  refine ⟨fun s => ⟨fun e w => ?_, fun none => ?_⟩, fun s v e => ?_, fun s v hr hm hw hv => ?_⟩
  · exact (violations_walk s).passed e w (check_bounds w).1 (check_bounds w).2
  · cases e : s.firstViolation with
    | none => rfl
    | some v => exact absurd ((violations_walk s).ends e).2.1 (none v)
  · obtain ⟨_, broken, first⟩ := (violations_walk s).ends e
    exact ⟨broken, fun w => first w (check_bounds w).1⟩
  · exact walkEnd_failed s v hr ((walkDue_iff s).mpr ⟨hm, hw⟩) hv

/-! ## The fault flags of the zones (R155, R157) -/

/-- A state that differs from another in the fault flags of its zones and in the notices raised. -/
structure Flagged (s t : State) : Prop where
  rest : { t with zones := s.zones, notices := s.notices } = s
  zones : ∀ z : ZoneId, { t.zones[z] with faults := s.zones[z].faults } = s.zones[z]
  raised : ∀ n, s.raised n → t.raised n

/-- The flag of a kind stands in a zone as the condition behind it does. -/
def FlagStands (s : State) (z : ZoneId) (k : FaultKind) : Prop :=
  s.zones[z].faults.getLsbD k.bit = s.faultPresent z k

theorem Flagged.same (s : State) : Flagged s s := ⟨rfl, fun _ => rfl, fun _ => id⟩

theorem Flagged.trans {s t u : State} (h : Flagged s t) (k : Flagged t u) : Flagged s u where
  rest := (congrArg (fun v : State => { v with zones := s.zones, notices := s.notices }) k.rest).trans h.rest
  zones z := (congrArg (fun q : Zone => { q with faults := s.zones[z].faults }) (k.zones z)).trans (h.zones z)
  raised n r := k.raised n (h.raised n r)

/-- The condition behind a flag reads neither flags nor notices. -/
theorem Flagged.faultPresent {s t : State} (h : Flagged s t) (z : ZoneId) (k : FaultKind) :
    t.faultPresent z k = s.faultPresent z k :=
  (rfl : t.faultPresent z k = { t with zones := s.zones, notices := s.notices }.faultPresent z k).trans
    (congrArg (fun v : State => v.faultPresent z k) h.rest)

theorem raised_raise {s : State} {n : Notice} (m : Notice) (h : s.raised n) : (s.raise m).raised n :=
  (raise_kept s m).raised n h

/-- A record changed at one place, read at a place. -/
theorem updAt_cases {α : Type} {n : Nat} (v : Vector α n) (i j : Fin n) (f : α → α) :
    j = i ∧ (updAt v i f)[j] = f v[j] ∨ j ≠ i ∧ (updAt v i f)[j] = v[j] := by
  by_cases e : j = i
  · subst e
    exact .inl ⟨rfl, updAt_same v j f⟩
  · exact .inr ⟨e, updAt_other v i j f e⟩

theorem refreshFault_flagged (s : State) (k : FaultKind) (z : ZoneId) : Flagged s (s.refreshFault k z) := by
  unfold State.refreshFault
  extract_lets bit new
  split
  · exact .same s
  · refine ⟨rfl, fun y => ?_, fun n => raised_raise .zone⟩
    rcases updAt_cases s.zones z y fun q => { q with faults := new } with ⟨_, e⟩ | ⟨_, e⟩
    · exact congrArg (fun q : Zone => { q with faults := s.zones[y].faults }) e
    · exact congrArg (fun q : Zone => { q with faults := s.zones[y].faults }) e

/-- A flag delivered: the flag of its kind and zone alone is set as the condition stands. -/
theorem refreshFault_flag (s : State) (k j : FaultKind) (z y : ZoneId) :
    (s.refreshFault k z).zones[y].faults.getLsbD j.bit =
      if y = z ∧ j = k then s.faultPresent z k else s.zones[y].faults.getLsbD j.bit := by
  have set : (if s.faultPresent z k then s.zones[z].faults ||| 1#5 <<< k.bit
      else s.zones[z].faults &&& ~~~(1#5 <<< k.bit)).getLsbD j.bit =
      if j = k then s.faultPresent z k else s.zones[z].faults.getLsbD j.bit := by
    generalize s.zones[z].faults = v
    cases s.faultPresent z k <;> cases k <;> cases j <;> simp [FaultKind.bit]
  unfold State.refreshFault
  extract_lets bit new
  have set : new.getLsbD j.bit = if j = k then s.faultPresent z k else s.zones[z].faults.getLsbD j.bit := set
  have there : (if new = s.zones[z].faults then s
      else (s.updZone z fun q => { q with faults := new }).raise .zone).zones[z].faults = new := by
    split
    · rename_i same
      exact same.symm
    · exact congrArg Zone.faults (updAt_same s.zones z _)
  have elsewhere : y ≠ z → (if new = s.zones[z].faults then s
      else (s.updZone z fun q => { q with faults := new }).raise .zone).zones[y].faults = s.zones[y].faults := by
    intro e
    split
    · rfl
    · exact congrArg Zone.faults (updAt_other s.zones z y _ e)
  by_cases e : y = z
  · subst e
    rw [there, set]
    simp
  · rw [elsewhere e, if_neg fun h => e h.1]

theorem refreshFault_stands (s : State) (k : FaultKind) (z : ZoneId) : FlagStands (s.refreshFault k z) z k := by
  unfold FlagStands
  rw [refreshFault_flag, if_pos ⟨rfl, rfl⟩, (refreshFault_flagged s k z).faultPresent]

theorem FlagStands.refreshFault {s : State} {y : ZoneId} {j : FaultKind} (h : FlagStands s y j) (k : FaultKind)
    (z : ZoneId) : FlagStands (s.refreshFault k z) y j := by
  unfold FlagStands
  rw [refreshFault_flag, (refreshFault_flagged s k z).faultPresent]
  split
  · rename_i same
    rw [same.1, same.2]
  · exact h

/-- What no step of a fold undoes, the fold does not. -/
theorem foldl_keeps {β α : Type} {f : β → α → β} {P : β → Prop} (keep : ∀ b a, P b → P (f b a)) (l : List α) (b : β)
    (h : P b) : P (l.foldl f b) := by
  induction l generalizing b with
  | nil => exact h
  | cons a l ih => exact ih _ (keep b a h)

/-- What one step of a fold brings about and no step undoes, holds at the fold's end. -/
theorem foldl_reaches {β α : Type} {f : β → α → β} {P : β → Prop} (keep : ∀ b a, P b → P (f b a)) {l : List α} {a : α}
    (make : ∀ b, P (f b a)) (h : a ∈ l) (b : β) : P (l.foldl f b) := by
  induction l generalizing b with
  | nil => cases h
  | cons c l ih =>
    rcases List.mem_cons.mp h with rfl | h
    · exact foldl_keeps keep l _ (make b)
    · exact ih h _

/-- What every step of a fold keeps, related by a transitive relation. -/
theorem foldl_related {β α : Type} {R : β → β → Prop} (refl : ∀ b, R b b) (trans : ∀ {a b c}, R a b → R b c → R a c)
    {f : β → α → β} (step : ∀ b a, R b (f b a)) (l : List α) (b : β) : R b (l.foldl f b) := by
  induction l generalizing b with
  | nil => exact refl b
  | cons a l ih => exact trans (step b a) (ih (f b a))

theorem refreshAllFaults_flagged (s : State) : Flagged s s.refreshAllFaults :=
  foldl_related .same .trans (fun b z => foldl_related .same .trans (fun b k => refreshFault_flagged b k z) _ b) _ s

theorem FlagStands.refreshKinds {s : State} {y : ZoneId} {j : FaultKind} (h : FlagStands s y j) (l : List FaultKind)
    (z : ZoneId) : FlagStands (l.foldl (fun s k => s.refreshFault k z) s) y j :=
  foldl_keeps (P := fun b => FlagStands b y j) (fun _ k hb => hb.refreshFault k z) l s h

theorem refreshKinds_stands (s : State) {l : List FaultKind} {k : FaultKind} (h : k ∈ l) (z : ZoneId) :
    FlagStands (l.foldl (fun s k => s.refreshFault k z) s) z k :=
  foldl_reaches (P := fun b => FlagStands b z k) (fun _ j hb => hb.refreshFault j z) (fun b => refreshFault_stands b k z) h s

/-- After all flags are delivered each stands as the condition behind it does. -/
theorem refreshAllFaults_stands (s : State) (z : ZoneId) (k : FaultKind) : FlagStands s.refreshAllFaults z k :=
  foldl_reaches (P := fun b => FlagStands b z k) (fun _ y hb => hb.refreshKinds _ y)
    (fun b => refreshKinds_stands b (by cases k <;> simp) z) (List.mem_finRange z) s

theorem refreshAllFaults_flag (s : State) (z : ZoneId) (k : FaultKind) :
    s.refreshAllFaults.zones[z].faults.getLsbD k.bit = s.faultPresent z k :=
  (refreshAllFaults_stands s z k).trans ((refreshAllFaults_flagged s).faultPresent z k)

/-! ## GUARD entry (R14) -/

/-- A state that differs from another in its gates and in the notices raised. -/
structure GatesOnly (s t : State) : Prop where
  rest : { t with gates := s.gates, notices := s.notices } = s
  raised : ∀ n, s.raised n → t.raised n

theorem GatesOnly.same (s : State) : GatesOnly s s := ⟨rfl, fun _ => id⟩

theorem GatesOnly.trans {s t u : State} (h : GatesOnly s t) (k : GatesOnly t u) : GatesOnly s u where
  rest := (congrArg (fun v : State => { v with gates := s.gates, notices := s.notices }) k.rest).trans h.rest
  raised n r := k.raised n (h.raised n r)

/-- No line is up: each is STOPPED or STOPPING. -/
def LinesDown (s : State) : Prop := ∀ l : LineId, s.lines[l].state = .stopped ∨ s.lines[l].state = .stopping

theorem GatesOnly.linesDown {s t : State} (h : GatesOnly s t) (d : LinesDown s) : LinesDown t := by
  have lines : t.lines = s.lines := (congrArg State.lines h.rest :)
  unfold LinesDown
  rw [lines]
  exact d

theorem updAt_id {α : Type} {n : Nat} (v : Vector α n) (i : Fin n) (f : α → α) (h : f v[i] = v[i]) : updAt v i f = v := by
  refine Vector.ext fun j hj => ?_
  rcases updAt_cases v i ⟨j, hj⟩ f with ⟨e, r⟩ | ⟨_, r⟩
  · subst e
    exact r.trans h
  · exact r

theorem lineTo_id (s : State) (l : LineId) (f : Line → Line) (h : f s.lines[l] = s.lines[l]) : s.lineTo l f = s := by
  have same : s.updLine l f = s := congrArg (fun v => { s with lines := v }) (updAt_id s.lines l f h)
  unfold State.lineTo
  rw [same]
  exact if_pos rfl

/-- A shutdown cause other than FIRE does nothing to a line that is down. -/
theorem shutdown_down (w : Work) (l : LineId) (c : StopCause) (hc : c ≠ .fire)
    (d : w.st.lines[l].state = .stopped ∨ w.st.lines[l].state = .stopping) : w.shutdown l c = w := by
  have same : (w.mod fun s => s.lineTo l fun q => q.coldCause c) = w :=
    congrArg (fun v => { w with st := v }) (lineTo_id w.st l _ (if_neg hc))
  unfold Work.shutdown
  split
  · rfl
  · rcases d with e | e <;> rw [e] <;> exact same

/-- A gate whose confirming limit is open faults (R14, R128). -/
def gateLost (now : Tick) (q : Gate) : Gate :=
  if q.inUse && q.limitLost then
    { q with state := .fault, timer := none, faultReason := some .limitLost, diversions := [], stateChanged := some now }
  else q

theorem gateLost_twice (now now' : Tick) (q : Gate) : gateLost now (gateLost now' q) = gateLost now' q := by
  by_cases lost : (q.inUse && q.limitLost) = true
  · have fallen : gateLost now' q = { q with
        state := .fault, timer := none, faultReason := some .limitLost, diversions := [], stateChanged := some now' } :=
      if_pos lost
    rw [fallen]
    exact if_neg (by simp [Gate.limitLost])
  · have fine : ∀ n, gateLost n q = q := fun n => if_neg lost
    rw [fine, fine]

/-- The look at one gate at GUARD entry. -/
def lookAtGate (w : Work) (g : GateId) : Work :=
  if w.st.gates[g].inUse && w.st.gates[g].limitLost then w.faultGate g .limitLost else w

/-- What GUARD entry's look at the gates leaves: each gate looked at faults where its confirming limit is open. -/
structure Looked (v w : Work) (seen : GateId → Prop) : Prop where
  only : GatesOnly v.st w.st
  lost : ∀ g, seen g → w.st.gates[g] = gateLost v.st.now v.st.gates[g]
  kept : ∀ g, ¬seen g → w.st.gates[g] = v.st.gates[g]
  notice : ∀ g, seen g → (v.st.gates[g].inUse && v.st.gates[g].limitLost) = true → w.st.raised .gate
  out : ∀ d ∈ w.out, d ∈ v.out ∨ ∃ g, d = .gateMoved g

theorem push_gateMoved_out (w : Work) (g : GateId) : (w.push (.gateMoved g)).out = w.out ++ [.gateMoved g] := rfl

theorem lookAtGate_looked (w : Work) (g : GateId) (d : LinesDown w.st) : Looked w (lookAtGate w g) (· = g) := by
  unfold lookAtGate
  split
  · rename_i lost
    unfold Work.faultGate
    extract_lets v
    have only : GatesOnly w.st v.st := ⟨rfl, fun n => raised_raise .gate⟩
    have still : (v.push (.gateMoved g)).shutdown (v.st.lineOfGate g) .gateFault = v.push (.gateMoved g) :=
      shutdown_down _ _ _ (by decide) (only.linesDown d _)
    rw [still]
    refine ⟨only, fun k e => ?_, fun k e => ?_, fun _ _ _ => raise_raised _ .gate, fun x hx => ?_⟩
    · subst e
      exact (updAt_same w.st.gates k _).trans (if_pos lost).symm
    · exact updAt_other w.st.gates g k _ e
    · rcases List.mem_append.mp hx with h | h
      · exact .inl h
      · exact .inr ⟨g, List.mem_singleton.mp h⟩
  · rename_i fine
    refine ⟨.same w.st, fun k e => ?_, fun _ _ => rfl, fun k e h => ?_, fun _ => .inl⟩
    · subst e
      exact (if_neg fine).symm
    · subst e
      exact absurd h fine

theorem lookAtGates_looked (l : List GateId) (w : Work) (d : LinesDown w.st) : Looked w (l.foldl lookAtGate w) (· ∈ l) := by
  induction l generalizing w with
  | nil => exact ⟨.same w.st, fun _ h => (nomatch h), fun _ _ => rfl, fun _ h => (nomatch h), fun _ => .inl⟩
  | cons g l ih =>
    have one := lookAtGate_looked w g d
    have more := ih (lookAtGate w g) (one.only.linesDown d)
    have now : (lookAtGate w g).st.now = w.st.now := (congrArg State.now one.only.rest :)
    rw [List.foldl_cons]
    refine ⟨one.only.trans more.only, fun k h => ?_, fun k h => ?_, fun k h lost => ?_, fun x hx => ?_⟩
    · by_cases here : k = g <;> by_cases later : k ∈ l
      · rw [more.lost k later, one.lost k here, gateLost_twice]
      · rw [more.kept k later, one.lost k here]
      · rw [more.lost k later, one.kept k here, now]
      · exact absurd ((List.mem_cons.mp h).resolve_left here) later
    · rw [more.kept k fun e => h (.tail _ e), one.kept k fun e => h (e ▸ .head _)]
    · by_cases here : k = g
      · exact more.only.raised _ (one.notice k here lost)
      · refine more.notice k ((List.mem_cons.mp h).resolve_left here) ?_
        rw [one.kept k here]
        exact lost
    · rcases more.out x hx with h | h
      · exact one.out x h
      · exact .inr h

/-- GUARD entry before its deliveries: the records of R14, the gates whose confirming limit is open in FAULT, and the fault
flags as their sources stand. -/
theorem enterGuard_eq (s : State) : s.enterGuard =
    ((List.finRange 8).foldl lookAtGate (s.guardRecords.raise .commit).begin).mod State.refreshAllFaults := rfl

theorem enterGuard_looked (s : State) (down : LinesDown s) :
    Looked (s.guardRecords.raise .commit).begin
      ((List.finRange 8).foldl lookAtGate (s.guardRecords.raise .commit).begin) (· ∈ List.finRange 8) := by
  refine lookAtGates_looked (List.finRange 8) (s.guardRecords.raise .commit).begin fun l => ?_
  have line : s.guardRecords.lines[l] = s.lines[l].guard (s.zoneSetOf l) := Vector.getElem_ofFn _
  have state : s.guardRecords.lines[l].state = s.lines[l].state := (congrArg Line.state line :)
  show s.guardRecords.lines[l].state = .stopped ∨ s.guardRecords.lines[l].state = .stopping
  rw [state]
  exact down l

/-- A state after GUARD entry against the records of R14: gates, fault flags and notices are what the entry still sets. -/
structure Entered (r t : State) : Prop where
  rest : { t with gates := r.gates, zones := r.zones, notices := r.notices } = r
  zones : ∀ z : ZoneId, { t.zones[z] with faults := r.zones[z].faults } = r.zones[z]
  flag : ∀ (z : ZoneId) (k : FaultKind), t.zones[z].faults.getLsbD k.bit = r.faultPresent z k
  gates : ∀ g : GateId, t.gates[g] = gateLost r.now r.gates[g]
  lost : ∀ g : GateId, (r.gates[g].inUse && r.gates[g].limitLost) = true → t.raised .gate
  commit : t.raised .commit

theorem faultPresent_of_rest {s t : State} (h : { t with gates := s.gates, notices := s.notices } = s) (z : ZoneId)
    (k : FaultKind) : t.faultPresent z k = s.faultPresent z k :=
  (rfl : t.faultPresent z k = { t with gates := s.gates, notices := s.notices }.faultPresent z k).trans
    (congrArg (fun u : State => u.faultPresent z k) h)

theorem Looked.entered {r : State} {v : Work} {l : List GateId} (h : Looked (r.raise .commit).begin v (· ∈ l))
    (all : ∀ g, g ∈ l) : Entered r v.st.refreshAllFaults := by
  have flagged := refreshAllFaults_flagged v.st
  have flag := refreshAllFaults_flag v.st
  generalize v.st.refreshAllFaults = u at flagged flag ⊢
  have rest : { v.st with gates := r.gates, notices := r.notices } = r :=
    congrArg (fun u : State => { u with notices := r.notices }) h.only.rest
  have zones : v.st.zones = r.zones := (congrArg State.zones rest :)
  have gates : u.gates = v.st.gates := (congrArg State.gates flagged.rest :)
  refine ⟨?_, fun z => ?_, fun z k => ?_, fun g => ?_, fun g e => ?_, ?_⟩
  · exact (congrArg (fun u : State => { u with gates := r.gates, zones := r.zones, notices := r.notices })
      flagged.rest).trans ((congrArg (fun u : State => { u with zones := r.zones }) rest).trans rfl)
  · rw [← zones]
    exact flagged.zones z
  · exact (flag z k).trans (faultPresent_of_rest rest z k)
  · rw [gates]
    exact h.lost g (all g)
  · exact flagged.raised _ (h.notice g (all g) e)
  · exact flagged.raised _ (h.only.raised _ (raise_raised r .commit))

theorem enterGuard_entered (s : State) (down : LinesDown s) : Entered s.guardRecords s.enterGuard.st := by
  rw [enterGuard_eq, mod_st]
  exact (enterGuard_looked s down).entered List.mem_finRange

theorem enterGuard_out (s : State) (down : LinesDown s) : ∀ d ∈ s.enterGuard.out, ∃ g, d = .gateMoved g := by
  rw [enterGuard_eq, mod_out]
  exact fun d hd => ((enterGuard_looked s down).out d hd).resolve_left List.not_mem_nil

/-! ## The deliveries of GUARD entry with the table empty -/

theorem foldl_same {β α : Type} {f : β → α → β} (l : List α) (b : β) (h : ∀ a ∈ l, f b a = b) : l.foldl f b = b := by
  induction l with
  | nil => rfl
  | cons a l ih => rw [List.foldl_cons, h a (.head _), ih fun c hc => h c (.tail _ hc)]

/-- A gate that moves re-plans the tracks there are. -/
theorem gateMoved_empty (w : Work) (g : GateId) (h : ∀ i, w.st.track? i = none) : w.gateMoved g = w :=
  foldl_same _ w fun i _ => by rw [h i]

theorem run_gateMoved_empty (n : Nat) (w : Work) (h : ∀ i, w.st.track? i = none) (out : ∀ d ∈ w.out, ∃ g, d = .gateMoved g) :
    (Work.run n w).st = w.st := by
  induction n generalizing w with
  | zero => rfl
  | succ n ih =>
    unfold Work.run
    split
    · rfl
    · rename_i d ds e
      obtain ⟨g, rfl⟩ := out d (e ▸ .head _)
      have still : { w with out := ds }.act (.gateMoved g) = { w with out := ds } := gateMoved_empty _ g h
      rw [still]
      exact ih _ h fun d hd => out d (e ▸ .tail _ hd)

theorem finish_gateMoved_empty (w : Work) (h : ∀ i, w.st.track? i = none) (out : ∀ d ∈ w.out, ∃ g, d = .gateMoved g) :
    w.finish = w.st := run_gateMoved_empty _ w h out

section
variable (s : State)

theorem guardRecords_channel (d : ChanId) :
    s.guardRecords.channels[d] = s.channels[d].guard s.now s.limits.supervision := Vector.getElem_map _ _
theorem guardRecords_airflow (a : AirId) : s.guardRecords.airflows[a] = s.airflows[a].guard s.limits.vStall :=
  Vector.getElem_map _ _
theorem guardRecords_temp (i : TempId) : s.guardRecords.temps[i] = s.temps[i].guard := Vector.getElem_map _ _
theorem guardRecords_line (l : LineId) : s.guardRecords.lines[l] = s.lines[l].guard (s.zoneSetOf l) :=
  Vector.getElem_ofFn _
theorem guardRecords_station (x : StationId) : s.guardRecords.stations[x] = s.stations[x].guard := Vector.getElem_map _ _
theorem guardRecords_gate (g : GateId) : s.guardRecords.gates[g] = s.gates[g].guard s.now := Vector.getElem_map _ _
theorem guardRecords_siren (y : SirenId) : s.guardRecords.sirens[y] = s.sirens[y].guard := Vector.getElem_map _ _

end

/-! ## The conditions behind the fault flags at GUARD entry (R155, R157) -/

theorem guard_channel_not_blind (q : Channel) (now supervision : Nat) : (q.guard now supervision).state ≠ .blind := by
  unfold Channel.guard
  split <;> simp

theorem guard_temp_no_fault (q : Temperature) : (q.guard.inUse && q.guard.state == .sensorFault) = false := by
  unfold Temperature.guard
  split
  · simp
  · rename_i out
    simp [out]

theorem guardRecords_no_detector (s : State) (z : ZoneId) : s.guardRecords.faultPresent z .detector = false := by
  refine (Bool.and_eq_false_iff).mpr (.inr (List.any_eq_false.mpr fun d _ => ?_))
  rw [guardRecords_channel, beq_false_of_ne (guard_channel_not_blind _ _ _), Bool.false_and]
  exact Bool.false_ne_true

theorem guardRecords_no_purge (s : State) (z : ZoneId) : s.guardRecords.faultPresent z .purgeOverdue = false := by
  refine (Bool.and_eq_false_iff).mpr (.inr (List.any_eq_false.mpr fun x _ => ?_))
  have due : decide (Config.debtLimit ≤ s.guardRecords.stations[x].debt) = false := by
    rw [guardRecords_station]
    exact decide_eq_false (Nat.not_le.mpr (by decide : 0 < Config.debtLimit))
  dsimp only
  rw [due, Bool.false_and]
  exact Bool.false_ne_true

theorem guardRecords_no_sensor (s : State) (z : ZoneId) : s.guardRecords.faultPresent z .sensor = false := by
  refine (Bool.and_eq_false_iff).mpr (.inr (Vector.any_eq_false.mpr fun i hi => ?_))
  have record : s.guardRecords.temps[i] = s.temps[i].guard := guardRecords_temp s ⟨i, hi⟩
  rw [record, guard_temp_no_fault, Bool.false_and]
  exact Bool.false_ne_true

theorem guardRecords_station_fault (s : State) (z : ZoneId) : s.guardRecords.faultPresent z .station = true ↔
    ∃ x : StationId, s.stations[x].state = .fault ∧ s.zoneOfPlaced (.station x) = some z := by
  have each : ∀ x : StationId, s.guardRecords.stations[x].state = s.stations[x].state := fun x => by
    rw [guardRecords_station]
    rfl
  have place : ∀ x : StationId, s.guardRecords.zoneOfPlaced (.station x) = s.zoneOfPlaced (.station x) := fun _ => rfl
  unfold State.faultPresent State.stationIn
  simp only [each, place, List.any_eq_true, List.mem_finRange, true_and, Bool.and_eq_true, beq_iff_eq]
  exact and_iff_right rfl

theorem guardRecords_shutter_fault (s : State) (z : ZoneId) : s.guardRecords.faultPresent z .shutter = true ↔
    ∃ h : ShutterId, s.shutters[h].state = .fault ∧ (s.shutters[h].sideA = z ∨ s.shutters[h].sideB = some z) := by
  unfold State.faultPresent
  simp only [Bool.and_eq_true, Vector.any_eq_true, Bool.or_eq_true, beq_iff_eq]
  constructor
  · rintro ⟨_, i, hi, h⟩
    exact ⟨⟨i, hi⟩, h⟩
  · rintro ⟨i, h⟩
    exact ⟨rfl, i.val, i.isLt, h⟩

/-- A gate after the whole of GUARD entry (R14, R129). -/
theorem gateLost_guard (q : Gate) (now : Tick) : gateLost now (q.guard now) =
    if q.inUse = true ∧ (q.state = .toAbort ∨ q.state = .toNormal) then
      { q with timer := some (now + 2 * q.stroke * 1000) }
    else if q.inUse = true ∧ (q.state = .normal ∧ q.normalLimit = false ∨ q.state = .abort ∧ q.abortLimit = false) then
      { q with
        state := .fault, timer := none, faultReason := some .limitLost, diversions := [], stateChanged := some now }
    else q := by
  unfold gateLost Gate.guard Gate.limitLost
  cases use : q.inUse
  · simp [use]
  · cases e : q.state <;> simp [use, e, Gate.timeout, Config.tenth]

/-- Of a zone, GUARD entry changes the fault flags alone. -/
theorem Entered.zone {r t : State} (h : Entered r t) (z : ZoneId) :
    t.zones[z] = { r.zones[z] with faults := t.zones[z].faults } :=
  (congrArg (fun q : Zone => { q with faults := t.zones[z].faults }) (h.zones z) :)

theorem guard_channel_off (q : Channel) (now supervision : Nat) (h : q.type = .off) :
    q.guard now supervision = { q with state := .off, published := 0, publishedErrors := 0, lastAccepted := none } :=
  if_pos h

theorem guard_channel_on (q : Channel) (now supervision : Nat) (h : q.type ≠ .off) :
    q.guard now supervision = { q with
      state := .inService, latch := 0, missed := 0, errors := 0, lastAccepted := none, echoWindow := none,
      receiver := .hunting [], nextPulse := some (now + supervision * 10000), testDrive := none } :=
  if_neg h

theorem guard_gate_lost (q : Gate) (now : Tick) (use : q.inUse = true) (lost : q.limitLost = true) :
    ((q.guard now).inUse && (q.guard now).limitLost) = true ∧ (gateLost now (q.guard now)).state = .fault ∧
      (gateLost now (q.guard now)).faultReason = some .limitLost := by
  have same : q.guard now = q := by
    refine if_neg fun h => ?_
    revert lost h
    unfold Gate.limitLost
    cases q.state <;> simp
  have both : (q.inUse && q.limitLost) = true := by rw [use, lost]; rfl
  rw [same]
  unfold gateLost
  rw [if_pos both]
  exact ⟨both, rfl, rfl⟩

/-- Settles O6: GUARD entry writes the records of R14, and what its deliveries keep is what the statement tells of a table
with tracks; with the table empty they change nothing. -/
theorem walkEntersGuard : Obligations.WalkEntersGuard := by
  intro s hr hm hw passed ordered
  obtain ⟨_, _, _, outside⟩ := ordered
  have down : LinesDown s := outside (by rw [hm]; decide)
  have entered := enterGuard_entered s down
  have kept := finish_kept s.enterGuard
  have empty : (∀ i, s.enterGuard.st.track? i = none) → s.enterGuard.finish = s.enterGuard.st :=
    fun h => finish_gateMoved_empty _ h (enterGuard_out s down)
  refine ⟨s.enterGuard.finish, walkEnd_passed s hr ((walkDue_iff s).mpr ⟨hm, hw⟩) passed, ?_⟩
  generalize s.enterGuard.finish = t at kept empty ⊢
  generalize s.enterGuard.st = w at entered kept empty
  have rest := entered.rest
  have channels : t.channels = s.guardRecords.channels := kept.channels.trans (congrArg State.channels rest :)
  have airflows : t.airflows = s.guardRecords.airflows := kept.airflows.trans (congrArg State.airflows rest :)
  have temps : t.temps = s.guardRecords.temps := kept.temps.trans (congrArg State.temps rest :)
  have lines : w.lines = s.guardRecords.lines := (congrArg State.lines rest :)
  have stations : w.stations = s.guardRecords.stations := (congrArg State.stations rest :)
  have sirens : w.sirens = s.guardRecords.sirens := (congrArg State.sirens rest :)
  have slots : w.slots = s.slots := (congrArg State.slots rest :)
  refine ⟨kept.mode.trans (congrArg State.mode rest :), kept.walkEnd.trans (congrArg State.walkEnd rest :),
    kept.result.trans (congrArg State.result rest :), kept.raised _ entered.commit,
    kept.guardEntry.trans (congrArg State.guardEntry rest :), kept.nextSurvey.trans (congrArg State.nextSurvey rest :),
    kept.now.trans (congrArg State.now rest :), kept.limits.trans (congrArg State.limits rest :),
    kept.segments.trans (congrArg State.segments rest :), kept.nextSeq.trans (congrArg State.nextSeq rest :),
    fun d off => ?_, fun d on => ?_, fun a => ?_, fun i use => ?_, fun l => ?_, fun x => ?_, fun y => ?_,
    fun g use lost => ?_, fun none => ?_⟩
  · rw [channels, guardRecords_channel, guard_channel_off _ _ _ off]
  · rw [channels, guardRecords_channel, guard_channel_on _ _ _ on]
  · rw [airflows, guardRecords_airflow]
    rfl
  · rw [temps, guardRecords_temp]
    exact if_pos use
  · rw [(kept.lines l).zones, (kept.lines l).burst, lines, guardRecords_line]
    exact ⟨rfl, rfl⟩
  · rw [(kept.stations x).debt, (kept.stations x).accumulation, stations, guardRecords_station]
    exact ⟨rfl, rfl⟩
  · rw [(kept.sirens y).groupsSounded, sirens, guardRecords_siren]
    rfl
  · obtain ⟨fell, state, reason⟩ := guard_gate_lost s.gates[g] s.now use lost
    have gate := entered.gates g
    have notice := entered.lost g
    rw [guardRecords_gate] at gate notice
    rw [(kept.gates g).fault, (kept.gates g).faultReason, gate]
    exact ⟨state, reason, kept.raised _ (notice fell)⟩
  · obtain rfl : t = w := empty fun i => (congrArg (fun v : Vector Slot 48 => v[i].track) slots).trans (none i)
    refine ⟨(congrArg State.freeUnits rest :), slots, (congrArg State.shutters rest :), fun x => ?_, fun l => ?_,
      fun y => ?_, fun g => ?_, fun z => ⟨_, entered.zone z, ?_, ?_, ?_, ?_, ?_⟩⟩
    · rw [stations, guardRecords_station]
      rfl
    · rw [lines, guardRecords_line]
      rfl
    · rw [sirens, guardRecords_siren]
      rfl
    · rw [entered.gates g, guardRecords_gate]
      exact gateLost_guard _ _
    · exact (entered.flag z .detector).trans (guardRecords_no_detector s z)
    · exact (entered.flag z .purgeOverdue).trans (guardRecords_no_purge s z)
    · exact (entered.flag z .sensor).trans (guardRecords_no_sensor s z)
    · exact (Bool.eq_iff_iff.mp (entered.flag z .station)).trans (guardRecords_station_fault s z)
    · exact (Bool.eq_iff_iff.mp (entered.flag z .shutter)).trans (guardRecords_shutter_fault s z)

end Sys2Proof.Laws
end

section
/-! PROOFS. The Flow and Temperature Unit: pulses, the records at a gate boundary, and what a boundary brings to the tracks and
zones. -/
namespace Sys2Proof.Laws
open Sys2Proof.Machine

/-! ## Pulses (R39, R45) -/

theorem airflowPulse_counts (s : State) (a : AirId) (h : s.resetLow = false) :
    exec (.airflowPulse a) s = .next { s with
      airflows := updAt s.airflows a fun q => if q.inUse then { q with count := min 65535 (q.count + 1) } else q } :=
  congrArg Host.Outcome.next (if_neg (by simp [h]))

theorem temperaturePulse_measures (s : State) (i : TempId) (width : Nat) (h : s.resetLow = false) :
    exec (.temperaturePulse i width) s = .next { s with
      temps := updAt s.temps i fun q => if q.inUse then { q with pulse := some width } else q } :=
  congrArg Host.Outcome.next (if_neg (by simp [h]))

/-! ## An airflow channel at a gate boundary (R38 to R41) -/

section
variable (q : Airflow) (inGuard : Bool) (vStall : Nat) (now : Tick)

theorem airflow_boundary_unused (use : q.inUse = false) : q.boundary inGuard vStall now = q := by
  simp [Airflow.boundary, use]

/-- A discarded gate forms no sample, in GUARD too (log row 34). -/
theorem airflow_boundary_discards (use : q.inUse = true) (d : q.discard = true) :
    q.boundary inGuard vStall now = { q with count := 0, discard := false } := by
  simp [Airflow.boundary, use, d]

theorem airflow_boundary_samples (use : q.inUse = true) (d : q.discard = false) :
    q.boundary false vStall now = { q with sample := min 600 (q.count * q.scale / 64), count := 0 } := by
  simp [Airflow.boundary, use, d, sampleOf]

/-- In GUARD the sample joins the history, and the stall state follows the smoothed velocity. -/
theorem airflow_boundary_smooths (h : History) (use : q.inUse = true) (d : q.discard = false) (hh : q.history = some h) :
    let sample := min 600 (q.count * q.scale / 64)
    let smoothed := (h.second + h.third + h.newest + sample) / 4
    let stall := stallAfter q.stall smoothed vStall
    q.boundary true vStall now = { q with
      sample := sample, count := 0, smoothed := some smoothed, stall := stall,
      history := some { oldest := h.second, second := h.third, third := h.newest, newest := sample },
      stallChanged := if stall = q.stall then q.stallChanged else some now } := by
  simp only [Airflow.boundary, Airflow.smooth, use, d, hh, Bool.not_true, Bool.false_eq_true, if_false, if_true]
  rfl

end

/-! ## A temperature channel at a gate boundary (R45 to R47) -/

/-- A set built from a condition holds the numbers that meet it. -/
theorem setOf_getLsbD (w : Nat) (p : Nat → Bool) (i : Nat) : (setOf w p).getLsbD i = (decide (i < w) && p i) := by
  have fold : ∀ (l : List Nat) (acc : BitVec w),
      (l.foldl (fun acc i => if p i then acc ||| (1#w <<< i) else acc) acc).getLsbD i =
        (acc.getLsbD i || (decide (i < w) && decide (i ∈ l) && p i)) := by
    intro l
    induction l with
    | nil => simp
    | cons j l ih =>
      intro acc
      rw [List.foldl_cons, ih]
      by_cases e : i = j
      · subst e
        cases hp : p i <;> cases hw : decide (i < w) <;> simp_all
      · have other : (1#w <<< j).getLsbD i = false := by
          simp only [BitVec.getLsbD_shiftLeft, BitVec.getLsbD_one]
          by_cases hij : i < j
          · simp [hij]
          · simp [show i - j ≠ 0 by omega]
        cases hp : p j <;> simp [e, other]
  rw [Machine.setOf, fold]
  by_cases h : i < w <;> simp [h]

theorem judgeFlag_iff (before : Bool) (reading threshold : Int) :
    judgeFlag before reading threshold = true ↔
      if before = true then threshold - 20 < reading else threshold ≤ reading := by
  cases before <;> simp [judgeFlag]

section
variable (s : State) (i : TempId) (q : Temperature)

theorem derateAfter_iff (reading : Int) (y : SirenId) :
    (s.derateAfter i q reading).getLsbD y.val = true ↔ s.sirens[y].link = some i ∧
      if q.derate.getLsbD y.val = true then s.sirens[y].derateAt - 20 < reading else s.sirens[y].derateAt ≤ reading := by
  unfold State.derateAfter
  rw [setOf_getLsbD, ← judgeFlag_iff]
  simp [inSet]

theorem tempBoundary_unused (use : q.inUse = false) : s.tempBoundary i q = q := by
  simp [State.tempBoundary, use]

theorem tempBoundary_reads (w : Nat) (use : q.inUse = true) (d : q.discard = false) (hp : q.pulse = some w)
    (lo : 500 ≤ w) (hi : w ≤ 3400) :
    s.tempBoundary i q = s.tempReads i { q with pulse := none } ((w : Int) - 900) := by
  simp [State.tempBoundary, use, d, hp, readingOf, lo, hi]

theorem tempBoundary_misses (use : q.inUse = true) (d : q.discard = false)
    (hp : ∀ w, q.pulse = some w → w < 500 ∨ 3400 < w) :
    s.tempBoundary i q = s.tempMisses { q with pulse := none } := by
  have invalid : q.pulse.bind readingOf = none := by
    cases e : q.pulse with
    | none => rfl
    | some w =>
      have := hp w e
      simp only [Option.bind_some, readingOf]
      exact if_neg (by omega)
  simp [State.tempBoundary, use, d, invalid]

theorem tempReads_unguarded (reading : Int) (hm : s.mode ≠ .guarded) :
    s.tempReads i q reading = { q with reading := some reading, readingTick := some s.now, missing := 0 } := by
  simp [State.tempReads, hm]

theorem tempReads_guarded (reading : Int) (hm : s.mode = .guarded) :
    s.tempReads i q reading = { q with
      reading := some reading, readingTick := some s.now, missing := 0, state := .reading,
      hot := judgeFlag q.hot reading q.hotAt, alarm := judgeFlag q.alarm reading q.alarmAt,
      fire := judgeFlag q.fire reading q.fireAt, derate := s.derateAfter i q reading } := by
  simp [State.tempReads, hm, State.derateAfter]

theorem tempMisses_unguarded (hm : s.mode ≠ .guarded) :
    s.tempMisses q = { q with missing := min 10 (q.missing + 1) } := by
  simp [State.tempMisses, hm, bump]

/-- The tenth boundary in a row without a valid reading is SENSOR_FAULT. -/
theorem tempMisses_guarded (hm : s.mode = .guarded) :
    s.tempMisses q = { q with
      missing := min 10 (q.missing + 1), state := if 9 ≤ q.missing then .sensorFault else q.state } := by
  have tenth : min 10 (q.missing + 1) = 10 ↔ 9 ≤ q.missing := by omega
  simp [State.tempMisses, hm, bump, tenth]

end

/-! ## The records after a boundary -/

section
variable (s : State)

theorem sampled_airflow (a : AirId) :
    s.sampled.airflows[a] = s.airflows[a].boundary (s.mode == .guarded) s.limits.vStall s.now := Vector.getElem_map _ _

theorem sampled_temp (i : TempId) : s.sampled.temps[i] = s.tempBoundary i s.temps[i] := Vector.getElem_ofFn _

theorem sampled_temp_inUse (i : TempId) : s.sampled.temps[i].inUse = s.temps[i].inUse := by
  rw [sampled_temp]
  exact congrArg Prod.fst (tempBoundary_loaded s i s.temps[i])

theorem sampled_temp_zone (i : TempId) : s.sampled.temps[i].zone = s.temps[i].zone := by
  rw [sampled_temp]
  exact congrArg (fun p => p.2.1) (tempBoundary_loaded s i s.temps[i])

theorem sampleGateBoundary_due (hr : s.resetLow = false) (due : s.nextGate ≤ s.now) :
    exec .sampleGateBoundary s = .next s.gateBoundary.finish :=
  congrArg Host.Outcome.next (event_due s _ _ hr (decide_eq_true due))

/-- Outside GUARD a boundary leaves its records and delivers nothing (R37). -/
theorem gateBoundary_unguarded (hm : s.mode ≠ .guarded) : s.gateBoundary.finish = s.sampled := by
  unfold State.gateBoundary
  rw [if_pos hm, begin_finish]

theorem sampled_airflow_unguarded (hm : s.mode ≠ .guarded) (a : AirId) :
    s.sampled.airflows[a] =
      if s.airflows[a].inUse = false then s.airflows[a]
      else if s.airflows[a].discard = true then { s.airflows[a] with count := 0, discard := false }
      else { s.airflows[a] with sample := min 600 (s.airflows[a].count * s.airflows[a].scale / 64), count := 0 } := by
  rw [sampled_airflow, show (s.mode == .guarded) = false by simpa using hm]
  split
  · rename_i use
    exact airflow_boundary_unused _ _ _ _ use
  · rename_i use
    replace use : s.airflows[a].inUse = true := by simpa using use
    split
    · rename_i d
      exact airflow_boundary_discards _ _ _ _ use d
    · rename_i d
      exact airflow_boundary_samples _ _ _ use (by simpa using d)

theorem sampled_temp_unguarded (hm : s.mode ≠ .guarded) (i : TempId) (use : s.temps[i].inUse = true)
    (d : s.temps[i].discard = false) :
    (∀ w, s.temps[i].pulse = some w → 500 ≤ w → w ≤ 3400 → s.sampled.temps[i] =
      { s.temps[i] with
        reading := some ((w : Int) - 900), readingTick := some s.now, missing := 0, pulse := none }) ∧
    (s.temps[i].pulse = none → s.sampled.temps[i] = { s.temps[i] with missing := min 10 (s.temps[i].missing + 1) }) ∧
    (∀ w, s.temps[i].pulse = some w → w < 500 ∨ 3400 < w → s.sampled.temps[i] =
      { s.temps[i] with missing := min 10 (s.temps[i].missing + 1), pulse := none }) := by
  rw [sampled_temp]
  refine ⟨fun w hp lo hi => ?_, fun hp => ?_, fun w hp out => ?_⟩
  · rw [tempBoundary_reads _ _ _ w use d hp lo hi, tempReads_unguarded _ _ _ _ hm]
  · rw [tempBoundary_misses _ _ _ use d (fun w e => nomatch hp.symm.trans e), tempMisses_unguarded _ _ hm, ← hp]
  · rw [tempBoundary_misses _ _ _ use d (fun v e => Option.some.inj (hp.symm.trans e) ▸ out), tempMisses_unguarded _ _ hm]

theorem sampled_airflow_guarded (hm : s.mode = .guarded) (a : AirId) (h : History) (use : s.airflows[a].inUse = true)
    (d : s.airflows[a].discard = false) (hh : s.airflows[a].history = some h) :
    let sample := min 600 (s.airflows[a].count * s.airflows[a].scale / 64)
    let smoothed := (h.second + h.third + h.newest + sample) / 4
    s.sampled.airflows[a].sample = sample ∧ s.sampled.airflows[a].count = 0 ∧
    s.sampled.airflows[a].history =
      some { oldest := h.second, second := h.third, third := h.newest, newest := sample } ∧
    s.sampled.airflows[a].smoothed = some smoothed ∧
    (s.airflows[a].stall = .flowing →
      s.sampled.airflows[a].stall = if smoothed < s.limits.vStall then .stalled else .flowing) ∧
    (s.airflows[a].stall = .stalled →
      s.sampled.airflows[a].stall = if s.limits.vStall + 5 ≤ smoothed then .flowing else .stalled) := by
  rw [sampled_airflow, hm, show (Mode.guarded == .guarded) = true from rfl, airflow_boundary_smooths _ _ _ h use d hh]
  refine ⟨rfl, rfl, rfl, rfl, fun flowing => ?_, fun stalled => ?_⟩
  · rw [flowing]
    rfl
  · rw [stalled]
    rfl

theorem sampled_temp_reads (hm : s.mode = .guarded) (i : TempId) (w : Nat) (use : s.temps[i].inUse = true)
    (d : s.temps[i].discard = false) (hp : s.temps[i].pulse = some w) (lo : 500 ≤ w) (hi : w ≤ 3400) :
    let r : Int := (w : Int) - 900
    s.sampled.temps[i].reading = some r ∧ s.sampled.temps[i].state = .reading ∧ s.sampled.temps[i].missing = 0 ∧
    (s.sampled.temps[i].hot = true ↔
      if s.temps[i].hot then s.temps[i].hotAt - 20 < r else s.temps[i].hotAt ≤ r) ∧
    (s.sampled.temps[i].alarm = true ↔
      if s.temps[i].alarm then s.temps[i].alarmAt - 20 < r else s.temps[i].alarmAt ≤ r) ∧
    (s.sampled.temps[i].fire = true ↔
      if s.temps[i].fire then s.temps[i].fireAt - 20 < r else s.temps[i].fireAt ≤ r) ∧
    (∀ y : SirenId, s.sampled.temps[i].derate.getLsbD y.val = true ↔ s.sirens[y].link = some i ∧
      if s.temps[i].derate.getLsbD y.val then s.sirens[y].derateAt - 20 < r else s.sirens[y].derateAt ≤ r) := by
  rw [sampled_temp, tempBoundary_reads _ _ _ w use d hp lo hi, tempReads_guarded _ _ _ _ hm]
  exact ⟨rfl, rfl, rfl, judgeFlag_iff _ _ _, judgeFlag_iff _ _ _, judgeFlag_iff _ _ _, derateAfter_iff _ _ _ _⟩

theorem sampled_temp_misses (hm : s.mode = .guarded) (i : TempId) (use : s.temps[i].inUse = true)
    (d : s.temps[i].discard = false) (hp : ∀ w, s.temps[i].pulse = some w → w < 500 ∨ 3400 < w) :
    s.sampled.temps[i] =
      { s.temps[i] with
        missing := min 10 (s.temps[i].missing + 1), pulse := none,
        state := if 9 ≤ s.temps[i].missing then .sensorFault else s.temps[i].state } := by
  rw [sampled_temp, tempBoundary_misses _ _ _ use d hp, tempMisses_guarded _ _ hm]

end

/-! ## Folds in which one place acts -/

/-- What every place but `a` keeps, a fold without `a` keeps. -/
theorem foldl_keeps_away {β α : Type} {f : β → α → β} {P : β → Prop} {l : List α} {a : α} (away : a ∉ l)
    (keep : ∀ b c, c ≠ a → P b → P (f b c)) (b : β) (h : P b) : P (l.foldl f b) := by
  induction l generalizing b with
  | nil => exact h
  | cons c l ih =>
    rw [List.mem_cons, not_or] at away
    exact ih away.2 _ (keep b c (Ne.symm away.1) h)

/-- A fold in which no place before `a` does anything: what `a` brings about, and the places after it keep, holds at the
fold's end. -/
theorem foldl_from_one {β α : Type} {f : β → α → β} {P : β → Prop} {l : List α} {a : α} {b : β} (once : l.Nodup)
    (h : a ∈ l) (idle : ∀ c, c ≠ a → f b c = b) (make : P (f b a)) (keep : ∀ b c, c ≠ a → P b → P (f b c)) :
    P (l.foldl f b) := by
  induction l with
  | nil => cases h
  | cons c l ih =>
    rw [List.nodup_cons] at once
    obtain ⟨new, once⟩ := once
    by_cases e : c = a
    · subst e
      exact foldl_keeps_away new keep _ make
    · rw [List.foldl_cons, idle c e]
      exact ih once ((List.mem_cons.mp h).resolve_left (Ne.symm e))

/-! ## One track in its slot -/

theorem track_updTrack (s : State) (i j : SlotId) (f : Track → Track) :
    (s.updTrack i f).track? j = if j = i then (s.track? j).map f else s.track? j := by
  unfold State.track? State.updTrack
  rw [updSlot_slots]
  rcases updAt_cases s.slots i j fun q => { q with track := q.track.map f } with ⟨e, h⟩ | ⟨e, h⟩
  · rw [h, if_pos e]
  · rw [h, if_neg e]

theorem track_updTrack_same {s : State} {i : SlotId} {k : Track} (f : Track → Track) (h : s.track? i = some k) :
    (s.updTrack i f).track? i = some (f k) := by
  rw [track_updTrack, if_pos rfl, h]
  rfl

theorem updTrack_at {s : State} {i : SlotId} {k : Track} (f : Track → Track) (h : s.track? i = some k) :
    s.updTrack i f = { s with slots := updAt s.slots i fun q => { q with track := some (f k) } } := by
  have track : s.slots[i].track = some k := h
  have slot : { s.slots[i] with track := s.slots[i].track.map f } = { s.slots[i] with track := some (f k) } := by
    rw [track]
    rfl
  exact congrArg (fun v => { s with slots := v })
    (updAt_congr s.slots i (f := fun q => { q with track := q.track.map f })
      (g := fun q => { q with track := some (f k) }) slot)

/-- The track of a slot after deliveries. -/
theorem Kept.track {s t : State} (h : Kept s t) {i : SlotId} {k : Track} (hk : s.track? i = some k) :
    ∃ v, t.track? i = some v ∧ TrackStep k v := by
  have live : (t.track? i).isSome = true := by
    rw [show (t.track? i).isSome = (s.track? i).isSome from (h.slots i).live, hk]
    rfl
  obtain ⟨v, hv⟩ := Option.isSome_iff_exists.mp live
  exact ⟨v, hv, (h.slots i).track k v hk hv⟩

theorem Kept.free {s t : State} (h : Kept s t) {i : SlotId} (hk : s.track? i = none) : t.track? i = none := by
  have live : (t.track? i).isSome = false := by
    rw [show (t.track? i).isSome = (s.track? i).isSome from (h.slots i).live, hk]
    rfl
  simpa using live

theorem reviseServed_slots (w : Work) (f : StationId → List Served → List Served) :
    (w.reviseServed f).st.slots = w.st.slots := by
  refine foldl_keeps (P := fun v : Work => v.st.slots = w.st.slots) (fun v x h => ?_) _ w rfl
  dsimp only
  split
  · exact h
  · rw [push_st]
    exact h

theorem reviseServed_same (w : Work) (f : StationId → List Served → List Served)
    (h : ∀ x, f x w.st.stations[x].served = w.st.stations[x].served) : w.reviseServed f = w :=
  foldl_same _ w fun x _ => if_pos (h x)

/-! ## A track that stalls, and one whose air returns (R61, R63) -/

/-- A track as it enters a stall (R61). -/
def stalledTrack (now : Tick) (k : Track) : Track :=
  { k with
    state := if k.state = .flight then .stalled else k.state, route := cutBack k.route k.current, passes := [],
    stalledSince := some now }

/-- A track as its air returns, before its plan is made afresh (R63). -/
def airedTrack (now : Tick) (k : Track) : Track :=
  { k with state := if k.state = .stalled then .flight else k.state, stalledSince := none, base := now }

section
variable {w : Work} {i : SlotId} {k : Track}

theorem enterStall_eq (h : w.st.track? i = some k) (plans : k.plans = true) :
    w.enterStall i = (w.mod fun s => s.updTrack i (stalledTrack s.now)).withdrawUnopened i := by
  simp only [Work.enterStall, h]
  rw [if_pos plans]
  rfl

theorem enterStall_idle (h : ∀ k, w.st.track? i = some k → k.plans = false) : w.enterStall i = w := by
  unfold Work.enterStall
  split
  · rfl
  · rename_i k hk
    rw [if_neg (by simp [h k hk])]

theorem enterStall_track (h : w.st.track? i = some k) (plans : k.plans = true) :
    (w.enterStall i).st.track? i = some (stalledTrack w.st.now k) := by
  rw [enterStall_eq h plans]
  unfold Work.withdrawUnopened State.track?
  rw [reviseServed_slots]
  exact track_updTrack_same _ h

/-- With every served entry of the track open, a stall withdraws nothing. -/
theorem enterStall_open (h : w.st.track? i = some k) (plans : k.plans = true)
    (opened : ∀ x : StationId, ∀ e ∈ w.st.stations[x].served, e.handle = w.st.handleOf i → e.active = true) :
    w.enterStall i = w.mod fun s => s.updTrack i (stalledTrack s.now) := by
  have handle : (w.mod fun s => s.updTrack i (stalledTrack s.now)).st.handleOf i = w.st.handleOf i := by
    simp [State.handleOf, State.updTrack]
  rw [enterStall_eq h plans]
  refine reviseServed_same _ _ fun x => List.filter_eq_self.mpr fun e he => ?_
  rw [handle]
  by_cases mine : e.handle = w.st.handleOf i
  · simp [opened x e he mine]
  · simp [mine]

theorem recover_eq (h : w.st.track? i = some k) (since : k.stalledSince.isSome = true) :
    w.recover i = (w.mod fun s => s.updTrack i (airedTrack s.now)).takeRoute i (w.st.walkFromStall k.current) := by
  simp only [Work.recover, h]
  rw [if_pos since]
  rfl

theorem recover_idle (h : ∀ k, w.st.track? i = some k → k.stalledSince = none) : w.recover i = w := by
  unfold Work.recover
  split
  · rfl
  · rename_i k hk
    rw [if_neg (by simp [h k hk])]

theorem recover_track (h : w.st.track? i = some k) (since : k.stalledSince.isSome = true) :
    ∃ v, (w.recover i).st.track? i = some v ∧ TrackStep (airedTrack w.st.now k) v := by
  rw [recover_eq h since]
  exact (takeRoute_steps _ _ _).kept.track (track_updTrack_same _ h)

/-- Where no air stands still, a track whose air returns flies on. -/
theorem recover_calm (h : w.st.track? i = some k) (since : k.stalledSince.isSome = true)
    (calm : ∀ seg, w.st.segStalled seg = false) :
    ∃ v, (w.recover i).st.track? i = some v ∧ TrackStep (airedTrack w.st.now k) v ∧ v.stalledSince = none := by
  obtain ⟨v, hv, step⟩ := recover_track h since
  rw [recover_eq h since] at hv ⊢
  obtain ⟨u, hu, none⟩ := (takeRoute_steps (w.mod fun s => s.updTrack i (airedTrack s.now)) _ _).calm calm i _
    (track_updTrack_same _ h) rfl
  obtain rfl := Option.some.inj (hv.symm.trans hu)
  exact ⟨v, hv, step, none⟩

end

theorem plans_iff (k : Track) : k.plans = true ↔ (k.state = .flight ∨ k.state = .escaped) ∧ k.stalledSince = none := by
  simp [Track.plans]

/-- A track that flies and is not stalled is not STALLED after a step that leaves it so. -/
theorem TrackStep.flies {k v : Track} (h : TrackStep k v) (state : k.state ≠ .stalled) (none : v.stalledSince = none) :
    v.state ≠ .stalled := by
  intro e
  have := h.stalls state e
  rw [none] at this
  cases this

/-! ## What a boundary's stall events may do -/

/-- What the stall events of a tick may do to a track, and the deliveries with them: it is planned afresh from that tick or
not at all, and its survived count, coverage and escape stand. -/
structure StallMove (now : Tick) (k v : Track) : Prop where
  base : v.base = k.base ∨ v.base = now
  survived : v.survived = k.survived
  covered : k.covered = true → v.covered = true
  escaped : k.state = .escaped → v.state = .escaped ∧ v.escapeReason = k.escapeReason

theorem StallMove.same (now : Tick) (k : Track) : StallMove now k k := ⟨.inl rfl, rfl, id, fun e => ⟨e, rfl⟩⟩

theorem StallMove.trans {now : Tick} {a b c : Track} (h : StallMove now a b) (k : StallMove now b c) : StallMove now a c where
  base := k.base.elim (fun e => h.base.imp e.trans e.trans) .inr
  survived := k.survived.trans h.survived
  covered := fun e => k.covered (h.covered e)
  escaped := fun e =>
    let ⟨state, reason⟩ := h.escaped e
    ⟨(k.escaped state).1, (k.escaped state).2.trans reason⟩

theorem TrackStep.stallMove {a b : Track} (now : Tick) (h : TrackStep a b) : StallMove now a b :=
  ⟨.inl h.base, h.survived, h.covered, h.escaped⟩

theorem stalledTrack_move (now : Tick) (k : Track) : StallMove now k (stalledTrack now k) :=
  ⟨.inl rfl, rfl, id, fun e => ⟨by simp [stalledTrack, e], rfl⟩⟩

theorem airedTrack_move (now : Tick) (k : Track) : StallMove now k (airedTrack now k) :=
  ⟨.inr rfl, rfl, id, fun e => ⟨by simp [airedTrack, e], rfl⟩⟩

/-- What a boundary leaves alone once its records are sampled, and what it may do to the tracks. -/
structure Stirred (s t : State) : Prop where
  now : t.now = s.now
  mode : t.mode = s.mode
  limits : t.limits = s.limits
  segments : t.segments = s.segments
  channels : t.channels = s.channels
  airflows : t.airflows = s.airflows
  temps : t.temps = s.temps
  nextGate : t.nextGate = s.nextGate
  tracks : ∀ i k, s.track? i = some k → ∃ v, t.track? i = some v ∧ StallMove s.now k v
  free : ∀ i, s.track? i = none → t.track? i = none

theorem Stirred.same (s : State) : Stirred s s :=
  ⟨rfl, rfl, rfl, rfl, rfl, rfl, rfl, rfl, fun _ k h => ⟨k, h, .same _ _⟩, fun _ => id⟩

theorem Stirred.trans {s t u : State} (h : Stirred s t) (k : Stirred t u) : Stirred s u where
  now := k.now.trans h.now
  mode := k.mode.trans h.mode
  limits := k.limits.trans h.limits
  segments := k.segments.trans h.segments
  channels := k.channels.trans h.channels
  airflows := k.airflows.trans h.airflows
  temps := k.temps.trans h.temps
  nextGate := k.nextGate.trans h.nextGate
  tracks := fun i a ha => by
    obtain ⟨b, hb, ab⟩ := h.tracks i a ha
    obtain ⟨c, hc, bc⟩ := k.tracks i b hb
    exact ⟨c, hc, ab.trans (h.now ▸ bc)⟩
  free := fun i e => k.free i (h.free i e)

theorem Kept.stirred {s t : State} (h : Kept s t) : Stirred s t where
  now := h.now
  mode := h.mode
  limits := h.limits
  segments := h.segments
  channels := h.channels
  airflows := h.airflows
  temps := h.temps
  nextGate := h.nextGate
  tracks := fun _ _ hk =>
    let ⟨v, hv, step⟩ := h.track hk
    ⟨v, hv, step.stallMove _⟩
  free := fun _ => h.free

theorem Flagged.slots {s t : State} (h : Flagged s t) : t.slots = s.slots := (congrArg State.slots h.rest :)

theorem Flagged.stirred {s t : State} (h : Flagged s t) : Stirred s t where
  now := (congrArg State.now h.rest :)
  mode := (congrArg State.mode h.rest :)
  limits := (congrArg State.limits h.rest :)
  segments := (congrArg State.segments h.rest :)
  channels := (congrArg State.channels h.rest :)
  airflows := (congrArg State.airflows h.rest :)
  temps := (congrArg State.temps h.rest :)
  nextGate := (congrArg State.nextGate h.rest :)
  tracks := fun i k hk => ⟨k, (congrArg (fun v : Vector Slot 48 => v[i].track) h.slots).trans hk, .same _ _⟩
  free := fun i hk => (congrArg (fun v : Vector Slot 48 => v[i].track) h.slots).trans hk

theorem updTrack_stirred (s : State) (i : SlotId) (f : Track → Track) (h : ∀ k, StallMove s.now k (f k)) :
    Stirred s (s.updTrack i f) where
  now := rfl
  mode := rfl
  limits := rfl
  segments := rfl
  channels := rfl
  airflows := rfl
  temps := rfl
  nextGate := rfl
  tracks := fun j k hk => by
    rw [track_updTrack, hk]
    split
    · exact ⟨f k, rfl, h k⟩
    · exact ⟨k, rfl, .same _ _⟩
  free := fun j hk => by
    rw [track_updTrack, hk]
    split <;> rfl

theorem enterStall_stirred (w : Work) (i : SlotId) : Stirred w.st (w.enterStall i).st := by
  by_cases plans : ∃ k, w.st.track? i = some k ∧ k.plans = true
  · obtain ⟨k, hk, plans⟩ := plans
    rw [enterStall_eq hk plans]
    exact (updTrack_stirred w.st i _ (stalledTrack_move _)).trans
      (withdrawUnopened_steps (w.mod fun s => s.updTrack i (stalledTrack s.now)) i).kept.stirred
  · rw [enterStall_idle fun k hk => by simpa using fun p => plans ⟨k, hk, p⟩]
    exact .same _

theorem recover_stirred (w : Work) (i : SlotId) : Stirred w.st (w.recover i).st := by
  by_cases since : ∃ k, w.st.track? i = some k ∧ k.stalledSince.isSome = true
  · obtain ⟨k, hk, since⟩ := since
    rw [recover_eq hk since]
    exact (updTrack_stirred w.st i _ (airedTrack_move _)).trans
      (takeRoute_steps (w.mod fun s => s.updTrack i (airedTrack s.now)) i _).kept.stirred
  · rw [recover_idle fun k hk => by simpa using fun p => since ⟨k, hk, p⟩]
    exact .same _

/-! ## The stall events of a boundary (R41) -/

/-- A stall event at one slot. -/
def stallTrack (w : Work) (c : AirId) (stall : StallState) (i : SlotId) : Work :=
  (w.st.track? i).elim w fun k =>
    if w.st.segments[k.current].source = some c then (if stall = .stalled then w.enterStall i else w.recover i) else w

theorem stallEvent_eq (w : Work) (c : AirId) (stall : StallState) :
    w.stallEvent c stall = (List.finRange 48).foldl (fun w i => stallTrack w c stall i) w := by
  unfold Work.stallEvent
  congr 1
  funext w i
  unfold stallTrack
  cases w.st.track? i with
  | none => rfl
  | some k => cases stall <;> rfl

section
variable {w : Work} {c : AirId} {stall : StallState} {i : SlotId} {k : Track}

theorem stallTrack_free (h : w.st.track? i = none) : stallTrack w c stall i = w := by
  unfold stallTrack
  rw [h]
  rfl

theorem stallTrack_elsewhere (h : w.st.track? i = some k) (source : w.st.segments[k.current].source ≠ some c) :
    stallTrack w c stall i = w := by
  unfold stallTrack
  rw [h]
  exact if_neg source

theorem stallTrack_stalls (h : w.st.track? i = some k) (source : w.st.segments[k.current].source = some c) :
    stallTrack w c .stalled i = w.enterStall i := by
  unfold stallTrack
  rw [h]
  exact if_pos source

theorem stallTrack_recovers (h : w.st.track? i = some k) (source : w.st.segments[k.current].source = some c)
    (flows : stall ≠ .stalled) : stallTrack w c stall i = w.recover i := by
  unfold stallTrack
  rw [h]
  exact (if_pos source).trans (if_neg flows)

theorem stallTrack_stirred (w : Work) (c : AirId) (stall : StallState) (i : SlotId) :
    Stirred w.st (stallTrack w c stall i).st := by
  unfold stallTrack
  cases w.st.track? i with
  | none => exact .same _
  | some k =>
    dsimp only [Option.elim]
    split
    · split
      · exact enterStall_stirred w i
      · exact recover_stirred w i
    · exact .same _

theorem stallEvent_stirred (w : Work) (c : AirId) (stall : StallState) : Stirred w.st (w.stallEvent c stall).st := by
  rw [stallEvent_eq]
  exact foldl_related (R := fun a b : Work => Stirred a.st b.st) (fun w => .same w.st) .trans
    (fun w i => stallTrack_stirred w c stall i) _ w

/-- A stall event at a table that holds one track. -/
theorem stallEvent_alone (alone : ∀ j, j ≠ i → w.st.track? j = none) :
    w.stallEvent c stall = stallTrack w c stall i := by
  rw [stallEvent_eq]
  refine foldl_from_one (P := (· = stallTrack w c stall i)) (List.nodup_finRange 48) (List.mem_finRange i)
    (fun j hj => stallTrack_free (alone j hj)) rfl ?_
  rintro b j hj rfl
  exact stallTrack_free ((stallTrack_stirred w c stall i).free j (alone j hj))

end

/-- A channel's part in a boundary: its stall event, if its stall state has changed. -/
def stallStep (s : State) (w : Work) (c : AirId) : Work :=
  if s.sampled.airflows[c].stall = s.airflows[c].stall then w else w.stallEvent c s.sampled.airflows[c].stall

/-- The stall events of a boundary, by channel. -/
def stallEvents (s : State) : Work := (List.finRange 16).foldl (stallStep s) s.sampled.begin

theorem stallStep_stirred (s : State) (w : Work) (c : AirId) : Stirred w.st (stallStep s w c).st := by
  unfold stallStep
  split
  · exact .same _
  · exact stallEvent_stirred w c _

theorem stallEvents_stirred (s : State) : Stirred s.sampled (stallEvents s).st :=
  foldl_related (R := fun a b : Work => Stirred a.st b.st) (fun w => .same w.st) .trans (stallStep_stirred s) _ s.sampled.begin

section
variable {s : State} {w : Work} {c : AirId} {i : SlotId} {k : Track}

theorem stallStep_idle (alone : ∀ j, j ≠ i → w.st.track? j = none) (h : w.st.track? i = some k)
    (source : w.st.segments[k.current].source ≠ some c) : stallStep s w c = w := by
  unfold stallStep
  split
  · rfl
  · rw [stallEvent_alone alone, stallTrack_elsewhere h source]

theorem stallStep_stalls (alone : ∀ j, j ≠ i → w.st.track? j = none) (h : w.st.track? i = some k)
    (source : w.st.segments[k.current].source = some c) (before : s.airflows[c].stall ≠ .stalled)
    (after : s.sampled.airflows[c].stall = .stalled) : stallStep s w c = w.enterStall i := by
  unfold stallStep
  rw [after, if_neg (Ne.symm before), stallEvent_alone alone, stallTrack_stalls h source]

theorem stallStep_recovers (alone : ∀ j, j ≠ i → w.st.track? j = none) (h : w.st.track? i = some k)
    (source : w.st.segments[k.current].source = some c) (before : s.airflows[c].stall = .stalled)
    (after : s.sampled.airflows[c].stall = .flowing) : stallStep s w c = w.recover i := by
  unfold stallStep
  rw [after, before, if_neg (by decide), stallEvent_alone alone, stallTrack_recovers h source (by decide)]

/-- A channel that is not STALLED leaves alone a track that is not stalled. -/
theorem stallStep_flowing (alone : ∀ j, j ≠ i → w.st.track? j = none) (h : w.st.track? i = some k)
    (none : k.stalledSince = none) (after : s.sampled.airflows[c].stall ≠ .stalled) : stallStep s w c = w := by
  by_cases source : w.st.segments[k.current].source = some c
  · unfold stallStep
    split
    · rfl
    · rw [stallEvent_alone alone, stallTrack_recovers h source after]
      exact recover_idle fun v hv => Option.some.inj (h.symm.trans hv) ▸ none
  · exact stallStep_idle alone h source

end

section
variable {s : State} {i : SlotId} {k : Track} {c : AirId}

/-- The one track on a channel that becomes STALLED enters a stall, and nothing else happens to it. -/
theorem stallEvents_stall (alone : ∀ j, j ≠ i → s.track? j = none) (h : s.track? i = some k)
    (source : s.segments[k.current].source = some c) (before : s.airflows[c].stall ≠ .stalled)
    (after : s.sampled.airflows[c].stall = .stalled) (plans : k.plans = true) :
    stallEvents s = s.sampled.begin.enterStall i := by
  have other : ∀ b, b ≠ c → s.segments[k.current].source ≠ some b :=
    fun b hb e => hb (Option.some.inj (e.symm.trans source))
  refine foldl_from_one (P := (· = s.sampled.begin.enterStall i)) (List.nodup_finRange 16) (List.mem_finRange c)
    (fun b hb => stallStep_idle (w := s.sampled.begin) alone h (other b hb))
    (stallStep_stalls (w := s.sampled.begin) alone h source before after) ?_
  rintro _ b hb rfl
  have stirred := enterStall_stirred s.sampled.begin i
  refine stallStep_idle (fun j hj => stirred.free j (alone j hj)) (enterStall_track (w := s.sampled.begin) h plans) ?_
  rw [stirred.segments]
  exact other b hb

/-- The one track on a channel that becomes FLOWING is planned afresh from the boundary's tick. -/
theorem stallEvents_replan (alone : ∀ j, j ≠ i → s.track? j = none) (h : s.track? i = some k)
    (source : s.segments[k.current].source = some c) (before : s.airflows[c].stall = .stalled)
    (after : s.sampled.airflows[c].stall = .flowing) (since : k.stalledSince.isSome = true) :
    ∃ v, (stallEvents s).st.track? i = some v ∧ v.base = s.now ∧ StallMove s.now k v := by
  have other : ∀ b, b ≠ c → s.segments[k.current].source ≠ some b :=
    fun b hb e => hb (Option.some.inj (e.symm.trans source))
  have made : (stallEvents s).st.now = s.now ∧
      ∃ v, (stallEvents s).st.track? i = some v ∧ v.base = s.now ∧ StallMove s.now k v := by
    refine foldl_from_one (P := fun w : Work => w.st.now = s.now ∧
        ∃ v, w.st.track? i = some v ∧ v.base = s.now ∧ StallMove s.now k v) (List.nodup_finRange 16) (List.mem_finRange c)
      (fun b hb => stallStep_idle (w := s.sampled.begin) alone h (other b hb)) ?_ ?_
    · rw [stallStep_recovers (w := s.sampled.begin) alone h source before after]
      obtain ⟨v, hv, step⟩ := recover_track (w := s.sampled.begin) h since
      exact ⟨(recover_stirred s.sampled.begin i).now, v, hv, step.base, (airedTrack_move _ _).trans (step.stallMove _)⟩
    · rintro w b - ⟨now, v, hv, base, move⟩
      have stirred := stallStep_stirred s w b
      obtain ⟨u, hu, next⟩ := stirred.tracks i v hv
      rw [now] at next
      exact ⟨stirred.now.trans now, u, hu, next.base.elim (fun e => e.trans base) id, move.trans next⟩
  exact made.2

/-- With no channel STALLED after the boundary, the recovery is all that happens to the track. -/
theorem stallEvents_recover (alone : ∀ j, j ≠ i → s.track? j = none) (h : s.track? i = some k)
    (source : s.segments[k.current].source = some c) (before : s.airflows[c].stall = .stalled)
    (after : s.sampled.airflows[c].stall = .flowing) (since : k.stalledSince.isSome = true)
    (calm : ∀ seg, s.sampled.segStalled seg = false) (flows : ∀ b : AirId, s.sampled.airflows[b].stall ≠ .stalled) :
    stallEvents s = s.sampled.begin.recover i := by
  have other : ∀ b, b ≠ c → s.segments[k.current].source ≠ some b :=
    fun b hb e => hb (Option.some.inj (e.symm.trans source))
  refine foldl_from_one (P := (· = s.sampled.begin.recover i)) (List.nodup_finRange 16) (List.mem_finRange c)
    (fun b hb => stallStep_idle (w := s.sampled.begin) alone h (other b hb))
    (stallStep_recovers (w := s.sampled.begin) alone h source before after) ?_
  rintro _ b hb rfl
  have stirred := recover_stirred s.sampled.begin i
  obtain ⟨v, hv, -, none⟩ := recover_calm (w := s.sampled.begin) h since calm
  exact stallStep_flowing (fun j hj => stirred.free j (alone j hj)) hv none (flows b)

end

/-! ## Causes, levels and SENSOR flags (R47, R48) -/

/-- The flags that a boundary has set arrive in their zones. -/
def arriveTemps (s u : State) : State :=
  (List.finRange 16).foldl (fun u i => u.tempArrivals s.temps[i] s.sampled.temps[i]) u

/-- The SENSOR flag of every zone is set from its channels. -/
def refreshSensors (u : State) : State := (List.finRange 16).foldl (fun u z => u.refreshFault .sensor z) u

/-- A boundary in GUARD up to its levels: the stall events, the arrivals, and the zones by number. -/
def boundaryLevels (s : State) : Work := (List.finRange 16).foldl Work.recompute ((stallEvents s).mod (arriveTemps s))

theorem gateBoundary_guarded (s : State) (hm : s.mode = .guarded) :
    s.gateBoundary = (boundaryLevels s).mod refreshSensors := by
  unfold State.gateBoundary
  exact if_neg (not_not.mpr hm)

/-- A latching cause has arrived in a zone at a level. -/
def Arrived (l : Level) (q : Zone) : Prop := l.val ≤ q.latched.val ∧ q.acknowledged = false

theorem Arrived.kept {l : Level} {a b : Zone} (h : Arrived l a) (k : ZoneKept a b) : Arrived l b :=
  ⟨h.1.trans k.latched, by
    cases e : b.acknowledged with
    | false => rfl
    | true => exact (k.acknowledged e).symm.trans h.2⟩

theorem latch_arrived (l : Level) (q : Zone) : Arrived l (q.latch l) := by
  refine ⟨?_, rfl⟩
  unfold Zone.latch Level.sup Level.atLeast
  dsimp only
  split
  · rename_i above
    exact of_decide_eq_true above
  · exact le_refl _

theorem fire_of_le {l : Level} (h : Level.fire.val ≤ l.val) : l = .fire := by
  cases l
  case fire => rfl
  all_goals exact absurd h (by decide)

section
variable (s u : State) (i : TempId)

theorem tempArrivals_kept (before after : Temperature) : Kept u (u.tempArrivals before after) := by
  have latched : ∀ (v : State) (l : Level), Kept v (v.updZone after.zone (Zone.latch l)) :=
    fun _ _ => updZone_kept _ _ _ (latch_kept _ _)
  unfold State.tempArrivals
  dsimp only
  split <;> split
  · exact (latched _ _).trans (latched _ _)
  · exact latched _ _
  · exact latched _ _
  · exact .same _

theorem tempArrivals_slots (before after : Temperature) : (u.tempArrivals before after).slots = u.slots := by
  unfold State.tempArrivals
  dsimp only
  split <;> split <;> rfl

theorem tempArrivals_idle (before : Temperature) : u.tempArrivals before before = u := by
  simp [State.tempArrivals]

/-- A zone as one arrival leaves it. -/
theorem updZone_latch_arrived (z : ZoneId) (l : Level) : Arrived l (u.updZone z (Zone.latch l)).zones[z] := by
  rw [show (u.updZone z (Zone.latch l)).zones[z] = u.zones[z].latch l from updAt_same u.zones z _]
  exact latch_arrived l _

theorem tempArrivals_alarm {before after : Temperature} {z : ZoneId} (hz : after.zone = z) (set : after.alarm = true)
    (clear : before.alarm = false) : Arrived .alarm (u.tempArrivals before after).zones[z] := by
  subst hz
  have appears : (after.alarm && !before.alarm) = true := by simp [set, clear]
  unfold State.tempArrivals
  rw [appears]
  dsimp only [if_true]
  split
  · exact (updZone_latch_arrived u _ _).kept ((updZone_kept _ _ _ (latch_kept _ _)).zones _)
  · exact updZone_latch_arrived u _ _

theorem tempArrivals_fire {before after : Temperature} {z : ZoneId} (hz : after.zone = z) (set : after.fire = true)
    (clear : before.fire = false) : Arrived .fire (u.tempArrivals before after).zones[z] := by
  subst hz
  unfold State.tempArrivals
  dsimp only
  rw [if_pos (by simp [set, clear])]
  exact updZone_latch_arrived _ _ _

/-- What one channel's arrival brings to a zone stands after the arrivals of all. -/
theorem arriveTemps_arrived {l : Level} {z : ZoneId}
    (h : ∀ v : State, Arrived l (v.tempArrivals s.temps[i] s.sampled.temps[i]).zones[z]) :
    Arrived l (arriveTemps s u).zones[z] := by
  unfold arriveTemps
  refine foldl_reaches (P := fun v : State => Arrived l v.zones[z]) (fun v j a => ?_) (fun v => ?_) (List.mem_finRange i) u
  · exact a.kept ((tempArrivals_kept v s.temps[j] s.sampled.temps[j]).zones z)
  · exact h v

theorem arriveTemps_kept : Kept u (arriveTemps s u) := by
  unfold arriveTemps
  exact foldl_related (R := Kept) .same .trans (fun v j => tempArrivals_kept v s.temps[j] s.sampled.temps[j]) _ u

theorem arriveTemps_slots : (arriveTemps s u).slots = u.slots := by
  unfold arriveTemps
  exact foldl_keeps (P := fun v : State => v.slots = u.slots) (fun v _ h => (tempArrivals_slots v _ _).trans h) _ u rfl

theorem boundaryLevels_kept : Kept (arriveTemps s (stallEvents s).st) (boundaryLevels s).st := by
  rw [← mod_st (stallEvents s) (arriveTemps s)]
  unfold boundaryLevels
  generalize (stallEvents s).mod (arriveTemps s) = w
  exact foldl_related (R := fun a b : Work => Kept a.st b.st) (fun w => .same w.st) .trans recompute_kept _ w

theorem boundaryLevels_slots : (boundaryLevels s).st.slots = (stallEvents s).st.slots := by
  have arrived : ((stallEvents s).mod (arriveTemps s)).st.slots = (stallEvents s).st.slots := by
    rw [mod_st, arriveTemps_slots]
  unfold boundaryLevels
  generalize (stallEvents s).mod (arriveTemps s) = v at arrived ⊢
  exact foldl_keeps (P := fun w : Work => w.st.slots = (stallEvents s).st.slots)
    (fun w z h => (recompute_slots w z).trans h) _ v arrived

theorem refreshSensors_flagged : Flagged u (refreshSensors u) := by
  unfold refreshSensors
  exact foldl_related (R := Flagged) .same .trans (fun v z => refreshFault_flagged v .sensor z) _ u

theorem refreshSensors_stands (z : ZoneId) : FlagStands (refreshSensors u) z .sensor := by
  unfold refreshSensors
  exact foldl_reaches (P := fun v => FlagStands v z .sensor) (fun _ y h => h.refreshFault .sensor y)
    (fun v => refreshFault_stands v .sensor z) (List.mem_finRange z) u

/-- A zone's SENSOR condition: a channel in use of it is in SENSOR_FAULT (R47). -/
theorem faultPresent_sensor (z : ZoneId) (hm : s.mode = .guarded) : s.faultPresent z .sensor = true ↔
    ∃ i : TempId, s.temps[i].inUse = true ∧ s.temps[i].state = .sensorFault ∧ s.temps[i].zone = z := by
  simp only [State.faultPresent, hm, BEq.rfl, Bool.true_and, Vector.any_eq_true]
  constructor
  · rintro ⟨j, hj, h⟩
    exact ⟨⟨j, hj⟩, by simpa [and_assoc] using h⟩
  · rintro ⟨i, h⟩
    exact ⟨i, i.isLt, by simpa [and_assoc] using h⟩

/-- A flag that stands as its condition does is not touched. -/
theorem refreshFault_idle (z : ZoneId) (clear : s.zones[z].faults.getLsbD 4 = false)
    (absent : s.faultPresent z .sensor = false) : s.refreshFault .sensor z = s := by
  have same : ∀ v : BitVec 5, v.getLsbD 4 = false → v &&& ~~~(1#5 <<< FaultKind.sensor.bit) = v := by decide
  unfold State.refreshFault
  rw [absent]
  exact if_pos (same _ clear)

theorem recompute_idle (w : Work) (z : ZoneId) (h : w.st.zones[z].level = w.st.zones[z].computed) : w.recompute z = w :=
  if_pos h

end

/-! ## A whole boundary in GUARD -/

section
variable (s : State) (hm : s.mode = .guarded)
include hm

theorem gateBoundary_flagged : Flagged (boundaryLevels s).st s.gateBoundary.st := by
  rw [gateBoundary_guarded s hm, mod_st]
  exact refreshSensors_flagged (boundaryLevels s).st

theorem gateBoundary_closed : Stirred (stallEvents s).st s.gateBoundary.st :=
  ((arriveTemps_kept s _).trans (boundaryLevels_kept s)).stirred.trans (gateBoundary_flagged s hm).stirred

/-- What a boundary does once its records are sampled. -/
theorem gateBoundary_stirred : Stirred s.sampled s.gateBoundary.finish :=
  ((stallEvents_stirred s).trans (gateBoundary_closed s hm)).trans (finish_kept _).stirred

theorem gateBoundary_track? (i : SlotId) : s.gateBoundary.st.track? i = (stallEvents s).st.track? i :=
  congrArg (fun v : Vector Slot 48 => v[i].track) ((gateBoundary_flagged s hm).slots.trans (boundaryLevels_slots s))

/-- A track after the stall events, seen once everything is delivered. -/
theorem gateBoundary_track {i : SlotId} {v : Track} (h : (stallEvents s).st.track? i = some v) :
    ∃ u, s.gateBoundary.finish.track? i = some u ∧ TrackStep v u :=
  (finish_kept _).track ((gateBoundary_track? s hm i).trans h)

theorem gateBoundary_arrived {l : Level} {z : ZoneId} (h : Arrived l (arriveTemps s (stallEvents s).st).zones[z]) :
    Arrived l s.gateBoundary.finish.zones[z] := by
  have leveled := h.kept ((boundaryLevels_kept s).zones z)
  have flagged := (gateBoundary_flagged s hm).zones z
  have latched : s.gateBoundary.st.zones[z].latched = (boundaryLevels s).st.zones[z].latched :=
    (congrArg Zone.latched flagged :)
  have acknowledged : s.gateBoundary.st.zones[z].acknowledged = (boundaryLevels s).st.zones[z].acknowledged :=
    (congrArg Zone.acknowledged flagged :)
  have before : Arrived l s.gateBoundary.st.zones[z] := by
    unfold Arrived
    rwa [latched, acknowledged]
  exact before.kept ((finish_kept _).zones z)

/-- An ALARM or FIRE flag that a boundary sets has arrived in the channel's zone (R48). -/
theorem gateBoundary_temp_arrives (i : TempId) :
    (s.sampled.temps[i].alarm = true → s.temps[i].alarm = false →
      Arrived .alarm s.gateBoundary.finish.zones[s.temps[i].zone]) ∧
    (s.sampled.temps[i].fire = true → s.temps[i].fire = false →
      Arrived .fire s.gateBoundary.finish.zones[s.temps[i].zone]) := by
  have zone := sampled_temp_zone s i
  exact ⟨fun set clear => gateBoundary_arrived s hm (arriveTemps_arrived s _ i fun v => tempArrivals_alarm v zone set clear),
    fun set clear => gateBoundary_arrived s hm (arriveTemps_arrived s _ i fun v => tempArrivals_fire v zone set clear)⟩

theorem gateBoundary_sensor (z : ZoneId) : s.gateBoundary.finish.zones[z].faults.getLsbD 4 = true ↔
    ∃ i : TempId, s.temps[i].inUse = true ∧ s.gateBoundary.finish.temps[i].state = .sensorFault ∧
      s.temps[i].zone = z := by
  have stirred := gateBoundary_stirred s hm
  have kept := finish_kept s.gateBoundary
  have stands : FlagStands s.gateBoundary.st z .sensor := by
    rw [gateBoundary_guarded s hm, mod_st]
    exact refreshSensors_stands (boundaryLevels s).st z
  rw [(kept.zones z).sensor, show s.gateBoundary.st.zones[z].faults.getLsbD 4 = _ from stands,
    faultPresent_sensor _ _ (kept.mode.symm.trans (stirred.mode.trans hm)), ← kept.temps, stirred.temps]
  simp only [sampled_temp_inUse, sampled_temp_zone]

/-- A boundary at which no temperature channel is in use, every level stands as computed and no SENSOR flag stands, brings
the stall events alone. -/
theorem gateBoundary_stalls_only (unused : ∀ j : TempId, s.temps[j].inUse = false)
    (zones : (stallEvents s).st.zones = s.zones) (out : (stallEvents s).out = []) (levels : s.levelsComputed)
    (clear : ∀ z : ZoneId, s.zones[z].faults.getLsbD 4 = false) : s.gateBoundary.finish = (stallEvents s).st := by
  have stirred := stallEvents_stirred s
  have arrive : arriveTemps s (stallEvents s).st = (stallEvents s).st :=
    foldl_same _ _ fun j _ => by
      rw [sampled_temp, tempBoundary_unused _ _ _ (unused j)]
      exact tempArrivals_idle _ _
  have level : boundaryLevels s = stallEvents s := by
    unfold boundaryLevels Work.mod
    rw [arrive]
    refine foldl_same _ (stallEvents s) fun z _ => recompute_idle _ _ ?_
    rw [zones]
    exact levels z
  have sensors : refreshSensors (stallEvents s).st = (stallEvents s).st := by
    refine foldl_same _ _ fun z _ => refreshFault_idle _ z (by rw [zones]; exact clear z) ?_
    rw [Bool.eq_false_iff, Ne, faultPresent_sensor _ _ (stirred.mode.trans hm), stirred.temps]
    rintro ⟨j, use, -⟩
    rw [sampled_temp_inUse, unused j] at use
    cases use
  have closed : s.gateBoundary = stallEvents s := by
    rw [gateBoundary_guarded s hm, level]
    unfold Work.mod
    rw [sensors]
  rw [closed, finish_none _ out]

end

/-! ## The one track of the table at a boundary (R41, R61, R63) -/

section
variable {s : State} {i : SlotId} {k : Track} {c : AirId} (hm : s.mode = .guarded) (h : s.track? i = some k)
  (alone : ∀ j, j ≠ i → s.track? j = none) (source : s.segments[k.current].source = some c)
include hm h alone source

/-- A track whose channel becomes STALLED enters a stall at the boundary, and keeps its plan base. -/
theorem boundary_stalls (before : s.airflows[c].stall ≠ .stalled) (after : s.sampled.airflows[c].stall = .stalled)
    (plans : k.plans = true) :
    ∃ v : Track, s.gateBoundary.finish.track? i = some v ∧ v.stalledSince = some s.now ∧ v.base = k.base ∧
      (k.state = .flight → v.state = .stalled) ∧
      (k.state = .escaped → v.state = .escaped ∧ v.escapeReason = k.escapeReason) := by
  have stalled := enterStall_track (w := s.sampled.begin) h plans
  rw [← stallEvents_stall alone h source before after plans] at stalled
  obtain ⟨v, hv, step⟩ := gateBoundary_track s hm stalled
  exact ⟨v, hv, step.since rfl, step.base, fun flight => step.stalled (if_pos flight),
    fun escaped => step.escaped ((if_neg (by rw [escaped]; decide)).trans escaped)⟩

/-- With nothing else to do at the boundary, the stall of the track is all that it brings. -/
theorem boundary_stalls_only (before : s.airflows[c].stall ≠ .stalled) (after : s.sampled.airflows[c].stall = .stalled)
    (plans : k.plans = true) (unused : ∀ j : TempId, s.temps[j].inUse = false) (levels : s.levelsComputed)
    (clear : ∀ z : ZoneId, s.zones[z].faults.getLsbD 4 = false)
    (opened : ∀ x : StationId, ∀ e ∈ s.stations[x].served, e.handle = s.handleOf i → e.active = true) :
    s.gateBoundary.finish = s.sampled.updTrack i (stalledTrack s.now) := by
  have events : stallEvents s = s.sampled.begin.mod fun s => s.updTrack i (stalledTrack s.now) :=
    (stallEvents_stall alone h source before after plans).trans (enterStall_open (w := s.sampled.begin) h plans opened)
  rw [gateBoundary_stalls_only s hm unused (by rw [events]; rfl) (by rw [events]; rfl) levels clear, events]
  rfl

/-- A stalled track whose channel becomes FLOWING is planned afresh from the boundary. -/
theorem boundary_recovers (before : s.airflows[c].stall = .stalled) (after : s.sampled.airflows[c].stall = .flowing)
    (since : k.stalledSince ≠ none) :
    ∃ v : Track, s.gateBoundary.finish.track? i = some v ∧ v.base = s.now ∧ StallMove s.now k v ∧
      ((∀ b : AirId, s.sampled.airflows[b].stall ≠ .stalled) →
        v.stalledSince = none ∧ (k.state = .stalled → v.state ≠ .stalled)) := by
  replace since : k.stalledSince.isSome = true := Option.isSome_iff_ne_none.mpr since
  obtain ⟨u, hu, base, move⟩ := stallEvents_replan alone h source before after since
  obtain ⟨v, hv, step⟩ := gateBoundary_track s hm hu
  refine ⟨v, hv, step.base.trans base, move.trans (step.stallMove _), fun flows => ?_⟩
  have calm : ∀ seg, s.sampled.segStalled seg = false := by
    intro seg
    unfold State.segStalled
    split
    · rfl
    · simpa using flows _
  have events := stallEvents_recover alone h source before after since calm flows
  obtain ⟨r, hr, aired, none⟩ := recover_calm (w := s.sampled.begin) h since calm
  rw [← events, hu] at hr
  obtain rfl := Option.some.inj hr
  have stirred := (stallEvents_stirred s).trans (gateBoundary_closed s hm)
  have still : ∀ seg, s.gateBoundary.st.segStalled seg = false := by
    intro seg
    have quiet := calm seg
    unfold State.segStalled at quiet ⊢
    rwa [stirred.segments, stirred.airflows]
  obtain ⟨y, hy, free⟩ := (finish_steps s.gateBoundary).calm still i u ((gateBoundary_track? s hm i).trans hu) none
  obtain rfl := Option.some.inj (hv.symm.trans hy)
  have flies : (airedTrack s.now k).state ≠ .stalled := by
    unfold airedTrack
    dsimp only
    split
    · decide
    · assumption
  exact ⟨free, fun _ => (aired.trans step).flies flies free⟩

end

/-- A route cut back by a stall is the entry of the current segment. -/
theorem cutBack_entry (route : List RouteItem) (seg : SegId) :
    ∃ r, cutBack route seg = [r] ∧ (∃ m, r.item = .entry m) ∧ r.seg = seg ∧ r.conds = [] := by
  unfold cutBack
  split
  · rename_i r found
    have there := List.find?_some found
    simp only [Bool.and_eq_true, beq_iff_eq, List.isEmpty_iff] at there
    obtain ⟨⟨entry, here⟩, plain⟩ := there
    refine ⟨r, rfl, ?_, here, plain⟩
    unfold Item.isEntry at entry
    split at entry
    · rename_i m e
      exact ⟨m, e⟩
    · cases entry
  · exact ⟨_, rfl, ⟨none, rfl⟩, rfl, rfl⟩

/-- Settles O28: outside GUARD a boundary is its sampled records; in GUARD its stall events, arrivals and flags are followed
one after the other, and the deliveries keep what they bring. -/
theorem inputPulsesAndGates : Obligations.InputPulsesAndGates := by
  refine ⟨airflowPulse_counts, temperaturePulse_measures, fun s hr due hm => ?_, fun s hr due hm => ?_⟩
  · refine ⟨s.sampled, ?_, rfl, sampled_airflow_unguarded s hm, sampled_temp_unguarded s hm⟩
    rw [sampleGateBoundary_due s hr due, gateBoundary_unguarded s hm]
  · have stirred := gateBoundary_stirred s hm
    have airflows := stirred.airflows
    have temps := stirred.temps
    refine ⟨s.gateBoundary.finish, sampleGateBoundary_due s hr due, stirred.nextGate, stirred.now, stirred.mode.trans hm,
      stirred.limits, stirred.segments, stirred.channels, ?_, ?_, ?_, gateBoundary_sensor s hm, ?_⟩
    · rw [airflows]
      exact sampled_airflow_guarded s hm
    · intro i w use d hp lo hi
      obtain ⟨alarm, fire⟩ := gateBoundary_temp_arrives s hm i
      obtain ⟨reading, state, missing, hotFlag, alarmFlag, fireFlag, derate⟩ := sampled_temp_reads s hm i w use d hp lo hi
      rw [temps]
      exact ⟨reading, state, missing, hotFlag, alarmFlag, fireFlag, derate, alarm,
        fun set clear => (fire set clear).imp_left fire_of_le⟩
    · rw [temps]
      exact sampled_temp_misses s hm
    · intro c i k hk alone source
      rw [airflows]
      refine ⟨fun before after none state => ?_, fun before after since => ?_⟩
      · have plans : k.plans = true := (plans_iff k).mpr ⟨state, none⟩
        refine ⟨boundary_stalls hm hk alone source before after plans, fun unused levels clear opened => ?_⟩
        obtain ⟨r, cut, entry, seg, conds⟩ := cutBack_entry k.route k.current
        refine ⟨r, entry, seg, conds, ?_⟩
        rw [temps, boundary_stalls_only hm hk alone source before after plans unused levels clear opened, ← cut]
        exact updTrack_at (s := s.sampled) _ hk
      · obtain ⟨v, hv, base, move, calm⟩ := boundary_recovers hm hk alone source before after since
        exact ⟨v, hv, base, move.survived, move.covered, move.escaped, calm⟩

end Sys2Proof.Laws
end

section
/-! PROOFS. The Track Table at the panel link: the handle of a track command, LIST TRACKS with the length of a track record, and
ANNOTATE TRACK. -/
namespace Sys2Proof.Laws
open Sys2Proof.Machine

/-! ## The handle judgement (R53) -/

section
variable {s : State} {i : SlotId} {k : Track} {slot : Nat} {gen : BitVec 8}

theorem liveTrack_live (hs : slot = i.val) (hk : s.track? i = some k) (hg : s.slots[i].gen = gen) :
    liveTrack s slot gen = .ok (i, k) := by
  have track : s.slots[i].track = some k := hk
  unfold liveTrack
  rw [bind_of_ok (instOf_ok.mpr hs)]
  simp only [track, hg, BEq.rfl, if_true]

theorem liveTrack_noSlot (h : 48 ≤ slot) : liveTrack s slot gen = .error (.bare .noSuch) :=
  bind_of_error ((instOf_judges 48 slot).noSuch h)

theorem liveTrack_stale (hs : slot = i.val) (h : s.slots[i].track = none ∨ s.slots[i].gen ≠ gen) :
    liveTrack s slot gen = .error (.bare .stale) := by
  unfold liveTrack
  rw [bind_of_ok (instOf_ok.mpr hs)]
  split
  · rfl
  · rename_i v hv
    have other : s.slots[i].gen ≠ gen := h.resolve_left fun free => nomatch free.symm.trans hv
    exact if_neg (other ∘ eq_of_beq)

end

/-- The slot of a target is its high byte. -/
theorem targetSlot_eq (t : Half) : targetSlot t = (t >>> 8).toNat := by
  rw [BitVec.toNat_ushiftRight, Nat.shiftRight_eq_div_pow]
  rfl

/-! ## LIST TRACKS (R77, log row 22) -/

section
variable {s : State} {t : Half} {zone mask : Byte} {i : SlotId} {k : Track}

theorem listStart_first (s : State) : s.listStart 0xFFFF = .ok none := rfl

/-- A target that names a slot of the table is not FIRST. -/
theorem target_ne_first (hs : (t >>> 8).toNat = i.val) : t ≠ 0xFFFF := by
  rintro rfl
  have := i.isLt
  rw [← hs] at this
  exact absurd this (by decide)

theorem listStart_handle (h : t ≠ 0xFFFF) :
    s.listStart t = liveTrack s (targetSlot t) (targetGen t) >>= fun p => .ok (some (s.ageOf p.2)) := if_neg h

theorem listStart_live (hs : (t >>> 8).toNat = i.val) (hk : s.slots[i].track = some k) (hg : s.slots[i].gen = t.setWidth 8) :
    s.listStart t = .ok (some (s.ageOf k)) := by
  rw [listStart_handle (target_ne_first hs)]
  exact bind_of_ok (liveTrack_live ((targetSlot_eq t).trans hs) hk hg)

theorem listStart_stale (hs : (t >>> 8).toNat = i.val) (h : s.slots[i].track = none ∨ s.slots[i].gen ≠ t.setWidth 8) :
    s.listStart t = .error (.bare .stale) := by
  rw [listStart_handle (target_ne_first hs)]
  exact bind_of_error (liveTrack_stale ((targetSlot_eq t).trans hs) h)

theorem listStart_noSlot (h : t ≠ 0xFFFF) (hs : 48 ≤ (t >>> 8).toNat) : s.listStart t = .error (.bare .noSuch) := by
  rw [listStart_handle h]
  exact bind_of_error (liveTrack_noSlot (targetSlot_eq t ▸ hs))

/-- A start handle that is refused answers before the zone filter is read. -/
theorem listTracks_badStart {r : Reply} (h : s.listens) (hm : s.mode ≠ .committing) (hr : s.listStart t = .error r) :
    exec (.listTracks t [zone, mask]) s = .next (s.replyWith r) :=
  request_refused h rfl (fun e => nomatch e) <|
    (bind_of_ok (takenUnlessCommitting_of_ne hm)).trans (bind_of_error hr)

theorem listTracks_badZone {start : Option Nat} (h : s.listens) (hm : s.mode ≠ .committing) (hr : s.listStart t = .ok start)
    (lo : 16 ≤ zone.toNat) (hi : zone ≠ 255) :
    exec (.listTracks t [zone, mask]) s = .next (s.replyWith (.bare .noSuch)) := by
  have word : zone.toNat ≠ 255 := fun e => hi (BitVec.eq_of_toNat_eq e)
  exact request_refused h rfl (fun e => nomatch e) <|
    (bind_of_ok (takenUnlessCommitting_of_ne hm)).trans <| (bind_of_ok hr).trans <|
      bind_of_error ((instOrWord_judges 16 zone.toNat).noSuch ⟨lo, word⟩)

theorem listTracks_page {z : Option ZoneId} {start : Option Nat} (h : s.listens) (hm : s.mode ≠ .committing)
    (hz : instOrWord 16 zone.toNat = .ok z) (hr : s.listStart t = .ok start) :
    exec (.listTracks t [zone, mask]) s =
      let found := (s.matching z mask).filter fun p => start.all fun age => decide (p.2 < age)
      .next (s.replyWith (.ok (u8 (found.take 32).length ++ u8 (decide (32 < found.length)).toNat ++
        (found.take 32).flatMap fun p => handleField (s.handleOf p.1)))) :=
  request_answer h rfl (fun e => nomatch e) <|
    (bind_of_ok (takenUnlessCommitting_of_ne hm)).trans <| (bind_of_ok hr).trans (bind_of_ok hz)

end

theorem mem_matching (s : State) (z : Option ZoneId) (mask : Byte) (i : SlotId) (age : Nat) :
    (i, age) ∈ s.matching z mask ↔
      ∃ k, s.track? i = some k ∧ mask.getLsbD k.state.code = true ∧ age = s.ageOf k ∧
        ∀ w, z = some w → s.segments[k.current].zone = w := by
  have filter : ∀ k : Track, z.all (fun w => s.zoneOfTrack k == w) = true ↔
      ∀ w, z = some w → s.segments[k.current].zone = w := by
    intro k
    cases z <;> simp [State.zoneOfTrack]
  unfold State.matching
  rw [(sortAfter_perm _ _).mem_iff, List.mem_filterMap]
  constructor
  · rintro ⟨j, -, found⟩
    split at found
    · cases found
    · rename_i k hk
      split at found
      · rename_i fits
        obtain ⟨rfl, rfl⟩ := Prod.mk.inj (Option.some.inj found)
        rw [Bool.and_eq_true, filter] at fits
        exact ⟨k, hk, fits.1, rfl, fits.2⟩
      · cases found
  · rintro ⟨k, hk, masked, rfl, fits⟩
    refine ⟨i, List.mem_finRange i, ?_⟩
    simp only [hk]
    exact if_pos (Bool.and_eq_true _ _ ▸ ⟨masked, (filter k).mpr fits⟩)

theorem insertAfter_sorted {α : Type} (key : α → Nat) (x : α) {l : List α} (h : l.Pairwise fun a b => key a ≤ key b) :
    (insertAfter key x l).Pairwise fun a b => key a ≤ key b := by
  induction l with
  | nil => exact List.pairwise_singleton _ _
  | cons y ys ih =>
    obtain ⟨least, rest⟩ := List.pairwise_cons.mp h
    unfold insertAfter
    split
    · rename_i lt
      refine List.pairwise_cons.mpr ⟨fun a ha => ?_, h⟩
      rcases List.mem_cons.mp ha with rfl | ha
      · exact lt.le
      · exact lt.le.trans (least a ha)
    · rename_i ge
      refine List.pairwise_cons.mpr ⟨fun a ha => ?_, ih rest⟩
      rcases List.mem_cons.mp ((insertAfter_perm key x ys).mem_iff.mp ha) with rfl | ha
      · exact not_lt.mp ge
      · exact least a ha

theorem sortAfter_sorted {α : Type} (key : α → Nat) (l : List α) :
    (sortAfter key l).Pairwise fun a b => key a ≤ key b :=
  foldl_keeps (P := List.Pairwise fun a b => key a ≤ key b) (fun _ x h => insertAfter_sorted key x h) l [] .nil

/-- An age is a 32-bit number, so ascending complements are descending ages. -/
theorem matching_oldest_first (s : State) (z : Option ZoneId) (mask : Byte) :
    (s.matching z mask).Pairwise fun p q => q.2 ≤ p.2 := by
  refine (sortAfter_sorted (fun p : SlotId × Nat => 4294967296 - p.2) _).imp_of_mem fun {p q} hp _ sorted => ?_
  obtain ⟨k, -, -, age, -⟩ := (mem_matching s z mask p.1 p.2).mp hp
  have small : p.2 < 4294967296 := age ▸ (s.nextSeq - k.seq).isLt
  omega

/-! ## The length of a track record (R192) -/

theorem u8_length (n : Nat) : (u8 n).length = 1 := rfl
theorem u32_length (n : Nat) : (u32 n).length = 4 := rfl

theorem flatMap_length_const {α : Type} {f : α → List Byte} {n : Nat} {l : List α} (h : ∀ a ∈ l, (f a).length = n) :
    (l.flatMap f).length = n * l.length := by
  induction l with
  | nil => rfl
  | cons a l ih =>
    obtain ⟨first, rest⟩ := List.forall_mem_cons.mp h
    rw [List.flatMap_cons, List.length_append, first, ih rest, List.length_cons]
    ring

theorem endField_length {route : List RouteItem} {r : RouteItem} (h : r ∈ endsOf route) : (endField r).length = 3 := by
  have terminal := (List.mem_filter.mp h).2
  unfold endField
  split
  · rename_i kind marker resolved _
    cases marker <;> rfl
  · rename_i other
    split at terminal
    · rename_i e
      exact absurd e (other _ _ _)
    · cases terminal

/-- A plan entry is a point of its route, which has joined. -/
theorem mem_planOf {route : List RouteItem} {p : Nat × RouteItem} (h : p ∈ planOf route) :
    route[p.1]? = some p.2 ∧ p.2.isPoint = true ∧ p.2.joined = true := by
  obtain ⟨point, joined⟩ := List.mem_filter.mp h
  obtain ⟨listed, isPoint⟩ := List.mem_filter.mp ((sortAfter_perm _ _).mem_iff.mp point)
  obtain ⟨q, hq, rfl⟩ := List.mem_map.mp listed
  exact ⟨List.mem_zipIdx_iff_getElem?.mp hq, isPoint, joined⟩

theorem entryField_length {r : RouteItem} (h : r.isPoint = true) : (entryField r).length = 10 := by
  unfold entryField
  cases e : r.item with
  | entry via =>
    rw [RouteItem.isPoint, e] at h
    cases h
  | station x => rfl
  | detector d => rfl
  | gate g => rfl
  | terminal kind marker resolved => rfl

theorem trackRecord_length (s : State) (i : SlotId) (k : Track) :
    (s.trackRecord i k).length = 38 + 3 * (endsOf k.route).length + 10 * (planOf k.route).length := by
  have ends := flatMap_length_const fun r hr => endField_length (route := k.route) (r := r) hr
  have plan := flatMap_length_const (f := fun p : Nat × RouteItem => entryField p.2) (l := planOf k.route)
    fun p hp => entryField_length (mem_planOf hp).2.1
  have flags : k.recordFlags.length = 1 := rfl
  have presence : k.presence.length = 1 := rfl
  unfold State.trackRecord
  simp only [List.length_append, ends, plan, flags, presence, u8_length, u32_length, tickField, handleField,
    List.length_cons, List.length_nil]

/-- Settles O16: the judgement of LIST TRACKS step by step, the list as a sorted filter, and the record's fixed fields counted. -/
theorem trackListing : Obligations.TrackListing := by
  refine ⟨fun s t zone mask z start h hm hz hr => listTracks_page h hm hz hr, mem_matching, matching_oldest_first,
    trackRecord_length, fun s t zone mask h hm => ⟨?_, ?_, ?_, ?_, ?_⟩⟩
  · exact fun first slot => listTracks_badStart h hm (listStart_noSlot first slot)
  · exact fun i slot stale => listTracks_badStart h hm (listStart_stale slot stale)
  · rintro lo hi (rfl | ⟨i, k, slot, hk, gen⟩)
    · exact listTracks_badZone h hm (listStart_first s) lo hi
    · exact listTracks_badZone h hm (listStart_live slot hk gen) lo hi
  · rintro rfl
    exact listStart_first s
  · exact fun i k slot hk gen => listStart_live slot hk gen

/-! ## ANNOTATE TRACK (R73) -/

/-- The action that a byte of ANNOTATE TRACK carries: KEEP is 0. -/
def actionOf (b : Byte) : Action := if b = 1 then .set else if b = 2 then .clear else .keep

theorem oneOf_action {b : Byte} (h : b.toNat < 3) : oneOf [Action.keep, .set, .clear] b.toNat = .ok (actionOf b) := by
  have choices : b = 0 ∨ b = 1 ∨ b = 2 := by
    have : b.toNat = 0 ∨ b.toNat = 1 ∨ b.toNat = 2 := by omega
    exact this.imp BitVec.eq_of_toNat_eq (Or.imp BitVec.eq_of_toNat_eq BitVec.eq_of_toNat_eq)
  rcases choices with rfl | rfl | rfl <;> rfl

theorem oneOf_no_action {b : Byte} (h : 3 ≤ b.toNat) :
    oneOf [Action.keep, .set, .clear] b.toNat = .error (.refused .badField) :=
  (oneOf_judges _ _).badField id h

theorem noteAfter_action (b value : Byte) (note : Option Byte) :
    noteAfter (actionOf b) value note = if b = 1 then some value else if b = 2 then none else note := by
  unfold actionOf
  split
  · rfl
  · split <;> rfl

theorem holdAfter_action (b : Byte) (k : Track) (stop : Tick) :
    k.holdAfter (actionOf b) stop = { k with
      hold := if b = 1 then true else if b = 2 then false else k.hold,
      lingerEnd := if b = 2 ∧ k.state = .spent ∧ k.lingerEnd = .expired then .until stop else k.lingerEnd } := by
  unfold actionOf
  by_cases set : b = 1
  · subst set
    rfl
  · by_cases clear : b = 2
    · subst clear
      simp [Track.holdAfter]
    · simp only [set, clear, if_false, false_and, Track.holdAfter]

section
variable {s : State} {t : Half} {note value hold : Byte} {i : SlotId} {k : Track}

theorem annotateTrack_live (hm : s.mode = .guarded) (live : liveTrack s (targetSlot t) (targetGen t) = .ok (i, k)) :
    s.annotateTrack t [note, value, hold] =
      (oneOf [Action.keep, .set, .clear] note.toNat >>= fun a => oneOf [Action.keep, .set, .clear] hold.toNat >>= fun b =>
        let u := { k with note := noteAfter a value k.note }.holdAfter b (s.now + s.limits.linger * Config.second)
        .ok (s.updTrack i fun _ => u, .ok (u8 u.state.code ++ optField 1 (fun b => [b]) u.note ++ u.flagField))) :=
  (bind_of_ok (takenInGuard_of_guarded hm)).trans (bind_of_ok live)

theorem annotateTrack_badField (hm : s.mode = .guarded) (live : liveTrack s (targetSlot t) (targetGen t) = .ok (i, k))
    (h : 3 ≤ note.toNat ∨ 3 ≤ hold.toNat) : s.annotateTrack t [note, value, hold] = .error (.refused .badField) := by
  rw [annotateTrack_live hm live]
  by_cases hn : 3 ≤ note.toNat
  · exact bind_of_error (oneOf_no_action hn)
  · rw [bind_of_ok (oneOf_action (not_le.mp hn))]
    exact bind_of_error (oneOf_no_action (h.resolve_left hn))

end

/-- Settles O31: the two action bytes are read by `actionOf`, and the reply is that of the track they leave. -/
theorem annotateTrack : Obligations.AnnotateTrack := by
  intro s t note value hold i k h hm slot hk gen
  have live : liveTrack s (targetSlot t) (targetGen t) = .ok (i, k) := liveTrack_live slot hk gen
  refine ⟨fun bad => request_refused h rfl (fun e => nomatch e) (annotateTrack_badField hm live bad), fun hn hh => ?_⟩
  intro u
  have left : { k with note := noteAfter (actionOf note) value k.note }.holdAfter (actionOf hold)
      (s.now + s.limits.linger * Config.second) = u := by
    rw [holdAfter_action, noteAfter_action]
    rfl
  refine request_answer (u := { s with slots := updAt s.slots i fun q => { q with track := some u } }) h rfl
    (fun e => nomatch e) ?_
  rw [annotateTrack_live hm live, bind_of_ok (oneOf_action hn), bind_of_ok (oneOf_action hh)]
  dsimp only
  rw [left, updTrack_at _ hk]
  rfl

end Sys2Proof.Laws
end

section
/-! PROOFS. Tracks leave and enter their slots: retirement by command and at the linger end, and births by INJECT TRACK. -/
namespace Sys2Proof.Laws
open Sys2Proof.Machine

/-! ## The frame of an event, piece by piece -/

theorem framed_trans {s t u : State} (h : s.Framed t) (k : t.Framed u) : s.Framed u where
  now := k.now.trans h.now
  resetLow := k.resetLow.trans h.resetLow
  mode := k.mode.trans h.mode
  walkEnd := k.walkEnd.trans h.walkEnd
  result := k.result.trans h.result
  guardEntry := k.guardEntry.trans h.guardEntry
  nextGate := k.nextGate.trans h.nextGate
  nextSurvey := k.nextSurvey.trans h.nextSurvey
  limits := k.limits.trans h.limits
  segments := k.segments.trans h.segments
  fanFeedback := k.fanFeedback.trans h.fanFeedback
  channels := k.channels.trans h.channels
  airflows := k.airflows.trans h.airflows
  temps := k.temps.trans h.temps
  link := k.link.trans h.link
  pending := k.pending.trans h.pending
  gates g := (k.gates g).trans (h.gates g)
  lines l := (k.lines l).trans (h.lines l)
  stations x := (k.stations x).trans (h.stations x)
  shutters i := (k.shutters i).trans (h.shutters i)
  sirens i := (k.sirens i).trans (h.sirens i)
  callRaw z := (k.callRaw z).trans (h.callRaw z)
  callChanged z := (k.callChanged z).trans (h.callChanged z)
  flags := by rw [← k.flags, ← BitVec.or_assoc, h.flags]
  noticeRest := (congrArg (fun n : Notices => { n with flags := s.notices.flags }) k.noticeRest).trans h.noticeRest

/-- The frame says nothing of the slots, of the next birth sequence or of a gate's diversion list. -/
theorem framed_of_gates {s t : State} (h : { t with slots := s.slots, nextSeq := s.nextSeq, gates := s.gates } = s)
    (gates : ∀ g : GateId, t.gates[g].fixed = s.gates[g].fixed) : s.Framed t where
  now := (congrArg State.now h :)
  resetLow := (congrArg State.resetLow h :)
  mode := (congrArg State.mode h :)
  walkEnd := (congrArg State.walkEnd h :)
  result := (congrArg State.result h :)
  guardEntry := (congrArg State.guardEntry h :)
  nextGate := (congrArg State.nextGate h :)
  nextSurvey := (congrArg State.nextSurvey h :)
  limits := (congrArg State.limits h :)
  segments := (congrArg State.segments h :)
  fanFeedback := (congrArg State.fanFeedback h :)
  channels := (congrArg State.channels h :)
  airflows := (congrArg State.airflows h :)
  temps := (congrArg State.temps h :)
  link := (congrArg State.link h :)
  pending := (congrArg State.pending h :)
  gates := gates
  lines l := (congrArg (fun v : State => v.lines[l].fixed) h :)
  stations x := (congrArg (fun v : State => v.stations[x].fixed) h :)
  shutters i := (congrArg (fun v : State => v.shutters[i].fixed) h :)
  sirens i := (congrArg (fun v : State => v.sirens[i].fixed) h :)
  callRaw z := (congrArg (fun v : State => v.zones[z].callRaw) h :)
  callChanged z := (congrArg (fun v : State => v.zones[z].callChanged) h :)
  flags := by
    rw [show t.notices = s.notices from (congrArg State.notices h :)]
    exact BitVec.or_self
  noticeRest := by rw [show t.notices = s.notices from (congrArg State.notices h :)]

theorem framed_of_slots {s t : State} (h : { t with slots := s.slots, nextSeq := s.nextSeq } = s) : s.Framed t := by
  have gates : t.gates = s.gates := (congrArg State.gates h :)
  exact framed_of_gates ((congrArg (fun v : State => { v with gates := s.gates }) h :)) fun g => by rw [gates]

/-! ## What a membership change touches (R75, R148) -/

/-- A state that differs from another in its zones and in the notices raised. -/
structure ZonesOnly (s t : State) : Prop where
  rest : { t with zones := s.zones, notices := s.notices } = s

theorem ZonesOnly.same (s : State) : ZonesOnly s s := ⟨rfl⟩

theorem ZonesOnly.trans {s t u : State} (h : ZonesOnly s t) (k : ZonesOnly t u) : ZonesOnly s u :=
  ⟨(congrArg (fun v : State => { v with zones := s.zones, notices := s.notices }) k.rest).trans h.rest⟩

theorem join_zonesOnly (s : State) (m : Membership) : ZonesOnly s (s.join m) := by cases m <;> exact ⟨rfl⟩
theorem leave_zonesOnly (s : State) (m : Membership) : ZonesOnly s (s.leave m) := by cases m <;> exact ⟨rfl⟩

theorem recompute_zonesOnly (w : Work) (z : ZoneId) : ZonesOnly w.st (w.recompute z).st := by
  unfold Work.recompute
  dsimp only
  split
  · exact .same _
  · rw [push_st]
    exact ⟨rfl⟩

theorem ZonesOnly.recompute {s : State} {w : Work} (h : ZonesOnly s w.st) (z : ZoneId) : ZonesOnly s (w.recompute z).st :=
  h.trans (recompute_zonesOnly w z)

theorem memberMove_zonesOnly (w : Work) (old new : Option Membership) : ZonesOnly w.st (w.memberMove old new).st := by
  unfold Work.memberMove
  cases old with
  | none =>
    cases new with
    | none => exact .same _
    | some n => cases n <;> dsimp only <;> exact .recompute ⟨rfl⟩ _
  | some m =>
    cases new with
    | none => cases m <;> dsimp only <;> exact .recompute ⟨rfl⟩ _
    | some n =>
      refine ZonesOnly.recompute ?_ n.zone
      refine ZonesOnly.recompute ?_ m.zone
      have counted : ZonesOnly w.st ((w.st.leave m).join n) := (leave_zonesOnly _ m).trans (join_zonesOnly _ n)
      cases n with
      | live z => exact counted
      | escaped z => exact counted.trans ⟨rfl⟩

/-! ## A fold in which every place is changed by its own step -/

theorem foldl_places {α β γ : Type} [DecidableEq α] {f : β → α → β} {read : β → α → γ} {g : γ → γ}
    (step : ∀ b a c, read (f b a) c = if c = a then g (read b c) else read b c) {l : List α} (once : l.Nodup) (b : β)
    (c : α) : read (l.foldl f b) c = if c ∈ l then g (read b c) else read b c := by
  induction l generalizing b with
  | nil => rfl
  | cons a l ih =>
    obtain ⟨new, once⟩ := List.nodup_cons.mp once
    rw [List.foldl_cons, ih once, step]
    by_cases e : c = a
    · subst e
      simp [new]
    · simp [e]

/-! ## Retirement (R71) -/

/-- The slot of a track freed: its generation moves on, and no diversion list keeps its handle. -/
def freed (s : State) (i : SlotId) : State :=
  { s with slots := updAt s.slots i fun q => { gen := q.gen + 1, track := none },
           gates := s.gates.map fun g => { g with diversions := g.diversions.filter fun d => d != s.handleOf i } }

/-- A station whose served list has given up the entries of a handle. -/
def unserved (h : Handle) (q : Station) : Station := { q with served := servedWithout h q.served }

/-- One served list gives up the entries of a handle. -/
def unserve (h : Handle) (w : Work) (x : StationId) : Work :=
  if w.st.stations[x].served.any fun e => e.handle == h then
    (w.mod fun s => s.updStation x (unserved h)).push (.station x)
  else w

/-- Every served list gives up the entries of a handle. -/
def unserveAll (h : Handle) (w : Work) : Work := (List.finRange 24).foldl (unserve h) w

theorem retire_eq {w : Work} {i : SlotId} {k : Track} (h : w.st.track? i = some k) :
    w.retire i = k.member.elim (unserveAll (w.st.handleOf i) (w.mod fun s => freed s i))
      fun m => (unserveAll (w.st.handleOf i) (w.mod fun s => freed s i)).memberMove (some m) none := by
  have free : (w.mod fun s =>
      { s with slots := updAt s.slots i fun q => { gen := q.gen + 1, track := none },
               gates := s.gates.map fun g =>
                 { g with diversions := g.diversions.filter fun d => d != w.st.handleOf i } }) =
      w.mod fun s => freed s i := rfl
  have each : (fun (v : Work) (x : StationId) =>
      if v.st.stations[x].served.any fun e => e.handle == w.st.handleOf i then
        (v.mod fun s => s.updStation x fun q => { q with served := servedWithout (w.st.handleOf i) q.served }).push
          (.station x)
      else v) = unserve (w.st.handleOf i) := rfl
  unfold Work.retire unserveAll
  simp only [h]
  rw [free, each]
  cases k.member <;> dsimp only [Option.elim]

theorem servedWithout_same {h : Handle} {l : List Served} (no : (l.any fun e => e.handle == h) = false) :
    servedWithout h l = l := by
  refine List.filter_eq_self.mpr fun e he => ?_
  have other := List.any_eq_false.mp no e he
  simpa using other

theorem unserve_taken {h : Handle} {w : Work} {x : StationId}
    (some : (w.st.stations[x].served.any fun e => e.handle == h) = true) : (unserve h w x).st = w.st.updStation x (unserved h) :=
  (congrArg Work.st (if_pos some)).trans (push_st _ _)

theorem unserve_none {h : Handle} {w : Work} {x : StationId}
    (none : ¬(w.st.stations[x].served.any fun e => e.handle == h) = true) : unserve h w x = w := if_neg none

theorem unserve_station (h : Handle) (w : Work) (x y : StationId) : (unserve h w x).st.stations[y] =
    if y = x then unserved h w.st.stations[y] else w.st.stations[y] := by
  by_cases listed : (w.st.stations[x].served.any fun e => e.handle == h) = true
  · rw [unserve_taken listed]
    rcases updAt_cases w.st.stations x y (unserved h) with ⟨e, r⟩ | ⟨e, r⟩
    · exact r.trans (if_pos e).symm
    · exact r.trans (if_neg e).symm
  · rw [unserve_none listed]
    split
    · rename_i e
      subst e
      unfold unserved
      rw [servedWithout_same (Bool.eq_false_iff.mpr listed)]
    · rfl

theorem unserve_gates (h : Handle) (w : Work) (x : StationId) : (unserve h w x).st.gates = w.st.gates := by
  by_cases listed : (w.st.stations[x].served.any fun e => e.handle == h) = true
  · rw [unserve_taken listed]
    rfl
  · rw [unserve_none listed]

theorem unserve_kept (h : Handle) (w : Work) (x : StationId) : Kept w.st (unserve h w x).st := by
  by_cases listed : (w.st.stations[x].served.any fun e => e.handle == h) = true
  · rw [unserve_taken listed]
    exact (served_steps w x (servedWithout h w.st.stations[x].served) fun room =>
      (List.length_filter_le _ _).trans room).kept
  · rw [unserve_none listed]
    exact .same _

theorem unserveAll_kept (h : Handle) (w : Work) : Kept w.st (unserveAll h w).st := by
  unfold unserveAll
  exact foldl_related (R := fun a b : Work => Kept a.st b.st) (fun w => .same w.st) .trans (unserve_kept h) _ w

theorem unserveAll_station (h : Handle) (w : Work) (x : StationId) :
    (unserveAll h w).st.stations[x] = unserved h w.st.stations[x] := by
  unfold unserveAll
  exact (foldl_places (read := fun (w : Work) (x : StationId) => w.st.stations[x]) (unserve_station h)
    (List.nodup_finRange 24) w x).trans (if_pos (List.mem_finRange x))

theorem unserveAll_gates (h : Handle) (w : Work) : (unserveAll h w).st.gates = w.st.gates := by
  unfold unserveAll
  exact foldl_keeps (P := fun v : Work => v.st.gates = w.st.gates) (fun v x e => (unserve_gates h v x).trans e) _ w rfl

section
variable {w : Work} {i : SlotId} {k : Track}

theorem retire_kept (h : w.st.track? i = some k) : Kept (freed w.st i) (w.retire i).st := by
  have served := unserveAll_kept (w.st.handleOf i) (w.mod fun s => freed s i)
  rw [retire_eq h]
  cases k.member <;> dsimp only [Option.elim]
  case none => exact served
  case some m => exact served.trans (memberMove_kept _ _ _)

/-- A retirement takes the track out of every served list and every diversion list, and does nothing else to them. -/
theorem retire_lists (h : w.st.track? i = some k) :
    (w.retire i).st.stations = (unserveAll (w.st.handleOf i) (w.mod fun s => freed s i)).st.stations ∧
    (w.retire i).st.gates = (freed w.st i).gates := by
  have gates := unserveAll_gates (w.st.handleOf i) (w.mod fun s => freed s i)
  rw [retire_eq h]
  cases k.member <;> dsimp only [Option.elim]
  case none => exact ⟨rfl, gates⟩
  case some m =>
    have zones := memberMove_zonesOnly (unserveAll (w.st.handleOf i) (w.mod fun s => freed s i)) (some m) none
    exact ⟨(congrArg State.stations zones.rest :), (congrArg State.gates zones.rest :).trans gates⟩

end

/-- What has become of the slots once a track has left its own. -/
structure SlotFreed (s u : State) (i : SlotId) : Prop where
  slot : u.slots[i] = { gen := s.slots[i].gen + 1, track := none }
  others : ∀ j : SlotId, j ≠ i → u.slots[j].gen = s.slots[j].gen ∧ (u.track? j).isSome = (s.track? j).isSome
  nextSeq : u.nextSeq = s.nextSeq
  framed : s.Framed u

theorem freed_framed (s : State) (i : SlotId) : s.Framed (freed s i) :=
  framed_of_gates rfl fun g => by
    rw [show (freed s i).gates[g] = _ from Vector.getElem_map _ _]
    rfl

/-- A slot freed stays free through the deliveries. -/
theorem Kept.slotFreed {s u : State} {i : SlotId} (h : Kept (freed s i) u) : SlotFreed s u i where
  slot := by
    have here : (freed s i).slots[i] = { gen := s.slots[i].gen + 1, track := none } := updAt_same _ _ _
    have kept := h.slots i
    rw [here] at kept
    have free : u.slots[i].track = none := Option.not_isSome_iff_eq_none.mp (by rw [kept.live]; exact Bool.false_ne_true)
    exact (congrArg₂ Slot.mk kept.gen free :)
  others j hj := by
    have there : (freed s i).slots[j] = s.slots[j] := updAt_other _ _ _ _ hj
    have kept := h.slots j
    rw [there] at kept
    exact ⟨kept.gen, kept.live⟩
  nextSeq := h.nextSeq
  framed := framed_trans (freed_framed s i) h.framed

theorem retire_freed {s : State} {i : SlotId} {k : Track} (h : s.track? i = some k) :
    SlotFreed s (s.begin.retire i).finish i :=
  ((retire_kept (w := s.begin) h).trans (finish_kept _)).slotFreed

section
variable {s : State} {t : Half} {i : SlotId} {k : Track}

theorem retireTrack_live (hm : s.mode = .guarded) (live : liveTrack s (targetSlot t) (targetGen t) = .ok (i, k)) :
    s.retireTrack t = refuseFor (k.state == .flight || k.state == .stalled) .trackActive >>= fun _ =>
      .ok ((s.begin.retire i).finish, .ok []) :=
  (bind_of_ok (takenInGuard_of_guarded hm)).trans (bind_of_ok live)

theorem lingerExpiry_due {stop : Tick} (hr : s.resetLow = false) (hk : s.track? i = some k) (state : k.state = .spent)
    (linger : k.lingerEnd = .until stop) (due : stop ≤ s.now) :
    exec (.lingerExpiry i) s = .next (if k.hold then
      (s.updTrack i fun t => { t with lingerEnd := .expired }).begin else s.begin.retire i).finish := by
  have reached : (s.track? i).elim false s.lingerDue = true := by
    simp [hk, State.lingerDue, linger, state, due]
  have held : ((s.track? i).elim false fun t => t.hold) = k.hold := by rw [hk]; rfl
  refine congrArg Host.Outcome.next ((event_due s _ _ hr reached).trans ?_)
  rw [held]

end

/-- Settles O32: a retirement frees its slot and empties the lists of its handle, and the deliveries keep the slots. -/
theorem tracksRetired : Obligations.TracksRetired := by
  refine ⟨fun s t i k h hm slot hk gen => ?_, fun s i k stop hr hk state linger due => ?_, fun s i k hk => ?_⟩
  · have live : liveTrack s (targetSlot t) (targetGen t) = .ok (i, k) := liveTrack_live slot hk gen
    refine ⟨fun active => request_refused h rfl (fun e => nomatch e) ?_, fun done => ?_⟩
    · rw [retireTrack_live hm live]
      exact bind_of_error (refuseFor_refused (by simpa using active))
    · have gone := retire_freed hk
      refine ⟨_, request_answer h rfl (fun e => nomatch e) ?_, gone.slot, gone.others, gone.nextSeq, gone.framed⟩
      rw [retireTrack_live hm live]
      exact bind_of_ok (refuseFor_passed (by rcases done with e | e <;> rw [e] <;> rfl))
  · have taken := lingerExpiry_due hr hk state linger due
    refine ⟨fun hold => ?_, fun hold => ?_⟩
    · rw [taken, if_pos hold, begin_finish, updTrack_at _ hk]
    · rw [taken, if_neg (by simp [hold])]
      have gone := retire_freed hk
      exact ⟨_, rfl, gone.slot, gone.others, gone.nextSeq, gone.framed⟩
  · obtain ⟨stations, gates⟩ := retire_lists (w := s.begin) hk
    intro u
    refine ⟨fun x => ?_, fun g => ?_⟩
    · rw [show u.stations = _ from stations, unserveAll_station]
      rfl
    · rw [show u.gates = _ from gates]
      exact Vector.getElem_map _ _

/-! ## The oldest track that meets a condition (R52) -/

/-- One slot's part in the search for the oldest track. -/
def elder (s : State) (p : Track → Bool) (best : Option (SlotId × Nat)) (i : SlotId) : Option (SlotId × Nat) :=
  match s.track? i with
  | none => best
  | some t =>
    if !p t then best
    else
      match best with
      | none => some (i, s.ageOf t)
      | some b => if b.2 < s.ageOf t then some (i, s.ageOf t) else best

section
variable {s : State} {p : Track → Bool} {i : SlotId} {k : Track}

theorem oldest_eq (s : State) (p : Track → Bool) :
    s.oldest p = ((List.finRange 48).foldl (elder s p) none).map fun b => b.1 := rfl

theorem elder_other (best : Option (SlotId × Nat)) (h : ∀ k, s.track? i = some k → p k = false) :
    elder s p best i = best := by
  unfold elder
  split
  · rfl
  · rename_i k hk
    rw [h k hk]
    rfl

theorem elder_first (hk : s.track? i = some k) (hp : p k = true) : elder s p none i = some (i, s.ageOf k) := by
  simp [elder, hk, hp]

theorem elder_next (b : SlotId × Nat) (hk : s.track? i = some k) (hp : p k = true) :
    elder s p (some b) i = if b.2 < s.ageOf k then some (i, s.ageOf k) else some b := by
  simp [elder, hk, hp]

theorem oldest_none (h : ∀ i k, s.track? i = some k → p k = false) : s.oldest p = none := by
  rw [oldest_eq, foldl_same _ none fun i _ => elder_other none (h i)]
  rfl

/-- The best found so far is younger than a track, or is that track. -/
def NotElder (i : SlotId) (age : Nat) (best : Option (SlotId × Nat)) : Prop :=
  ∀ b, best = some b → b.2 < age ∨ b = (i, age)

theorem elder_notElder {best : Option (SlotId × Nat)} (hk : s.track? i = some k)
    (younger : ∀ j l, j ≠ i → s.track? j = some l → p l = true → s.ageOf l < s.ageOf k) (j : SlotId)
    (h : NotElder i (s.ageOf k) best) : NotElder i (s.ageOf k) (elder s p best j) := by
  by_cases fits : ∃ l, s.track? j = some l ∧ p l = true
  · obtain ⟨l, hl, hp⟩ := fits
    have found : NotElder i (s.ageOf k) (some (j, s.ageOf l)) := by
      rintro b ⟨⟩
      by_cases e : j = i
      · subst e
        rw [Option.some.inj (hl.symm.trans hk)]
        exact .inr rfl
      · exact .inl (younger j l e hl hp)
    cases best with
    | none => rwa [elder_first hl hp]
    | some b =>
      rw [elder_next b hl hp]
      split
      · exact found
      · exact h
  · rwa [elder_other best fun l hl => Bool.eq_false_iff.mpr fun hp => fits ⟨l, hl, hp⟩]

theorem elder_reaches {best : Option (SlotId × Nat)} (hk : s.track? i = some k) (hp : p k = true)
    (h : NotElder i (s.ageOf k) best) : elder s p best i = some (i, s.ageOf k) := by
  cases best with
  | none => exact elder_first hk hp
  | some b =>
    rw [elder_next b hk hp]
    rcases h b rfl with lt | rfl
    · exact if_pos lt
    · exact if_neg (lt_irrefl _)

theorem elder_keeps (younger : ∀ j l, j ≠ i → s.track? j = some l → p l = true → s.ageOf l < s.ageOf k) {j : SlotId}
    (e : j ≠ i) : elder s p (some (i, s.ageOf k)) j = some (i, s.ageOf k) := by
  by_cases fits : ∃ l, s.track? j = some l ∧ p l = true
  · obtain ⟨l, hl, hp⟩ := fits
    rw [elder_next _ hl hp]
    exact if_neg (younger j l e hl hp).not_gt
  · exact elder_other _ fun l hl => Bool.eq_false_iff.mpr fun hp => fits ⟨l, hl, hp⟩

/-- The one track older than every other that meets the condition is the oldest. -/
theorem oldest_unique (hk : s.track? i = some k) (hp : p k = true)
    (younger : ∀ j l, j ≠ i → s.track? j = some l → p l = true → s.ageOf l < s.ageOf k) : s.oldest p = some i := by
  have search : ∀ l : List SlotId, l.Nodup → ∀ best, NotElder i (s.ageOf k) best → i ∈ l →
      l.foldl (elder s p) best = some (i, s.ageOf k) := by
    intro l
    induction l with
    | nil => exact fun _ _ _ h => nomatch h
    | cons j l ih =>
      intro once best bound h
      obtain ⟨new, once⟩ := List.nodup_cons.mp once
      by_cases e : j = i
      · subst e
        rw [List.foldl_cons, elder_reaches hk hp bound]
        exact foldl_keeps_away (P := (· = some (j, s.ageOf k))) new
          (fun b c away hb => by rw [hb]; exact elder_keeps younger away) _ rfl
      · exact ih once _ (elder_notElder hk younger j bound) ((List.mem_cons.mp h).resolve_left (Ne.symm e))
  rw [oldest_eq, search _ (List.nodup_finRange 48) none (fun _ e => nomatch e) (List.mem_finRange i)]
  rfl

end

/-! ## The slot that a birth takes (R58, R71) -/

/-- A birth has been given a slot: with which generation, and what has become of the others. -/
structure SlotTaken (s : State) (v : Work) (i : SlotId) (gen : BitVec 8) : Prop where
  gen : v.st.slots[i].gen = gen
  others : ∀ j : SlotId, j ≠ i → v.st.slots[j].gen = s.slots[j].gen ∧ (v.st.track? j).isSome = (s.track? j).isSome
  nextSeq : v.st.nextSeq = s.nextSeq
  framed : s.Framed v.st

theorem finRange_find_least {n : Nat} {p : Fin n → Bool} {i : Fin n} (hp : p i = true) (least : ∀ j, j < i → p j = false) :
    (List.finRange n).find? p = some i := by
  cases found : (List.finRange n).find? p with
  | none => exact absurd hp (List.find?_eq_none.mp found i (List.mem_finRange i))
  | some j =>
    rcases (finRange_find_first found i hp).lt_or_eq with lt | e
    · exact absurd (List.find?_some found) (by rw [least j lt]; exact Bool.false_ne_true)
    · rw [e]

section
variable {s : State} {i : SlotId} {k : Track}

theorem findSlot_lowest (free : s.track? i = none) (lowest : ∀ j : SlotId, j < i → s.track? j ≠ none) :
    s.begin.findSlot = (s.begin, some i) := by
  have found : ((List.finRange 48).find? fun i => (s.begin.st.track? i).isNone) = some i :=
    finRange_find_least (by rw [begin_st, free]; rfl) fun j lt => by
      simpa [Option.isSome_iff_ne_none] using lowest j lt
  unfold Work.findSlot
  rw [found]

theorem findSlot_full (full : ∀ j : SlotId, s.track? j ≠ none) : s.begin.findSlot =
    (s.oldest fun t => t.state == .spent && !t.hold).elim (s.begin, none) fun i => (s.begin.retire i, some i) := by
  have found : ((List.finRange 48).find? fun i => (s.begin.st.track? i).isNone) = none :=
    List.find?_eq_none.mpr fun j _ => by simpa using full j
  unfold Work.findSlot
  rw [found]
  dsimp only [begin_st]
  cases s.oldest fun t => t.state == .spent && !t.hold <;> rfl

theorem slotTaken_free (s : State) (i : SlotId) : SlotTaken s s.begin i s.slots[i].gen :=
  ⟨rfl, fun _ _ => ⟨rfl, rfl⟩, rfl, framed_of_slots rfl⟩

theorem slotTaken_reclaimed (h : s.track? i = some k) : SlotTaken s (s.begin.retire i) i (s.slots[i].gen + 1) :=
  let gone := (retire_kept (w := s.begin) h).slotFreed
  ⟨congrArg Slot.gen gone.slot, gone.others, gone.nextSeq, gone.framed⟩

end

/-! ## An injected birth (R59, R74) -/

section
variable {s : State} {v : Work} {i : SlotId} {gen : BitVec 8} {seg : SegId} {position : Nat} {d : ChanId} {glow : Glow}
  {intensity : Byte}

/-- The newborn put into its slot, before its route is walked. -/
def putNewborn (s : State) (i : SlotId) (seg : SegId) (d : ChanId) (glow : Glow) (intensity : Byte) (time : Tick) : State :=
  { s with slots := updAt s.slots i fun q => { q with track := some (s.newborn seg d glow intensity time true) },
           nextSeq := s.nextSeq + 1 }

theorem birth_noSlot (found : s.begin.findSlot = (v, none)) :
    s.begin.birth seg position d glow intensity s.now true = (v, none) := by
  unfold Work.birth
  rw [found]

theorem birth_injected (found : s.begin.findSlot = (v, some i)) :
    ∃ w : Work, s.begin.birth seg position d glow intensity s.now true = (w, some i) ∧
      Kept (putNewborn v.st i seg d glow intensity s.now) w.st ∧ w.st.raised .born := by
  let placed : Work := v.mod fun _ => putNewborn v.st i seg d glow intensity s.now
  let routed : Work := (placed.takeRoute i (placed.st.walkFromDetector seg position d)).mod fun s => s.raise .born
  have walked := (takeRoute_steps placed i (placed.st.walkFromDetector seg position d)).kept
  refine ⟨routed, ?_, walked.trans (raise_kept _ _), raise_raised _ _⟩
  unfold Work.birth
  rw [found]
  rfl

theorem putNewborn_framed (s : State) (i : SlotId) (seg : SegId) (d : ChanId) (glow : Glow) (intensity : Byte) (time : Tick) :
    s.Framed (putNewborn s i seg d glow intensity time) := framed_of_slots rfl

/-- What INJECT TRACK leaves behind and answers when a track is born (R74). -/
def BornInjected (s u : State) (i : SlotId) (gen : BitVec 8) (d : ChanId) (glow : Glow) (intensity : Byte) (k : Track) :
    Prop :=
  u.track? i = some k ∧ u.slots[i].gen = gen ∧ k.seq = s.nextSeq ∧ k.birthTick = s.now ∧ k.base = s.now ∧
  k.origin = d ∧ k.glow = glow ∧ k.intensity = intensity ∧ k.injected = true ∧ k.hold = false ∧
  k.note = none ∧ k.survived = 0 ∧ u.nextSeq = s.nextSeq + 1 ∧ u.raised .born ∧ s.Framed u ∧
  ∀ j : SlotId, j ≠ i → u.slots[j].gen = s.slots[j].gen ∧ (u.track? j).isSome = (s.track? j).isSome

/-- The deliveries keep what a birth has brought. -/
theorem SlotTaken.born {u : State} (h : SlotTaken s v i gen) (kept : Kept (putNewborn v.st i seg d glow intensity s.now) u)
    (raised : u.raised .born) : ∃ k, BornInjected s u i gen d glow intensity k := by
  have put : (putNewborn v.st i seg d glow intensity s.now).slots[i] =
      { v.st.slots[i] with track := some (v.st.newborn seg d glow intensity s.now true) } := updAt_same _ _ _
  obtain ⟨k, hk, step⟩ := kept.track (congrArg Slot.track put)
  refine ⟨k, hk, ?_, step.seq.trans h.nextSeq, step.birthTick, step.base, step.origin, step.glow, step.intensity,
    step.injected, step.hold, step.note, step.survived, ?_, raised,
    framed_trans (framed_trans h.framed (putNewborn_framed _ _ _ _ _ _ _)) kept.framed, fun j hj => ?_⟩
  · rw [(kept.slots i).gen, put]
    exact h.gen
  · rw [kept.nextSeq, ← h.nextSeq]
    rfl
  · have other : (putNewborn v.st i seg d glow intensity s.now).slots[j] = v.st.slots[j] := updAt_other _ _ _ _ hj
    obtain ⟨same, live⟩ := h.others j hj
    refine ⟨?_, ?_⟩
    · rw [(kept.slots j).gen, other, same]
    · have still := (kept.slots j).live
      rw [other] at still
      exact still.trans live

end

section
variable {s : State} {t : Half} {a intensity : Byte} {d : ChanId} {glow : Glow} {seg : SegId} {position : Nat}
  (hm : s.mode = .guarded) (ht : t.toNat = d.val) (hg : oneOf [.spark, .ember] a.toNat = .ok glow)
include hm ht hg

theorem injectTrack_off (off : s.channels[d].type = .off) :
    s.injectTrack t [a, intensity] = .error (.refused .notPlaced) :=
  (bind_of_ok (takenInGuard_of_guarded hm)).trans <| (bind_of_ok (targetOf_ok.mpr ht)).trans <|
    (bind_of_ok hg).trans (bind_of_error (refuseFor_refused (by rw [off]; rfl)))

variable (on : s.channels[d].type ≠ .off) (place : s.placeOf (.detector d) = some (seg, position))
include on place

theorem injectTrack_birth {w : Work} {slot : Option SlotId}
    (born : s.begin.birth seg position d glow intensity s.now true = (w, slot)) : s.injectTrack t [a, intensity] =
      slot.elim (.error (.refused .tableFull)) fun i => .ok (w.finish, .ok (handleField (w.st.handleOf i))) := by
  refine (bind_of_ok (takenInGuard_of_guarded hm)).trans <| (bind_of_ok (targetOf_ok.mpr ht)).trans <|
    (bind_of_ok hg).trans <| (bind_of_ok (refuseFor_passed (by simpa using on))).trans ?_
  rw [place]
  dsimp only
  rw [show s.begin.birth seg position d glow (byteAt [a, intensity] 1) s.now true = (w, slot) from born]
  cases slot <;> rfl

theorem injectTrack_full {v : Work} (found : s.begin.findSlot = (v, none)) :
    s.injectTrack t [a, intensity] = .error (.refused .tableFull) :=
  injectTrack_birth hm ht hg on place (birth_noSlot found)

theorem injectTrack_born {v : Work} {i : SlotId} {gen : BitVec 8} (found : s.begin.findSlot = (v, some i))
    (taken : SlotTaken s v i gen) : ∃ (u : State) (k : Track),
      s.injectTrack t [a, intensity] = .ok (u, .ok [BitVec.ofNat 8 i.val, gen]) ∧
      BornInjected s u i gen d glow intensity k := by
  obtain ⟨w, born, kept, raised⟩ := birth_injected (seg := seg) (position := position) (d := d) (glow := glow)
    (intensity := intensity) found
  have delivered := kept.trans (finish_kept w)
  obtain ⟨_, -, sameGen, -⟩ := taken.born kept raised
  obtain ⟨k, left⟩ := taken.born delivered ((finish_kept w).raised .born raised)
  refine ⟨w.finish, k, ?_, left⟩
  rw [injectTrack_birth hm ht hg on place born]
  dsimp only [Option.elim, handleField, State.handleOf]
  rw [sameGen]

end

/-- Settles O33: the slot a birth takes is found by `findSlot`, and from there the newborn is followed through the deliveries. -/
theorem injectTrackBirth : Obligations.InjectTrackBirth := by
  intro s t a intensity d glow h hm ht hg
  refine ⟨fun off => request_refused h rfl (fun e => nomatch e) (injectTrack_off hm ht hg off),
    fun seg position on place => ?_⟩
  intro born
  have bears : ∀ {v : Work} {i : SlotId} {gen : BitVec 8}, s.begin.findSlot = (v, some i) → SlotTaken s v i gen →
      born i gen := by
    intro v i gen found taken
    obtain ⟨u, k, answer, left⟩ := injectTrack_born (intensity := intensity) hm ht hg on place found taken
    exact ⟨u, k, request_answer h rfl (fun e => nomatch e) answer, left⟩
  refine ⟨fun full => ?_, fun i free lowest => ?_, fun i k full hk state hold eldest => ?_⟩
  · have none : (s.oldest fun t => t.state == .spent && !t.hold) = none := by
      refine oldest_none fun i k hk => ?_
      obtain ⟨k', hk', held⟩ := full i
      obtain rfl := Option.some.inj (hk.symm.trans hk')
      simpa using held
    have found := findSlot_full (s := s) fun j => by
      obtain ⟨k, hk, -⟩ := full j
      simp [hk]
    rw [none] at found
    exact request_refused h rfl (fun e => nomatch e) (injectTrack_full hm ht hg on place found)
  · exact bears (findSlot_lowest free lowest) (slotTaken_free s i)
  · have found := findSlot_full full
    rw [oldest_unique hk (by simp [state, hold]) fun j l hj hl fits => by
      simp only [Bool.and_eq_true, beq_iff_eq, Bool.not_eq_true'] at fits
      exact eldest j l hj hl fits.1 fits.2] at found
    exact bears found (slotTaken_reclaimed hk)

end Sys2Proof.Laws
end

section
/-! PROOFS. The shared operations on one track, each described by what it does where its condition holds and by when it does
nothing: updates of the track, served lists, membership, joining, placing, escape and the SPENT test. -/
namespace Sys2Proof.Laws
open Sys2Proof.Machine

/-! ## The track of a slot set -/

/-- An event in progress with the track of a slot replaced, where the slot holds one. -/
def setTrack (w : Work) (i : SlotId) (v : Track) : Work := w.mod fun s => s.updTrack i fun _ => v

theorem updAt_twice {α : Type} {n : Nat} (v : Vector α n) (i : Fin n) (f g : α → α) :
    updAt (updAt v i f) i g = updAt v i fun x => g (f x) := by
  refine Vector.ext fun j hj => ?_
  rw [updAt_getElem, updAt_getElem, updAt_getElem]
  split <;> rfl

section
variable {w : Work} {i : SlotId} {k : Track}

@[simp] theorem setTrack_out (v : Track) : (setTrack w i v).out = w.out := rfl
@[simp] theorem setTrack_now (v : Track) : (setTrack w i v).st.now = w.st.now := rfl
@[simp] theorem setTrack_stations (v : Track) : (setTrack w i v).st.stations = w.st.stations := rfl
@[simp] theorem setTrack_membershipOf (v k : Track) : (setTrack w i v).st.membershipOf k = w.st.membershipOf k := rfl

@[simp] theorem setTrack_handleOf (v : Track) (j : SlotId) : (setTrack w i v).st.handleOf j = w.st.handleOf j := by
  unfold State.handleOf
  rw [show (setTrack w i v).st.slots = updAt w.st.slots i fun q => { q with track := q.track.map fun _ => v } from rfl]
  rcases updAt_cases w.st.slots i j fun q => { q with track := q.track.map fun _ => v } with ⟨_, e⟩ | ⟨_, e⟩ <;> rw [e]

theorem setTrack_track (v : Track) (h : w.st.track? i = some k) : (setTrack w i v).st.track? i = some v :=
  track_updTrack_same _ h

/-- A track changed is a track set. -/
theorem mod_track (F : State → Track → Track) (h : w.st.track? i = some k) :
    (w.mod fun s => s.updTrack i (F s)) = setTrack w i (F w.st k) :=
  congrArg (fun s => { w with st := s })
    ((updTrack_at (F w.st) h).trans (updTrack_at (s := w.st) (fun _ => F w.st k) h).symm)

theorem setTrack_twice (u v : Track) : setTrack (setTrack w i u) i v = setTrack w i v := by
  let put (v : Track) (q : Slot) : Slot := { q with track := q.track.map fun _ => v }
  have fuse : (fun q => put v (put u q)) = put v := by
    funext q
    exact congrArg (Slot.mk q.gen) (Option.map_map _ _ q.track)
  exact congrArg (fun slots => { w with st := { w.st with slots := slots } })
    ((updAt_twice w.st.slots i (put u) (put v)).trans (congrArg (updAt w.st.slots i) fuse))

theorem setTrack_same (h : w.st.track? i = some k) : setTrack w i k = w := by
  have slot : { w.st.slots[i] with track := w.st.slots[i].track.map fun _ => k } = w.st.slots[i] := by
    rw [show w.st.slots[i].track = some k from h]
    exact congrArg (Slot.mk w.st.slots[i].gen) (show _ = w.st.slots[i].track from h.symm)
  exact congrArg (fun slots => { w with st := { w.st with slots := slots } })
    (updAt_id w.st.slots i (fun q => { q with track := q.track.map fun _ => k }) slot)

theorem setTrack_st (v : Track) (h : w.st.track? i = some k) : (setTrack w i v).st =
    { w.st with slots := updAt w.st.slots i fun q => { q with track := some v } } := updTrack_at _ h

/-! ## Served lists (R102, R103) -/

theorem servedAfter_of_absent {h : Handle} {l : List Served} (holders : List Tick) (absent : ∀ e ∈ l, e.handle ≠ h) :
    servedAfter h holders l = l := by
  unfold servedAfter
  rw [List.filterMap_congr (g := some) fun e he => if_neg (absent e he), List.filterMap_some]

theorem refreshServed_eq (h : w.st.track? i = some k) :
    w.refreshServed i = w.reviseServed fun x => servedAfter (w.st.handleOf i) (k.holders x) := by
  simp only [Work.refreshServed, h]

theorem refreshServed_idle (h : w.st.track? i = some k)
    (same : ∀ x : StationId, servedAfter (w.st.handleOf i) (k.holders x) w.st.stations[x].served = w.st.stations[x].served) :
    w.refreshServed i = w :=
  (refreshServed_eq h).trans (reviseServed_same w _ same)

theorem refreshServed_absent (h : w.st.track? i = some k)
    (absent : ∀ x : StationId, ∀ e ∈ w.st.stations[x].served, e.handle ≠ w.st.handleOf i) : w.refreshServed i = w :=
  refreshServed_idle h fun x => servedAfter_of_absent _ (absent x)

/-! ## Membership (R75) -/

theorem syncMember_idle (h : w.st.track? i = some k) (same : w.st.membershipOf k = k.member) : w.syncMember i = w := by
  simp only [Work.syncMember, h]
  exact if_pos same

theorem syncMember_moves (h : w.st.track? i = some k) (moves : w.st.membershipOf k ≠ k.member) : w.syncMember i =
    (setTrack w i { k with member := w.st.membershipOf k }).memberMove k.member (w.st.membershipOf k) := by
  rw [← mod_track (fun _ t => { t with member := w.st.membershipOf k }) h]
  simp only [Work.syncMember, h]
  exact if_neg moves

/-! ## Joining (R85, R86) -/

/-- Every point of a route that has not resolved has joined the plan. -/
def AllJoined (route : List RouteItem) : Prop := ∀ p ∈ route, p.isPoint = true → p.joined = true

/-- The point sequence lists the route's unresolved points with their places. -/
theorem mem_pointSequence {route : List RouteItem} {p : Nat × RouteItem} :
    p ∈ pointSequence route ↔ route[p.1]? = some p.2 ∧ p.2.isPoint = true := by
  unfold pointSequence
  rw [(sortAfter_perm _ _).mem_iff, List.mem_filter, List.mem_map]
  constructor
  · rintro ⟨⟨q, hq, rfl⟩, point⟩
    exact ⟨List.mem_zipIdx_iff_getElem?.mp hq, point⟩
  · rintro ⟨there, point⟩
    exact ⟨⟨(p.2, p.1), List.mem_zipIdx_iff_getElem?.mpr there, rfl⟩, point⟩

theorem AllJoined.none_waits {route : List RouteItem} (h : AllJoined route) :
    (pointSequence route).find? (fun p => !p.2.joined) = none := by
  refine List.find?_eq_none.mpr fun p hp => ?_
  obtain ⟨there, point⟩ := mem_pointSequence.mp hp
  simp [h p.2 (List.mem_of_getElem? there) point]

theorem fillUp_idle (after : Work → Work) (n : Nat) (h : w.st.track? i = some k)
    (idle : k.plans = false ∨ AllJoined k.route) : Work.fillUp i after n w = w := by
  cases n with
  | zero => rfl
  | succ n =>
    unfold Work.fillUp
    simp only [h]
    rcases idle with rest | joined
    · simp [rest]
    · rw [joined.none_waits]
      exact ite_self _

theorem refill_idle (after : Work → Work) (h : w.st.track? i = some k) (idle : k.plans = false ∨ AllJoined k.route) :
    w.refill i after = w := by
  simp only [Work.refill, h]
  exact fillUp_idle after _ h idle

theorem extend_idle (h : w.st.track? i = some k) (idle : k.plans = false ∨ AllJoined k.route) : w.extend i = w :=
  refill_idle _ h idle

/-! ## Placing, escape and the SPENT test (R54, R67, R69, R84) -/

theorem placeTrack_eq {seg : SegId} (h : w.st.track? i = some k) (at' : currentOf k.route k.base w.st.now = some seg) :
    w.placeTrack i = (setTrack w i { k with current := seg }).syncMember i := by
  rw [← mod_track (fun _ t => { t with current := seg }) h]
  simp only [Work.placeTrack, h, at']

theorem placeTrack_nowhere (h : w.st.track? i = some k) (at' : currentOf k.route k.base w.st.now = none) :
    w.placeTrack i = w := by
  simp only [Work.placeTrack, h, at']

/-- Placing a track that counts on as it did changes its current segment alone. -/
theorem placeTrack_still {seg : SegId} (h : w.st.track? i = some k) (at' : currentOf k.route k.base w.st.now = some seg)
    (same : w.st.membershipOf { k with current := seg } = k.member) :
    w.placeTrack i = setTrack w i { k with current := seg } :=
  (placeTrack_eq h at').trans (syncMember_idle (setTrack_track _ h) same)

theorem spentCheck_idle (h : w.st.track? i = some k) (idle : ¬(k.state = .flight ∧ endsResolved k.route = true)) :
    w.spentCheck i = w := by
  simp only [Work.spentCheck, h]
  exact if_neg idle

theorem planningEscape_idle (h : w.st.track? i = some k) (idle : planningReason k.route = none) :
    w.planningEscape i = w := by
  simp only [Work.planningEscape, h, idle]
  exact ite_self _

end

end Sys2Proof.Laws
end

section
/-! PROOFS. The limits and the travel timer of an abort gate (07), and the tracks that a confirmed gate settles. -/
namespace Sys2Proof.Laws
open Sys2Proof.Machine

/-! ## A gate that enters FAULT (R128) -/

/-- A gate in FAULT, with the notice. -/
def gateFaulted (s : State) (g : GateId) (reason : GateFault) : State :=
  (s.updGate g fun q =>
    { q with state := .fault, timer := none, faultReason := some reason, diversions := [],
             stateChanged := some s.now }).raise .gate

theorem gateFaulted_gate (s : State) (g : GateId) (reason : GateFault) :
    (gateFaulted s g reason).gates[g].state = .fault ∧ (gateFaulted s g reason).gates[g].faultReason = some reason := by
  have here : (gateFaulted s g reason).gates[g] = _ := updAt_same s.gates g _
  rw [here]
  exact ⟨rfl, rfl⟩

theorem gateFaulted_framed (s : State) (g : GateId) (reason : GateFault) : s.Framed (gateFaulted s g reason) := by
  refine framed_trans (framed_of_gates (t := s.updGate g _) rfl fun j => ?_) (raise_kept _ _).framed
  rw [updGate_gates]
  rcases updAt_cases s.gates g j fun q =>
    { q with state := .fault, timer := none, faultReason := some reason, diversions := [],
             stateChanged := some s.now } with ⟨_, e⟩ | ⟨_, e⟩
  · rw [e]
    rfl
  · rw [e]

/-- What a gate's entry into FAULT leaves once it has been delivered. -/
structure GateInFault (s u : State) (g : GateId) (reason : GateFault) : Prop where
  state : u.gates[g].state = .fault
  faultReason : u.gates[g].faultReason = some reason
  raised : u.raised .gate
  framed : s.Framed u
  nextSeq : u.nextSeq = s.nextSeq

theorem faultGate_delivered (s : State) (g : GateId) (reason : GateFault) :
    GateInFault s (s.begin.faultGate g reason).finish g reason := by
  let v : Work := (s.begin.mod fun s => gateFaulted s g reason).push (.gateMoved g)
  have faulted : v.st = gateFaulted s g reason := push_st _ _
  have kept : Kept (gateFaulted s g reason) (s.begin.faultGate g reason).finish := by
    rw [← faulted]
    exact (shutdown_steps v (v.st.lineOfGate g) .gateFault).kept.trans
      (finish_kept _)
  obtain ⟨state, why⟩ := gateFaulted_gate s g reason
  exact ⟨(kept.gates g).fault.mpr state, (kept.gates g).faultReason.trans why, kept.raised .gate (raise_raised _ _),
    framed_trans (gateFaulted_framed s g reason) kept.framed, kept.nextSeq⟩

/-! ## A gate confirmed in NORMAL (R127) -/

/-- A gate confirmed in NORMAL, with the notice. -/
def gateInNormal (s : State) (g : GateId) : State :=
  (s.updGate g fun q => { q with state := .normal, timer := none, stateChanged := some s.now }).raise .gate

theorem confirmGate_normal (w : Work) (g : GateId) :
    w.confirmGate g .normal = (w.mod fun s => gateInNormal s g).settle g .normal := rfl

theorem checkGate_confirms_normal (w : Work) (g : GateId) (use : w.st.gates[g].inUse = true)
    (travel : w.st.gates[g].state = .toNormal)
    (pair : w.st.gates[g].normalLimit = true ∧ w.st.gates[g].abortLimit = false) :
    w.checkGate g = w.confirmGate g .normal := by
  have stands : w.st.gates[g].pairNormal = true := by
    unfold Gate.pairNormal
    rw [pair.1, pair.2]
    rfl
  unfold Work.checkGate
  dsimp only
  rw [use, travel, if_pos stands]
  rfl

/-- A gate that does not travel is not confirmed. -/
theorem checkGate_fault (w : Work) (g : GateId) (fault : w.st.gates[g].state = .fault) : w.checkGate g = w := by
  unfold Work.checkGate
  dsimp only
  rw [fault]
  exact ite_self _

/-! ## Settlement (R95) -/

/-- A route forks at a gate: an item of it stands under one of the gate's outlets. -/
def forks (g : GateId) (route : List RouteItem) : Bool := route.any fun r => r.conds.any fun c => c.gate == g

theorem forks_iff (g : GateId) (route : List RouteItem) : forks g route = true ↔ ∃ r ∈ route, ∃ c ∈ r.conds, c.gate = g := by
  simp [forks]

/-- One slot's part in a settlement. -/
def settleStep (g : GateId) (side : Side) (w : Work) (i : SlotId) : Work :=
  (w.st.track? i).elim w fun t => if forks g t.route then w.settleTrack g side i else w

theorem settle_eq (w : Work) (g : GateId) (side : Side) :
    w.settle g side = (List.finRange 48).foldl (settleStep g side) w := by
  unfold Work.settle
  congr 1
  funext w i
  unfold settleStep
  cases w.st.track? i <;> rfl

section
variable {w : Work} {g : GateId} {side : Side} {i : SlotId} {k : Track}

theorem settleStep_idle (h : ∀ k, w.st.track? i = some k → forks g k.route = false) : settleStep g side w i = w := by
  unfold settleStep
  cases hk : w.st.track? i with
  | none => rfl
  | some k => exact if_neg (by rw [h k hk]; exact Bool.false_ne_true)

theorem settleStep_settles (h : w.st.track? i = some k) (f : forks g k.route = true) :
    settleStep g side w i = w.settleTrack g side i := by
  unfold settleStep
  rw [h]
  exact if_pos f

/-- With no route that forks at the gate there is nothing to settle. -/
theorem settle_idle (h : ∀ (i : SlotId) (k : Track), w.st.track? i = some k → forks g k.route = false) :
    w.settle g side = w := by
  rw [settle_eq]
  exact foldl_same _ w fun i _ => settleStep_idle (h i)

/-- A settlement at a table that holds one track. -/
theorem settle_alone (alone : ∀ j, j ≠ i → w.st.track? j = none) (h : w.st.track? i = some k) (f : forks g k.route = true) :
    w.settle g side = w.settleTrack g side i := by
  rw [settle_eq]
  refine foldl_from_one (P := (· = w.settleTrack g side i)) (List.nodup_finRange 48) (List.mem_finRange i)
    (fun j hj => settleStep_idle fun k hk => nomatch (alone j hj).symm.trans hk) (settleStep_settles h f) ?_
  rintro _ j hj rfl
  have free := (settleTrack_steps w g side i).kept.free (alone j hj)
  exact settleStep_idle fun k hk => nomatch free.symm.trans hk

/-- A SPENT track as a settlement leaves it. -/
def settledTrack (g : GateId) (side : Side) (now : Tick) (k : Track) : Track :=
  { k with
    route := settleRoute g side k.route,
    current := (currentOf (settleRoute g side k.route) k.base now).getD k.current }

/-- A SPENT track without served entries is settled by its route and its current segment alone (log row 47). -/
theorem settleTrack_spent (h : w.st.track? i = some k) (spent : k.state = .spent) (member : k.member = none)
    (absent : ∀ x : StationId, ∀ e ∈ w.st.stations[x].served, e.handle ≠ w.st.handleOf i) :
    w.settleTrack g side i = setTrack w i (settledTrack g side w.st.now k) := by
  let cut : Track := { k with route := settleRoute g side k.route }
  have h₁ : (setTrack w i cut).st.track? i = some cut := setTrack_track cut h
  have rests : cut.plans = false := by simp [cut, Track.plans, spent]
  have served : (setTrack w i cut).refreshServed i = setTrack w i cut := refreshServed_absent h₁ (by simpa using absent)
  have advanced : (setTrack w i cut).advanceSettled i = setTrack w i (settledTrack g side w.st.now k) := by
    have place : (setTrack w i cut).advanceSettled i = (setTrack w i cut).placeTrack i := by
      simp only [Work.advanceSettled, h₁]
      exact if_pos spent
    have settled : settledTrack g side w.st.now k =
        { cut with current := (currentOf cut.route cut.base w.st.now).getD k.current } := rfl
    rw [place, settled]
    cases at' : currentOf cut.route cut.base w.st.now with
    | none => exact placeTrack_nowhere h₁ at'
    | some seg =>
      have counts : (setTrack w i cut).st.membershipOf { cut with current := seg } = cut.member := by
        simp [State.membershipOf, cut, spent, member]
      exact (placeTrack_still h₁ at' counts).trans (setTrack_twice _ _)
  unfold Work.settleTrack
  rw [mod_track (fun _ t => { t with route := settleRoute g side t.route }) h, served, extend_idle h₁ (.inl rests), advanced]
  exact spentCheck_idle (setTrack_track _ h) fun e => by simp [settledTrack, spent] at e

end

/-! ## GATE_LIMIT_CHANGE and GATE_TRAVEL_TIMEOUT -/

/-- The levels of a gate's limits as an event shows them. -/
def limitsShown (s : State) (g : GateId) (n a : Bool) : State :=
  s.updGate g fun q => { q with normalLimit := n, abortLimit := a }

section
variable {s : State} {g : GateId} {n a : Bool}

theorem limitsShown_gate (s : State) (g : GateId) (n a : Bool) :
    (limitsShown s g n a).gates[g] = { s.gates[g] with normalLimit := n, abortLimit := a } := updAt_same _ _ _

/-- The levels shown are acted on where one of them is new and the gate is in use. -/
theorem gateLimitChange_eq (s : State) (g : GateId) (n a : Bool) : exec (.gateLimitChange g n a) s =
    .next ((limitsShown s g n a).event
      ((s.gates[g].normalLimit != n || s.gates[g].abortLimit != a) && s.gates[g].inUse) fun t => t.limitsSeen g) := by
  have use : (limitsShown s g n a).gates[g].inUse = s.gates[g].inUse :=
    (congrArg Gate.inUse (limitsShown_gate s g n a) :)
  rw [← use]
  rfl

theorem gateLimitChange_acts (hr : s.resetLow = false) (use : s.gates[g].inUse = true)
    (changed : s.gates[g].normalLimit ≠ n ∨ s.gates[g].abortLimit ≠ a) :
    exec (.gateLimitChange g n a) s = .next ((limitsShown s g n a).limitsSeen g).finish := by
  rw [gateLimitChange_eq, use]
  exact congrArg Host.Outcome.next (event_due _ _ _ hr (by simpa only [Bool.and_true, Bool.or_eq_true, bne_iff_ne]))

theorem gateLimitChange_unused (use : s.gates[g].inUse = false) :
    exec (.gateLimitChange g n a) s = .next (limitsShown s g n a) := by
  rw [gateLimitChange_eq, use]
  exact congrArg Host.Outcome.next (event_not _ _ _ (.inr (Bool.and_false _)))

theorem gateLimitChange_same (normal : s.gates[g].normalLimit = n) (abort : s.gates[g].abortLimit = a) :
    exec (.gateLimitChange g n a) s = .next (limitsShown s g n a) := by
  rw [gateLimitChange_eq, normal, abort, bne_self_eq_false, bne_self_eq_false]
  exact congrArg Host.Outcome.next (event_not _ _ _ (.inr (Bool.false_and _)))

/-- Limits that do not lose the position of a settled gate are looked at for a confirmation. -/
theorem limitsSeen_checks (s : State) (g : GateId) (keeps : s.gates[g].limitLost = false) :
    s.limitsSeen g = s.begin.checkGate g :=
  if_neg fun lost => by
    rw [keeps] at lost
    cases lost.2

theorem gateLimitChange_fault (hr : s.resetLow = false) (fault : s.gates[g].state = .fault) :
    exec (.gateLimitChange g n a) s = .next (limitsShown s g n a) := by
  by_cases use : s.gates[g].inUse = true
  · by_cases same : s.gates[g].normalLimit = n ∧ s.gates[g].abortLimit = a
    · exact gateLimitChange_same same.1 same.2
    · have here : (limitsShown s g n a).gates[g].state = .fault := by rw [limitsShown_gate]; exact fault
      rw [gateLimitChange_acts hr use (not_and_or.mp same), limitsSeen_checks _ _ (by rw [Gate.limitLost, here]),
        checkGate_fault _ _ here, begin_finish]
  · exact gateLimitChange_unused (Bool.eq_false_iff.mpr use)

section
variable (hr : s.resetLow = false) (use : s.gates[g].inUse = true)
  (changed : s.gates[g].normalLimit ≠ n ∨ s.gates[g].abortLimit ≠ a)
include hr use changed

theorem gateLimitChange_abort (travel : s.gates[g].state = .toAbort) (open' : n = false) (closed : a = true) :
    ∃ u : State, exec (.gateLimitChange g n a) s = .next u ∧ u.gates[g].state = .abort ∧ u.raised .gate ∧
      (limitsShown s g n a).Framed u ∧ u.nextSeq = s.nextSeq := by
  have here := limitsShown_gate s g n a
  have travels : (limitsShown s g n a).gates[g].state = .toAbort := by rw [here]; exact travel
  have seen : (limitsShown s g n a).limitsSeen g = (limitsShown s g n a).begin.confirmGate g .abort := by
    rw [limitsSeen_checks _ _ (by rw [Gate.limitLost, travels])]
    exact checkGate_confirms _ g (by rw [begin_st, here]; exact use) travels
      (by rw [begin_st, here]; exact ⟨closed, open'⟩)
  obtain ⟨state, raised⟩ := confirmGate_abort (limitsShown s g n a).begin g
  have delivered := finish_kept ((limitsShown s g n a).begin.confirmGate g .abort)
  have kept : Kept (limitsShown s g n a) ((limitsShown s g n a).begin.confirmGate g .abort).finish :=
    (confirmGate_steps (limitsShown s g n a).begin g .abort (.inl ⟨travels, rfl⟩)).kept.trans delivered
  exact ⟨_, (gateLimitChange_acts hr use changed).trans (congrArg (fun w => Host.Outcome.next (Work.finish w)) seen),
    (delivered.gates g).abort state, delivered.raised .gate raised, kept.framed, kept.nextSeq⟩

/-- The NORMAL pair of a gate on its way to NORMAL confirms it, and its tracks are settled. -/
theorem gateLimitChange_normal (travel : s.gates[g].state = .toNormal) (closed : n = true) (open' : a = false) :
    exec (.gateLimitChange g n a) s =
      .next (((limitsShown s g n a).begin.mod fun s => gateInNormal s g).settle g .normal).finish := by
  have here := limitsShown_gate s g n a
  have travels : (limitsShown s g n a).gates[g].state = .toNormal := by rw [here]; exact travel
  have seen : (limitsShown s g n a).limitsSeen g = (limitsShown s g n a).begin.confirmGate g .normal := by
    rw [limitsSeen_checks _ _ (by rw [Gate.limitLost, travels])]
    exact checkGate_confirms_normal _ g (by rw [begin_st, here]; exact use) travels
      (by rw [begin_st, here]; exact ⟨closed, open'⟩)
  exact (gateLimitChange_acts hr use changed).trans (congrArg (fun w => Host.Outcome.next (Work.finish w)) seen)

theorem gateLimitChange_lost (hm : s.mode = .guarded)
    (lost : { s.gates[g] with normalLimit := n, abortLimit := a }.limitLost = true) :
    ∃ u : State, exec (.gateLimitChange g n a) s = .next u ∧ GateInFault (limitsShown s g n a) u g .limitLost := by
  have loses : (limitsShown s g n a).mode = .guarded ∧ (limitsShown s g n a).gates[g].limitLost = true :=
    ⟨hm, by rw [limitsShown_gate]; exact lost⟩
  have seen : (limitsShown s g n a).limitsSeen g = (limitsShown s g n a).begin.faultGate g .limitLost := if_pos loses
  exact ⟨_, (gateLimitChange_acts hr use changed).trans (congrArg (fun w => Host.Outcome.next (Work.finish w)) seen),
    faultGate_delivered _ g .limitLost⟩

end

theorem gateTravelTimeout_due {due : Tick} (hr : s.resetLow = false) (hm : s.mode = .guarded) (use : s.gates[g].inUse = true)
    (travel : s.gates[g].state = .toAbort ∨ s.gates[g].state = .toNormal) (timer : s.gates[g].timer = some due)
    (now : due ≤ s.now) : exec (.gateTravelTimeout g) s = .next (s.begin.faultGate g .timeout).finish := by
  have reached : s.travelDue g = true := by
    simp only [State.travelDue, hm, use, timer, reached, now, BEq.rfl, Bool.true_and, decide_true, Bool.and_true]
    rcases travel with e | e <;> rw [e] <;> rfl
  exact congrArg Host.Outcome.next (event_due s _ _ hr reached)

/-- The two updates of a confirmation in NORMAL, as one. -/
theorem gateInNormal_limitsShown (s : State) (g : GateId) : gateInNormal (limitsShown s g true false) g = { s with
    gates := updAt s.gates g fun q =>
      { q with normalLimit := true, abortLimit := false, state := .normal, timer := none, stateChanged := some s.now },
    notices := { s.notices with flags := s.notices.flags ||| Notice.gate.flag } } :=
  congrArg (fun v => { s with
    gates := v, notices := { s.notices with flags := s.notices.flags ||| Notice.gate.flag } })
    (updAt_twice s.gates g (fun q => { q with normalLimit := true, abortLimit := false })
      fun q => { q with state := .normal, timer := none, stateChanged := some s.now })

end

/-- Settles O45: what the limits are judged to be decides between a confirmation, whose settlement is followed for the tracks
named, and a fault, which the deliveries keep. -/
theorem gateLimitsAndTimeout : Obligations.GateLimitsAndTimeout := by
  refine ⟨fun s g n a hr => ?_, fun s g due hr hm use travel timer now => ?_⟩
  · intro seen
    refine ⟨?_, fun use travel hn ha changed => gateLimitChange_abort hr use changed travel hn ha, ?_, ?_, ?_⟩
    · rintro (unused | fault)
      · exact gateLimitChange_unused unused
      · exact gateLimitChange_fault hr fault
    · rintro use travel rfl rfl changed apart
      rw [gateLimitChange_normal hr use changed travel rfl rfl, settle_idle, finish_none _ rfl, mod_st, begin_st,
        gateInNormal_limitsShown]
      intro i k hk
      rw [Bool.eq_false_iff, Ne, forks_iff]
      rintro ⟨r, hr, c, hc, e⟩
      exact apart i k hk r hr c hc e
    · rintro i k use travel rfl rfl changed hk spent member fork alone absent
      intro settled
      let w : Work := (limitsShown s g true false).begin.mod fun s => gateInNormal s g
      have track : w.st.track? i = some k := hk
      have settles : w.settle g .normal = setTrack w i (settledTrack g .normal s.now k) :=
        (settle_alone (w := w) alone track ((forks_iff g _).mpr fork)).trans
          (settleTrack_spent track spent member absent)
      rw [gateLimitChange_normal hr use changed travel rfl rfl, settles, finish_none _ rfl, setTrack_st _ track,
        show w.st = _ from gateInNormal_limitsShown s g]
      rfl
    · rintro use hm lost
      have changed : (s.gates[g].normalLimit ≠ n ∨ s.gates[g].abortLimit ≠ a) ∧
          { s.gates[g] with normalLimit := n, abortLimit := a }.limitLost = true := by
        rcases lost with ⟨state, closed, rfl⟩ | ⟨state, closed, rfl⟩
        · simp only [Gate.limitLost, state, closed]
          exact ⟨.inl Bool.noConfusion, rfl⟩
        · simp only [Gate.limitLost, state, closed]
          exact ⟨.inr Bool.noConfusion, rfl⟩
      obtain ⟨u, run, left⟩ := gateLimitChange_lost hr use changed.1 hm changed.2
      exact ⟨u, run, left.state, left.faultReason, left.raised, left.framed, left.nextSeq⟩
  · have left := faultGate_delivered s g .timeout
    exact ⟨_, gateTravelTimeout_due hr hm use travel timer now, left.state, left.faultReason, left.raised, left.framed,
      left.nextSeq⟩

end Sys2Proof.Laws
end

section
/-! PROOFS. The timers of a track (04): the stall limit, the advance of the current segment with its memberships, stalls and
re-plans, and the recent passes. -/
namespace Sys2Proof.Laws
open Sys2Proof.Machine

/-! ## Escape (R68) -/

/-- A track as an escape leaves it. -/
def escapedTrack (reason : EscapeReason) (k : Track) : Track := { k with state := .escaped, escapeReason := some reason }

/-- The state of the part at an escape, before the membership and the line are told. -/
def escapedState (s : State) (i : SlotId) (reason : EscapeReason) : State :=
  (s.updTrack i (escapedTrack reason)).raise .escaped

/-- What an escape leaves once it has been delivered. -/
structure EscapeLeft (s u : State) (i : SlotId) (reason : EscapeReason) (k v : Track) : Prop where
  track : u.track? i = some v
  step : TrackStep (escapedTrack reason k) v
  raised : u.raised .escaped
  framed : s.Framed u
  nextSeq : u.nextSeq = s.nextSeq

theorem escapeTrack_kept {w : Work} {i : SlotId} {k : Track} (reason : EscapeReason) (h : w.st.track? i = some k)
    (escapes : k.state = .flight ∨ k.state = .stalled) :
    Kept (escapedState w.st i reason) (w.escapeTrack i reason).st := by
  have synced := (syncMember_steps (w.mod fun s => escapedState s i reason) i).kept
  simp only [Work.escapeTrack, h]
  rw [if_pos escapes]
  split
  · exact synced
  · rw [push_st]
    exact synced

theorem Kept.escaped {s u : State} {i : SlotId} {reason : EscapeReason} {k : Track} (h : Kept (escapedState s i reason) u)
    (hk : s.track? i = some k) : ∃ v, EscapeLeft s u i reason k v := by
  have here : (escapedState s i reason).track? i = some (escapedTrack reason k) := track_updTrack_same _ hk
  obtain ⟨v, hv, step⟩ := h.track here
  have framed : s.Framed (escapedState s i reason) :=
    framed_trans (framed_of_slots (t := s.updTrack i (escapedTrack reason)) rfl) (raise_kept _ _).framed
  exact ⟨v, hv, step, h.raised .escaped (raise_raised _ _), framed_trans framed h.framed, h.nextSeq⟩

theorem EscapeLeft.state {s u : State} {i : SlotId} {reason : EscapeReason} {k v : Track}
    (h : EscapeLeft s u i reason k v) : v.state = .escaped ∧ v.escapeReason = some reason := h.step.escaped rfl

/-! ## Events at a track -/

section
variable {s : State} {i : SlotId} {k : Track}

theorem trackEvent_due {due : Track → Bool} {f : State → Work} (hr : s.resetLow = false) (h : s.track? i = some k)
    (hd : due k = true) : s.trackEvent i due f = (f s).finish :=
  event_due s _ f hr (by rw [h]; exact hd)

theorem stallLimitExpiry_due {since : Tick} (hr : s.resetLow = false) (h : s.track? i = some k) (state : k.state = .stalled)
    (stalled : k.stalledSince = some since) (limit : since + s.limits.stallLimit * 10000 ≤ s.now) :
    exec (.stallLimitExpiry i) s = .next (s.begin.escapeTrack i .stall).finish := by
  have due : s.stallDue k = true := by
    simp [State.stallDue, state, stalled, reached, Config.second, limit]
  exact congrArg Host.Outcome.next (trackEvent_due hr h due)

theorem recentPassExpiry_due (hr : s.resetLow = false) (h : s.track? i = some k) (due : ∃ p ∈ k.passes, p.leaves ≤ s.now) :
    exec (.recentPassExpiry i) s = .next { s with
      slots := updAt s.slots i fun q =>
        { q with track := some { k with passes := k.passes.filter fun p => !decide (p.leaves ≤ s.now) } } } := by
  have leaves : s.passDue k = true := by simpa [State.passDue] using due
  refine congrArg Host.Outcome.next ((trackEvent_due hr h leaves).trans ((begin_finish _).trans ?_))
  exact updTrack_at (fun t => { t with passes := t.passes.filter fun p => !decide (p.leaves ≤ s.now) }) h

/-- The current segment advances: the track is placed, and the segment it has come to is looked at. -/
theorem segmentAdvance_due {seg : SegId} (hr : s.resetLow = false) (h : s.track? i = some k) (plans : k.plans = true)
    (at' : currentOf k.route k.base s.now = some seg) (new : seg ≠ k.current) :
    exec (.segmentAdvance i) s = .next ((s.begin.placeTrack i).entered i).finish := by
  have due : s.advanceDue k = true := by simp [State.advanceDue, plans, at', new]
  have advances : s.begin.advance i = (s.begin.placeTrack i).entered i := by
    simp only [Work.advance, begin_st, h]
    exact if_neg (by simp [plans, at', new])
  rw [← advances]
  exact congrArg Host.Outcome.next (trackEvent_due hr h due)

end

/-! ## Where the route puts a track (R54, R84) -/

theorem last_filter_iff {α : Type} (p : α → Bool) (l : List α) (r : α) :
    (l.filter p).getLast? = some r ↔ p r = true ∧ ∃ front back, l = front ++ r :: back ∧ ∀ q ∈ back, p q = false := by
  rw [← List.head?_reverse, ← List.filter_reverse, List.head?_filter, List.find?_eq_some_iff_append]
  refine and_congr_right fun _ => ⟨?_, ?_⟩
  · rintro ⟨as, bs, e, none⟩
    refine ⟨bs.reverse, as.reverse, ?_, fun q hq => by simpa using none q (List.mem_reverse.mp hq)⟩
    rw [← l.reverse_reverse, e]
    simp
  · rintro ⟨front, back, rfl, none⟩
    exact ⟨back.reverse, front.reverse, by simp, fun q hq => by simpa using none q (List.mem_reverse.mp hq)⟩

/-- The last element that meets a condition, by its place. -/
theorem last_filter_iff_place {α : Type} (p : α → Bool) (l : List α) (r : α) :
    (l.filter p).getLast? = some r ↔
      p r = true ∧ ∃ n : Nat, l[n]? = some r ∧ ∀ (m : Nat) (q : α), n < m → l[m]? = some q → p q = false := by
  rw [last_filter_iff]
  refine and_congr_right fun _ => ⟨?_, ?_⟩
  · rintro ⟨front, back, rfl, none⟩
    refine ⟨front.length, by simp, fun m q lt hq => none q ?_⟩
    have later : (r :: back)[m - front.length]? = some q := by rwa [List.getElem?_append_right lt.le] at hq
    obtain ⟨j, hj⟩ : ∃ j, m - front.length = j + 1 := ⟨m - front.length - 1, by omega⟩
    rw [hj, List.getElem?_cons_succ] at later
    exact List.mem_of_getElem? later
  · rintro ⟨n, hn, none⟩
    obtain ⟨lt, e⟩ := List.getElem?_eq_some_iff.mp hn
    refine ⟨l.take n, l.drop (n + 1), ?_, fun q hq => ?_⟩
    · rw [← e, List.getElem_cons_drop, List.take_append_drop]
    · obtain ⟨j, hj⟩ := List.mem_iff_getElem?.mp hq
      rw [List.getElem?_drop] at hj
      exact none (n + 1 + j) q (by omega) hj

/-- An unconditional entry of a route that is due. -/
def EntryDue (base now : Tick) (r : RouteItem) : Prop :=
  (∃ via, r.item = .entry via) ∧ r.conds = [] ∧ base + r.early ≤ now

theorem isEntry_iff (item : Item) : item.isEntry = true ↔ ∃ via, item = .entry via := by
  cases item <;> simp [Item.isEntry]

theorem entryDue_iff (base now : Tick) (r : RouteItem) :
    (r.item.isEntry && r.conds.isEmpty && decide (base + r.early ≤ now)) = true ↔ EntryDue base now r := by
  rw [Bool.and_eq_true, Bool.and_eq_true, isEntry_iff, List.isEmpty_iff, decide_eq_true_iff, and_assoc]
  rfl

theorem currentOf_iff (route : List RouteItem) (base now : Tick) (seg : SegId) :
    currentOf route base now = some seg ↔ ∃ (n : Nat) (r : RouteItem), route[n]? = some r ∧ EntryDue base now r ∧
      r.seg = seg ∧ ∀ (m : Nat) (q : RouteItem), n < m → route[m]? = some q → ¬EntryDue base now q := by
  unfold currentOf
  simp only [Option.map_eq_some_iff, last_filter_iff_place, ← entryDue_iff, Bool.not_eq_true]
  constructor
  · rintro ⟨r, ⟨due, n, hn, none⟩, rfl⟩
    exact ⟨n, r, hn, due, rfl, none⟩
  · rintro ⟨n, r, hn, due, rfl, none⟩
    exact ⟨r, ⟨due, n, hn, none⟩, rfl⟩

/-! ## The segment that a track has come to (R61, R64) -/

section
variable {w : Work} {i : SlotId} {k : Track}

theorem endsInStall_iff {r : RouteItem} :
    r.endsInStall = true ↔ (∃ m b, r.item = .terminal .stallEnd m b) ∧ r.conds = [] := by
  unfold RouteItem.endsInStall
  cases r.item with
  | terminal kind m b => cases kind <;> simp
  | _ => simp

/-- A route without an unconditional STALL_END on a segment is not planned anew from there. -/
theorem replanStallEnd_none (s : State) {seg : SegId} {route : List RouteItem}
    (no : ∀ r ∈ route, r.seg = seg → r.conds = [] → ∀ m b, r.item ≠ .terminal .stallEnd m b) :
    s.replanStallEnd seg route = none := by
  have none : (route.findIdx? fun r => r.seg == seg && r.endsInStall) = none := by
    rw [List.findIdx?_eq_none_iff]
    intro r hr
    by_contra yes
    rw [Bool.not_eq_false, Bool.and_eq_true, beq_iff_eq, endsInStall_iff] at yes
    obtain ⟨here, ⟨m, b, e⟩, plain⟩ := yes
    exact no r hr here plain m b e
  simp only [State.replanStallEnd, none]

theorem entered_idle (h : w.st.track? i = some k) (flows : w.st.segStalled k.current = false)
    (no : ∀ r ∈ k.route, r.seg = k.current → r.conds = [] → ∀ m b, r.item ≠ .terminal .stallEnd m b) :
    w.entered i = w := by
  simp only [Work.entered, h, flows, replanStallEnd_none w.st no]
  exact ite_self _

theorem entered_stalls (h : w.st.track? i = some k) (plans : k.plans = true) (still : w.st.segStalled k.current = true) :
    w.entered i = w.enterStall i := by
  simp [Work.entered, h, plans, still]

theorem entered_replans {route : List RouteItem} (h : w.st.track? i = some k) (plans : k.plans = true)
    (flows : w.st.segStalled k.current = false) (replan : w.st.replanStallEnd k.current k.route = some route) :
    w.entered i = w.takeRoute i route := by
  simp [Work.entered, h, plans, flows, replan]

theorem syncMember_track (h : w.st.track? i = some k) :
    ∃ m, (w.syncMember i).st.track? i = some { k with member := m } := by
  by_cases same : w.st.membershipOf k = k.member
  · exact ⟨k.member, by rw [syncMember_idle h same]; exact h⟩
  · refine ⟨w.st.membershipOf k, ?_⟩
    rw [syncMember_moves h same, State.track?, memberMove_slots]
    exact setTrack_track _ h

theorem placeTrack_track {seg : SegId} (h : w.st.track? i = some k) (at' : currentOf k.route k.base w.st.now = some seg) :
    ∃ m, (w.placeTrack i).st.track? i = some { k with current := seg, member := m } := by
  rw [placeTrack_eq h at']
  exact syncMember_track (setTrack_track { k with current := seg } h)

end

theorem Kept.segStalled {s t : State} (h : Kept s t) (seg : SegId) : t.segStalled seg = s.segStalled seg := by
  unfold State.segStalled
  rw [h.segments, h.airflows]

/-! ## A membership moves between two zones (R75, R148, R150) -/

/-- A zone once its level has been recomputed at a tick. -/
def judgedZone (now : Tick) (q : Zone) : Zone :=
  { q with level := q.computed, levelChanged := if q.computed = q.level then q.levelChanged else some now }

theorem recompute_zones (w : Work) (z : ZoneId) :
    (w.recompute z).st.zones = updAt w.st.zones z (judgedZone w.st.now) := by
  unfold Work.recompute
  dsimp only
  split
  · rename_i same
    refine (updAt_id w.st.zones z _ ?_).symm
    unfold judgedZone
    rw [← same, if_pos rfl]
  · rename_i new
    rw [push_st]
    refine updAt_congr w.st.zones z
      (f := fun q => { q with level := w.st.zones[z].computed, levelChanged := some w.st.now }) ?_
    unfold judgedZone
    rw [if_neg (Ne.symm new)]

theorem recompute_zone_at (w : Work) (z x : ZoneId) : (w.recompute z).st.zones[x] =
    if x = z then judgedZone w.st.now w.st.zones[x] else w.st.zones[x] := by
  rw [recompute_zones]
  rcases updAt_cases w.st.zones z x (judgedZone w.st.now) with ⟨e, r⟩ | ⟨e, r⟩
  · rw [r, if_pos e]
  · rw [r, if_neg e]

/-- The counts of a membership change, and the arrival of TRACK_ESCAPED with it. -/
def recount (old new : Membership) (s : State) : State :=
  match new with
  | .escaped z => ((s.leave old).join new).updZone z (Zone.latch .alarm)
  | .live _ => (s.leave old).join new

theorem memberMove_both (w : Work) (old new : Membership) : w.memberMove (some old) (some new) =
    ((w.mod (recount old new)).recompute old.zone).recompute new.zone := by
  cases new <;> rfl

/-- Two different zones, each changed by its own function, and no other. -/
structure TwoZones (s t : State) (z y : ZoneId) (left come : Zone) : Prop where
  left : t.zones[z] = left
  come : t.zones[y] = come
  others : ∀ x : ZoneId, x ≠ z → x ≠ y → t.zones[x] = s.zones[x]

theorem recompute_two {s : State} {w : Work} {z y : ZoneId} {left come : Zone} (apart : y ≠ z)
    (h : TwoZones s w.st z y left come) : TwoZones s ((w.recompute z).recompute y).st z y
      (judgedZone w.st.now left) (judgedZone w.st.now come) where
  left := by
    rw [recompute_zone_at, if_neg (Ne.symm apart), recompute_zone_at, if_pos rfl, h.left]
  come := by
    rw [recompute_zone_at, if_pos rfl, recompute_zone_at, if_neg apart, h.come, (recompute_kept w z).now]
  others x hz hy := by
    rw [recompute_zone_at, if_neg hy, recompute_zone_at, if_neg hz, h.others x hz hy]

theorem recount_live (s : State) {z y : ZoneId} (apart : y ≠ z) : TwoZones s (recount (.live z) (.live y) s) z y
    { s.zones[z] with live := s.zones[z].live - 1 } { s.zones[y] with live := s.zones[y].live + 1 } where
  left := (updAt_other _ _ _ _ (Ne.symm apart)).trans (updAt_same _ _ _)
  come := (updAt_same _ _ _).trans
    (congrArg (fun q : Zone => { q with live := q.live + 1 }) (updAt_other s.zones z y _ apart))
  others _ hz hy := (updAt_other _ _ _ _ hy).trans (updAt_other _ _ _ _ hz)

/-- A zone that gains an escaped track, at which TRACK_ESCAPED arrives (R148). -/
def gainsEscaped (q : Zone) : Zone := Zone.latch .alarm { q with escaped := q.escaped + 1 }

theorem recount_escaped (s : State) {z y : ZoneId} (apart : y ≠ z) :
    TwoZones s (recount (.escaped z) (.escaped y) s) z y { s.zones[z] with escaped := s.zones[z].escaped - 1 }
      { s.zones[y] with
        escaped := s.zones[y].escaped + 1, latched := s.zones[y].latched.sup .alarm, acknowledged := false } where
  left := (updAt_other _ _ _ _ (Ne.symm apart)).trans
    ((updAt_other _ _ _ _ (Ne.symm apart)).trans (updAt_same _ _ _))
  come := (updAt_same _ _ _).trans ((congrArg (Zone.latch .alarm) (updAt_same _ _ _)).trans
    (congrArg gainsEscaped (updAt_other s.zones z y _ apart)))
  others _ hz hy := (updAt_other _ _ _ _ hy).trans ((updAt_other _ _ _ _ hy).trans (updAt_other _ _ _ _ hz))

/-! ## Changes of level away from FIRE reach shutters and sirens alone (R138, R156) -/

/-- A delivery of a change of level that FIRE has no part in. -/
def Tame (d : Delivery) : Prop := ∃ z old new, d = .zoneLevel z old new ∧ old ≠ .fire ∧ new ≠ .fire

/-- A zone stands at FIRE exactly if FIRE is latched in it. -/
def FireLatched (q : Zone) : Prop := q.level = .fire ↔ q.latched = .fire

theorem sup_fire_iff {a b : Level} (h : b ≠ .fire) : a.sup b = .fire ↔ a = .fire := by
  cases a <;> cases b <;> first | contradiction | decide

theorem computed_fire_iff (q : Zone) : q.computed = .fire ↔ q.latched = .fire := by
  unfold Zone.computed
  split
  · rfl
  · exact sup_fire_iff (by decide)

theorem fireLatched_of_computed {q : Zone} (h : q.level = q.computed) : FireLatched q := by
  unfold FireLatched
  rw [h]
  exact computed_fire_iff q

theorem judgedZone_fireLatched (now : Tick) (q : Zone) : FireLatched (judgedZone now q) := computed_fire_iff q

theorem recompute_tame {w : Work} (z : ZoneId) (h : ∀ x : ZoneId, FireLatched w.st.zones[x]) (out : ∀ d ∈ w.out, Tame d) :
    (∀ x : ZoneId, FireLatched (w.recompute z).st.zones[x]) ∧ ∀ d ∈ (w.recompute z).out, Tame d := by
  refine ⟨fun x => ?_, ?_⟩
  · rw [recompute_zone_at]
    split
    · exact judgedZone_fireLatched _ _
    · exact h x
  · unfold Work.recompute
    dsimp only
    split
    · exact out
    · rename_i moves
      intro d hd
      rcases List.mem_append.mp hd with hd | hd
      · exact out d hd
      · obtain rfl := List.mem_singleton.mp hd
        have fire : w.st.zones[z].level = .fire ↔ w.st.zones[z].computed = .fire :=
          (h z).trans (computed_fire_iff _).symm
        exact ⟨z, _, _, rfl, fun e => moves (e.trans (fire.mp e).symm), fun e => moves ((fire.mpr e).trans e.symm)⟩

/-- A state that differs from another in its zones, shutters and sirens and in the notices raised. -/
structure Rezoned (s t : State) : Prop where
  rest : { t with zones := s.zones, shutters := s.shutters, sirens := s.sirens, notices := s.notices } = s

theorem Rezoned.trans {s t u : State} (h : Rezoned s t) (k : Rezoned t u) : Rezoned s u :=
  ⟨(congrArg (fun v : State =>
    { v with zones := s.zones, shutters := s.shutters, sirens := s.sirens, notices := s.notices }) k.rest).trans h.rest⟩

theorem ZonesOnly.rezoned {s t : State} (h : ZonesOnly s t) : Rezoned s t :=
  ⟨(congrArg (fun v : State => { v with shutters := s.shutters, sirens := s.sirens }) h.rest :)⟩

/-- A state that differs from another in its shutters and sirens and in the notices raised. -/
structure Signalled (s t : State) : Prop where
  rest : { t with shutters := s.shutters, sirens := s.sirens, notices := s.notices } = s

theorem Signalled.same (s : State) : Signalled s s := ⟨rfl⟩

theorem Signalled.trans {s t u : State} (h : Signalled s t) (k : Signalled t u) : Signalled s u :=
  ⟨(congrArg (fun v : State => { v with shutters := s.shutters, sirens := s.sirens, notices := s.notices }) k.rest).trans
    h.rest⟩

theorem Signalled.zones {s t : State} (h : Signalled s t) : t.zones = s.zones := (congrArg State.zones h.rest :)

theorem Signalled.rezoned {s t : State} (h : Signalled s t) : Rezoned s t :=
  ⟨(congrArg (fun v : State => { v with zones := s.zones }) h.rest :)⟩

/-- A shutter that neither enters nor leaves FAULT moves without touching a zone. -/
theorem moveShutter_signalled (s : State) (i : ShutterId) (f : Shutter → Shutter) (before : s.shutters[i].state ≠ .fault)
    (after : (f s.shutters[i]).state ≠ .fault) : Signalled s (s.moveShutter i f) := by
  have same : ((s.shutters[i].state == .fault) == ((f s.shutters[i]).state == .fault)) = true := by
    rw [beq_eq_false_iff_ne.mpr before, beq_eq_false_iff_ne.mpr after]
    rfl
  unfold State.moveShutter
  dsimp only
  rw [same, Bool.true_or, if_pos rfl]
  split <;> exact ⟨rfl⟩

theorem toDropping_state (h : Shutter) (now : Tick) : (h.toDropping now).state = .dropping := rfl

theorem toClosing_state (h : Shutter) (now : Tick) : (h.toClosing now).state ≠ .fault := by
  unfold Shutter.toClosing Shutter.obstruct
  dsimp only
  split
  · split
    · exact ShutterState.noConfusion
    · rw [toDropping_state]
      exact ShutterState.noConfusion
  · exact ShutterState.noConfusion

theorem judgeShutter_signalled (s : State) (i : ShutterId) : Signalled s (s.judgeShutter i) := by
  unfold State.judgeShutter
  dsimp only
  split
  · rename_i closes
    simp only [Bool.and_eq_true, Bool.or_eq_true, beq_iff_eq] at closes
    refine moveShutter_signalled _ _ _ ?_ (toClosing_state _ _)
    rcases closes.2 with e | e <;> rw [e] <;> exact ShutterState.noConfusion
  · exact .same s

theorem dropShutter_signalled (s : State) (i : ShutterId) : Signalled s (s.dropShutter i) := by
  have drops : s.shutters[i].state ≠ .fault → Signalled s (s.moveShutter i fun h => h.toDropping s.now) :=
    fun sound => moveShutter_signalled _ _ _ sound (by rw [toDropping_state]; exact ShutterState.noConfusion)
  unfold State.dropShutter
  split
  case h_5 => exact .same s
  all_goals
    rename_i e
    exact drops (by rw [e]; exact ShutterState.noConfusion)

theorem shuttersSee_signalled (s : State) (z : ZoneId) (new : Level) : Signalled s (s.shuttersSee z new) := by
  unfold State.shuttersSee
  refine foldl_related .same .trans (fun s i => ?_) _ s
  dsimp only
  split
  · split
    · exact dropShutter_signalled s i
    · exact judgeShutter_signalled s i
  · exact .same s

theorem sirensSee_signalled (s : State) (z : ZoneId) : Signalled s (s.sirensSee z) := by
  unfold State.sirensSee
  exact ⟨rfl⟩

/-- A change of level that FIRE has no part in reaches neither lines nor stations. -/
theorem act_tame {w : Work} {d : Delivery} (h : Tame d) : (w.act d).out = w.out ∧ Signalled w.st (w.act d).st := by
  obtain ⟨z, old, new, rfl, hold, hnew⟩ := h
  have lines : w.linesSee z new = w := by
    unfold Work.linesSee
    rw [if_neg hnew]
  have stations : w.stationsSee z old new = w := by
    unfold Work.stationsSee
    rw [if_neg (not_or.mpr ⟨hold, hnew⟩)]
  have acts : w.act (.zoneLevel z old new) = w.mod fun s => (s.shuttersSee z new).sirensSee z := by
    simp only [Work.act, lines, stations]
  rw [acts]
  exact ⟨mod_out w _, (shuttersSee_signalled w.st z new).trans (sirensSee_signalled (w.st.shuttersSee z new) z)⟩

theorem run_tame (n : Nat) (w : Work) (out : ∀ d ∈ w.out, Tame d) : Signalled w.st (Work.run n w).st := by
  induction n generalizing w with
  | zero => exact .same _
  | succ n ih =>
    cases e : w.out with
    | nil => rw [run_none _ _ e]; exact .same _
    | cons d ds =>
      rw [e, List.forall_mem_cons] at out
      obtain ⟨rest, seen⟩ := act_tame (w := { w with out := ds }) out.1
      rw [run_cons n w d ds e]
      exact seen.trans (ih _ (by rw [rest]; exact out.2))

theorem finish_tame (w : Work) (out : ∀ d ∈ w.out, Tame d) : Signalled w.st w.finish := run_tame _ w out

end Sys2Proof.Laws
end

section
/-! PROOFS. The advance of a track's current segment, case by case of the segment it comes to (R54, R61, R64, R75). -/
namespace Sys2Proof.Laws
open Sys2Proof.Machine

/-! ## The advance into another zone -/

theorem TwoZones.fireLatched {s t : State} {z y : ZoneId} {left come : Zone} (h : TwoZones s t z y left come)
    (all : ∀ x : ZoneId, FireLatched s.zones[x]) (hl : FireLatched left) (hc : FireLatched come) :
    ∀ x : ZoneId, FireLatched t.zones[x] := by
  intro x
  by_cases hz : x = z
  · rw [hz, h.left]; exact hl
  · by_cases hy : x = y
    · rw [hy, h.come]; exact hc
    · rw [h.others x hz hy]; exact all x

theorem TwoZones.seen {s t u : State} {z y : ZoneId} {left come : Zone} (h : TwoZones s t z y left come)
    (same : u.zones = t.zones) : TwoZones s u z y left come where
  left := by rw [same]; exact h.left
  come := by rw [same]; exact h.come
  others x hz hy := by rw [same]; exact h.others x hz hy

theorem recount_now (s : State) (old new : Membership) : (recount old new s).now = s.now := by
  cases old <;> cases new <;> rfl

section
variable {s : State} {i : SlotId} {k : Track} {seg : SegId}

/-- A track that moves from one zone to another leaves the zones as its membership's move makes them, and what the change
of their levels reaches is told; nothing else of the part changes. -/
theorem segmentAdvance_moves {old new : Membership} {left come : Zone} (hr : s.resetLow = false) (h : s.track? i = some k)
    (plans : k.plans = true) (at' : currentOf k.route k.base s.now = some seg) (moves : seg ≠ k.current)
    (was : k.member = some old) (becomes : s.membershipOf { k with current := seg } = some new)
    (apart : new.zone ≠ old.zone) (flows : s.segStalled seg = false)
    (no : ∀ r ∈ k.route, r.seg = seg → r.conds = [] → ∀ m b, r.item ≠ .terminal .stallEnd m b)
    (recounts : ∀ t : State, t.zones = s.zones → TwoZones t (recount old new t) old.zone new.zone left come)
    (levels : s.levelsComputed) (hl : FireLatched left) (hc : FireLatched come) :
    ∃ t : State, exec (.segmentAdvance i) s = .next t ∧
      t = { (setTrack s.begin i { k with current := seg, member := some new }).st with
            zones := t.zones, shutters := t.shutters, sirens := t.sirens, notices := t.notices } ∧
      t.zones[old.zone] = judgedZone s.now left ∧ t.zones[new.zone] = judgedZone s.now come ∧
      ∀ x : ZoneId, x ≠ old.zone → x ≠ new.zone → t.zones[x] = s.zones[x] := by
  have differs : s.membershipOf { k with current := seg } ≠ k.member := by
    rw [becomes, was]
    intro e
    cases e
    exact apart rfl
  let p := setTrack s.begin i { k with current := seg, member := some new }
  have placed : s.begin.placeTrack i = p.memberMove (some old) (some new) := by
    have here : (setTrack s.begin i { k with current := seg }).st.track? i = some { k with current := seg } :=
      setTrack_track _ h
    rw [placeTrack_eq (w := s.begin) h at', syncMember_moves here differs, setTrack_twice, setTrack_membershipOf]
    dsimp only
    rw [was]
    exact congrArg (fun m => (setTrack s.begin i { k with current := seg, member := m }).memberMove (some old) m) becomes
  have there : (s.begin.placeTrack i).st.track? i = some { k with current := seg, member := some new } := by
    rw [placed, State.track?, memberMove_slots]
    exact setTrack_track _ h
  have stays : (s.begin.placeTrack i).entered i = s.begin.placeTrack i :=
    entered_idle there (((placeTrack_steps s.begin i).kept.segStalled seg).trans flows) no
  have all : ∀ x : ZoneId, FireLatched s.zones[x] := fun x => fireLatched_of_computed (levels x)
  have two : TwoZones p.st (recount old new p.st) old.zone new.zone left come := recounts p.st rfl
  have mid := recompute_tame (w := p.mod (recount old new)) old.zone (two.fireLatched all hl hc) (fun _ => nofun)
  have final := recompute_tame new.zone mid.1 mid.2
  rw [← memberMove_both] at final
  have told := finish_tame _ final.2
  have zones := recompute_two (w := p.mod (recount old new)) apart two
  rw [← memberMove_both, mod_st, recount_now] at zones
  have rest := ((memberMove_zonesOnly p (some old) (some new)).rezoned.trans told.rezoned).rest
  have runs : exec (.segmentAdvance i) s = .next (p.memberMove (some old) (some new)).finish := by
    rw [segmentAdvance_due hr h plans at' moves, stays, placed]
  obtain ⟨zl, zc, zo⟩ := zones.seen told.zones
  refine ⟨_, runs, ?_, zl, zc, zo⟩
  exact (congrArg (fun v : State =>
    { v with
      zones := (p.memberMove (some old) (some new)).finish.zones
      shutters := (p.memberMove (some old) (some new)).finish.shutters
      sirens := (p.memberMove (some old) (some new)).finish.sirens
      notices := (p.memberMove (some old) (some new)).finish.notices }) rest :)

/-! ## The advance into stalled air -/

/-- What an advance into stalled air leaves of the track and of the part. -/
theorem segmentAdvance_stalls (hr : s.resetLow = false) (h : s.track? i = some k) (plans : k.plans = true)
    (at' : currentOf k.route k.base s.now = some seg) (moves : seg ≠ k.current) (still : s.segStalled seg = true) :
    ∃ (t : State) (v : Track), exec (.segmentAdvance i) s = .next t ∧ t.track? i = some v ∧ v.base = k.base ∧
      v.stalledSince = some s.now ∧ (k.state = .flight → v.state = .stalled) ∧
      (k.state = .escaped → v.state = .escaped ∧ v.escapeReason = k.escapeReason) ∧ s.Framed t ∧
      t.nextSeq = s.nextSeq := by
  obtain ⟨m, there⟩ := placeTrack_track (w := s.begin) h at'
  have placed := (placeTrack_steps s.begin i).kept
  have stalls := entered_stalls there plans ((placed.segStalled seg).trans still)
  have entered := ((placed.trans (entered_steps _ i).kept).trans (finish_kept _))
  have track := enterStall_track there plans
  rw [← stalls] at track
  obtain ⟨v, hv, step⟩ := (finish_kept _).track track
  refine ⟨_, v, segmentAdvance_due hr h plans at' moves, hv, step.base, ?_, fun flies => step.stalled ?_,
    fun escaped => step.escaped ?_, entered.framed, entered.nextSeq⟩
  · exact (step.since rfl).trans (congrArg some placed.now)
  · exact if_pos flies
  · exact (if_neg fun e => by rw [escaped] at e; cases e).trans escaped

/-- With its membership as it was and every window of it open, an advance into stalled air cuts the route back and changes
nothing else. -/
theorem segmentAdvance_cutBack (hr : s.resetLow = false) (h : s.track? i = some k) (plans : k.plans = true)
    (at' : currentOf k.route k.base s.now = some seg) (moves : seg ≠ k.current) (still : s.segStalled seg = true)
    (same : s.membershipOf { k with current := seg } = k.member)
    (opened : ∀ x : StationId, ∀ e ∈ s.stations[x].served, e.handle = s.handleOf i → e.active = true) :
    exec (.segmentAdvance i) s = .next (setTrack s.begin i (stalledTrack s.now { k with current := seg })).st := by
  have there : (setTrack s.begin i { k with current := seg }).st.track? i = some { k with current := seg } :=
    setTrack_track _ h
  have stalls := entered_stalls there plans still
  rw [enterStall_open there plans (by rw [setTrack_handleOf]; exact opened),
    mod_track (fun s => stalledTrack s.now) there, setTrack_twice] at stalls
  rw [segmentAdvance_due hr h plans at' moves, placeTrack_still h at' same, stalls]
  exact congrArg Host.Outcome.next (finish_none _ rfl)

/-! ## The advance into the segment of a STALL_END whose air has returned -/

/-- What an advance into flowing air leaves of the track and of the part. -/
theorem segmentAdvance_flows (hr : s.resetLow = false) (h : s.track? i = some k) (plans : k.plans = true)
    (at' : currentOf k.route k.base s.now = some seg) (moves : seg ≠ k.current) :
    ∃ (t : State) (v : Track), exec (.segmentAdvance i) s = .next t ∧ t.track? i = some v ∧ v.base = k.base ∧
      v.survived = k.survived ∧ (k.covered = true → v.covered = true) ∧ s.Framed t ∧ t.nextSeq = s.nextSeq ∧
      ((∀ o : SegId, s.segStalled o = false) → v.stalledSince = none ∧ v.state ≠ .stalled) := by
  obtain ⟨alive, rested⟩ := (plans_iff k).mp plans
  have first : Quiets s ((s.begin.placeTrack i).entered i).st :=
    (placeTrack_steps s.begin i).trans (entered_steps (s.begin.placeTrack i) i)
  have last := finish_steps ((s.begin.placeTrack i).entered i)
  have kept := first.kept.trans last.kept
  obtain ⟨v, hv, step⟩ := kept.track h
  refine ⟨_, v, segmentAdvance_due hr h plans at' moves, hv, step.base, step.survived, step.covered, kept.framed,
    kept.nextSeq, fun flows => ?_⟩
  obtain ⟨u, hu, calm⟩ := first.calm flows i k h rested
  obtain ⟨v', hv', calm'⟩ := last.calm (fun o => (first.kept.segStalled o).trans (flows o)) i u hu calm
  obtain rfl : v' = v := Option.some.inj (hv'.symm.trans hv)
  refine ⟨calm', step.flies ?_ calm'⟩
  rcases alive with e | e <;> rw [e] <;> exact TrackState.noConfusion

end

end Sys2Proof.Laws
end

section
/-! PROOFS. A route that runs through entries to one end, taken up (R64, R83, R86, R98); and the timers of a track. -/
namespace Sys2Proof.Laws
open Sys2Proof.Machine

/-! ## A route of entries up to its end -/

/-- A stretch of a route that holds entries alone. -/
def Entries (front : List RouteItem) : Prop := ∀ r ∈ front, ∃ via, r.item = .entry via

section
variable {front : List RouteItem} {e : RouteItem}

theorem Entries.lastStation (h : Entries front) (conds : List Cond) : lastStation front conds = none := by
  refine foldl_same front none fun r hr => ?_
  obtain ⟨via, hi⟩ := h r hr
  simp only [hi]

theorem markAll_entries (h : Entries front) (before rest : List RouteItem) :
    markAll before (front ++ rest) = front ++ markAll (before ++ front) rest := by
  induction front generalizing before with
  | nil => simp
  | cons r front ih =>
    obtain ⟨via, hi⟩ := h r (.head _)
    have later := ih (fun q hq => h q (.tail _ hq)) (before ++ [r])
    simp only [List.cons_append, markAll, hi]
    rw [later, List.append_assoc, List.singleton_append]

theorem marked_entries_end {kind : EndOf} {b : Bool} (h : Entries front) (he : e.item = .terminal kind none b) :
    marked (front ++ [e]) = front ++ [e] := by
  have same : ({ e with item := .terminal kind none b } : RouteItem) = e := by rw [← he]
  unfold marked
  rw [markAll_entries h, List.nil_append]
  simp only [markAll, he, h.lastStation, same]

/-- The only unresolved point of such a route is its end. -/
theorem Entries.point_place (h : Entries front) {n : Nat} {r : RouteItem} (there : (front ++ [e])[n]? = some r)
    (point : r.isPoint = true) : n = front.length ∧ r = e := by
  rw [List.getElem?_append] at there
  split at there
  · obtain ⟨via, hi⟩ := h r (List.mem_of_getElem? there)
    simp [RouteItem.isPoint, hi] at point
  · rename_i late
    obtain ⟨at', rfl⟩ : n - front.length = 0 ∧ e = r := by simpa [List.getElem?_singleton] using there
    exact ⟨by omega, rfl⟩

theorem planningReason_end {b : Bool} (h : Entries front) (he : e.item = .terminal .safeEnd none b) :
    planningReason (front ++ [e]) = none := by
  unfold planningReason
  rw [List.findSome?_eq_none_iff]
  intro r hr
  rcases List.mem_append.mp hr with hr | hr
  · obtain ⟨via, hi⟩ := h r hr
    simp only [hi]
  · rw [List.mem_singleton.mp hr]
    simp only [he]

theorem endsResolved_open {kind : EndOf} {m : Option StationId} (front : List RouteItem)
    (he : e.item = .terminal kind m false) : endsResolved (front ++ [e]) = false := by
  simp [endsResolved, he]

theorem currentOf_end (front : List RouteItem) (base now : Tick) (he : e.item.isEntry = false) :
    currentOf (front ++ [e]) base now = currentOf front base now := by
  simp [currentOf, he]

theorem modify_end (f : RouteItem → RouteItem) : (front ++ [e]).modify front.length f = front ++ [f e] := by
  simp [List.modify_eq_take_drop]

end

/-! ## Such a route taken up -/

/-- An end that has joined the plan. -/
def joinedEnd (e : RouteItem) : RouteItem := { e with joined := true }

section
variable {w : Work} {i : SlotId} {k : Track} {front : List RouteItem} {e : RouteItem} {kind : EndOf} {m : Option StationId}

theorem joinPoint_early (h : w.st.track? i = some k) (he : e.item = .terminal kind m false) (n : Nat)
    (early : w.st.now < k.base + e.late) :
    w.joinPoint i n e k = setTrack w i { k with route := k.route.modify n joinedEnd } := by
  have notDue : decide (k.base + e.late ≤ w.st.now) = false := decide_eq_false (not_le.mpr early)
  rw [← mod_track (fun _ t => { t with route := t.route.modify n joinedEnd }) h]
  simp only [Work.joinPoint, he, notDue]
  rfl

/-- A track that is looked at and left as it is ends the event. -/
theorem finish_entered (rests : w.entered i = w) (quiet : w.out = []) : (w.push (.entered i)).finish = w.st := by
  have fuel : Config.deliveryFuel = 999999 + 1 := rfl
  have told : (w.push (.entered i)).out = [.entered i] := congrArg (· ++ [Delivery.entered i]) quiet
  have back : { w.push (.entered i) with out := [] } = w := by
    rw [← quiet]
    rfl
  unfold Work.finish
  rw [fuel, run_cons _ _ _ _ told, back]
  simp only [Work.act]
  rw [rests, run_none _ _ quiet]

/-- The plan of a route of entries and one end takes the end in. -/
theorem fill_end (h : w.st.track? i = some k) (plans : k.plans = true) (hroute : k.route = front ++ [e])
    (entries : Entries front) (he : e.item = .terminal kind m false) (waits : e.joined = false)
    (early : w.st.now < k.base + e.late) : w.fill i = setTrack w i { k with route := front ++ [joinedEnd e] } := by
  have only : ∀ p ∈ pointSequence k.route, p = (front.length, e) := by
    intro p hp
    obtain ⟨there, point⟩ := mem_pointSequence.mp hp
    obtain ⟨hn, hr⟩ := entries.point_place (hroute ▸ there) point
    exact Prod.ext hn hr
  have listed : (front.length, e) ∈ pointSequence k.route :=
    mem_pointSequence.mpr ⟨by simp [hroute], by simp [RouteItem.isPoint, he]⟩
  have none_pending : planOf k.route = [] := List.filter_eq_nil_iff.mpr fun p hp => by simp [only p hp, waits]
  have next : (pointSequence k.route).find? (fun p => !p.2.joined) = some (front.length, e) := by
    cases found : (pointSequence k.route).find? fun p => !p.2.joined with
    | none => exact absurd (List.find?_eq_none.mp found _ listed) (by simp [waits])
    | some p => rw [only p (List.mem_of_find?_eq_some found)]
  have length : k.route.length = front.length + 1 := by simp [hroute]
  have joins := joinPoint_early h he front.length early
  rw [hroute, modify_end] at joins
  have all : AllJoined (front ++ [joinedEnd e]) := by
    intro r hr point
    obtain ⟨n, hn⟩ := List.mem_iff_getElem?.mp hr
    rw [(entries.point_place hn point).2]
    rfl
  simp only [Work.fill, Work.refill, h, length, Work.fillUp, plans, none_pending, next, id, joins]
  exact fillUp_idle id _ (setTrack_track _ h) (.inr all)

/-- A route of entries and one safe end, taken up by a track that stands where the route puts it. -/
theorem takeRoute_end (h : w.st.track? i = some k) (plans : k.plans = true) (entries : Entries front)
    (he : e.item = .terminal .safeEnd none false) (waits : e.joined = false) (early : w.st.now < k.base + e.late)
    (at' : currentOf (front ++ [e]) k.base w.st.now = some k.current) (same : w.st.membershipOf k = k.member)
    (absent : ∀ x : StationId, ∀ f ∈ w.st.stations[x].served, f.handle ≠ w.st.handleOf i) :
    w.takeRoute i (front ++ [e]) =
      (setTrack w i { k with route := front ++ [joinedEnd e] }).push (.entered i) := by
  have routed : w.mod (fun s => s.updTrack i fun t => { t with route := marked (front ++ [e]) }) =
      setTrack w i { k with route := front ++ [e] } := by
    rw [mod_track (fun _ t => { t with route := marked (front ++ [e]) }) h, marked_entries_end entries he]
  have there : (setTrack w i { k with route := front ++ [e] }).st.track? i = some { k with route := front ++ [e] } :=
    setTrack_track _ h
  have fresh : (setTrack w i { k with route := front ++ [e] }).refreshServed i =
      setTrack w i { k with route := front ++ [e] } :=
    refreshServed_absent there (by rw [setTrack_handleOf]; exact absent)
  have placed : (setTrack w i { k with route := front ++ [e] }).placeTrack i =
      setTrack w i { k with route := front ++ [e] } :=
    (placeTrack_still there at' same).trans (setTrack_twice _ _)
  have filled := fill_end (k := { k with route := front ++ [e] }) there plans rfl entries he waits early
  rw [setTrack_twice] at filled
  have joined : (setTrack w i { k with route := front ++ [joinedEnd e] }).st.track? i =
      some { k with route := front ++ [joinedEnd e] } := setTrack_track _ h
  have lives := planningEscape_idle joined (planningReason_end entries he)
  have flies := spentCheck_idle joined fun spends => by
    have open' : endsResolved (front ++ [joinedEnd e]) = false := endsResolved_open front he
    rw [open'] at spends
    cases spends.2
  simp only [Work.takeRoute]
  rw [routed, fresh, placed, filled, lives, flies]

end

/-! ## The route beyond a STALL_END whose air has returned (R98) -/

/-- The safe end that a walk finds at the exit of a segment, from an entry with the bounds of a STALL_END. -/
def safeEndBeyond (s : State) (seg : SegId) (e : RouteItem) : RouteItem :=
  mkItem (.terminal .safeEnd none false) seg
    (s.along seg { early := e.early, late := e.late, openEnd := e.openEnd } s.segments[seg].length) [] e.depth

section
variable {s : State} {i : SlotId} {k : Track} {seg : SegId} {front : List RouteItem} {e : RouteItem} {m : Option StationId}
  {tag : Byte}

theorem walkSegment_safeEnd (go : WalkOn) (at' : Nat → Bounds) (conds : List Cond) (depth room : Nat)
    (outlet : s.segments[seg].outlet = .ends tag) (kind : s.segments[seg].endKind = .safeEnd)
    (near : (at' s.segments[seg].length).early < Config.horizon) : (s.walkSegment go seg at' [] conds depth room).1 =
      [mkItem (.terminal .safeEnd none false) seg (at' s.segments[seg].length) conds depth] := by
  have within : ¬((false || decide (Config.horizon ≤ (at' s.segments[seg].length).early)) = true) := by
    rw [Bool.false_or, decide_eq_true_iff]
    exact not_le.mpr near
  unfold State.walkSegment walkPoints
  dsimp only
  rw [if_neg within, outlet, kind]
  rfl

theorem replanStallEnd_end (entries : Entries front) (he : e.item = .terminal .stallEnd m false) (here : e.seg = seg)
    (conds : e.conds = []) (points : s.segments[seg].points = []) (outlet : s.segments[seg].outlet = .ends tag)
    (kind : s.segments[seg].endKind = .safeEnd) (near : (safeEndBeyond s seg e).early < Config.horizon) :
    s.replanStallEnd seg (front ++ [e]) = some (front ++ [safeEndBeyond s seg e]) := by
  have none : (front.findIdx? fun r => r.seg == seg && r.endsInStall) = none := by
    rw [List.findIdx?_eq_none_iff]
    intro r hr
    obtain ⟨via, hi⟩ := entries r hr
    simp [RouteItem.endsInStall, hi]
  have ends : (e.seg == seg && e.endsInStall) = true := by simp [here, RouteItem.endsInStall, he, conds]
  have place : ((front ++ [e]).findIdx? fun r => r.seg == seg && r.endsInStall) = some front.length := by
    rw [List.findIdx?_append, none, List.findIdx?_cons, ends]
    simp
  have walk := walkSegment_safeEnd (s := s) s.walkOn
    (s.along seg { early := e.early, late := e.late, openEnd := e.openEnd }) [] e.depth
    (Config.routeRoom - entriesOf (front ++ [e])) outlet kind near
  simp only [State.replanStallEnd, place, List.getElem?_concat_length, points, conds, walk]
  simp [safeEndBeyond]

/-- An advance into the segment of a STALL_END whose air has returned puts the end that the walk finds there in its
place. -/
theorem segmentAdvance_resumes (hr : s.resetLow = false) (h : s.track? i = some k) (plans : k.plans = true)
    (at' : currentOf k.route k.base s.now = some seg) (moves : seg ≠ k.current) (flows : s.segStalled seg = false)
    (hroute : k.route = front ++ [e]) (entries : Entries front) (he : e.item = .terminal .stallEnd m false)
    (here : e.seg = seg) (conds : e.conds = []) (points : s.segments[seg].points = [])
    (outlet : s.segments[seg].outlet = .ends tag) (kind : s.segments[seg].endKind = .safeEnd)
    (near : (safeEndBeyond s seg e).early < Config.horizon) (early : s.now < k.base + (safeEndBeyond s seg e).late)
    (same : s.membershipOf { k with current := seg } = k.member)
    (absent : ∀ x : StationId, ∀ f ∈ s.stations[x].served, f.handle ≠ s.handleOf i) :
    exec (.segmentAdvance i) s = .next
      (setTrack s.begin i { k with current := seg, route := front ++ [joinedEnd (safeEndBeyond s seg e)] }).st := by
  have there : (setTrack s.begin i { k with current := seg }).st.track? i = some { k with current := seg } :=
    setTrack_track _ h
  have beyond : safeEndBeyond (setTrack s.begin i { k with current := seg }).st seg e = safeEndBeyond s seg e := rfl
  have replan : (setTrack s.begin i { k with current := seg }).st.replanStallEnd seg k.route =
      some (front ++ [safeEndBeyond s seg e]) := by
    rw [hroute, ← beyond]
    exact replanStallEnd_end entries he here conds points outlet kind near
  have still : currentOf (front ++ [safeEndBeyond s seg e]) k.base s.now = some seg := by
    rw [← at', hroute, currentOf_end front _ _ rfl, currentOf_end front _ _ (by rw [he]; rfl)]
  have takes := takeRoute_end there plans entries (e := safeEndBeyond s seg e) rfl rfl early still same
    (by rw [setTrack_handleOf]; exact absent)
  rw [setTrack_twice] at takes
  have resumes := (entered_replans there plans flows replan).trans takes
  have joined : (setTrack s.begin i { k with
      current := seg, route := front ++ [joinedEnd (safeEndBeyond s seg e)] }).st.track? i = some { k with
        current := seg, route := front ++ [joinedEnd (safeEndBeyond s seg e)] } := setTrack_track _ h
  have rests := entered_idle joined flows fun r hr _ _ m b ends => by
    rcases List.mem_append.mp hr with hr | hr
    · obtain ⟨via, hi⟩ := entries r hr
      rw [hi] at ends
      cases ends
    · rw [List.mem_singleton.mp hr] at ends
      cases ends
  rw [segmentAdvance_due hr h plans at' moves, placeTrack_still (w := s.begin) h at' same, resumes,
    finish_entered rests (setTrack_out _)]

theorem joinedEnd_safeEndBeyond
    (near : e.early + earlyPiece s.limits.tol (s.velocity seg) s.segments[seg].length < 200000) :
    joinedEnd (safeEndBeyond s seg e) =
      { item := .terminal .safeEnd none false, seg := seg,
        early := e.early + earlyPiece s.limits.tol (s.velocity seg) s.segments[seg].length,
        late := min 200000 (e.late + latePiece s.limits.tol (s.velocity seg) s.segments[seg].length),
        openEnd := e.openEnd || decide (200000 < e.late + latePiece s.limits.tol (s.velocity seg) s.segments[seg].length),
        conds := [], depth := e.depth, joined := true, covering := false, lateStart := false, unserved := false,
        holds := false } := by
  have within : min Config.horizon (e.early + earlyPiece s.limits.tol (s.velocity seg) s.segments[seg].length) =
      e.early + earlyPiece s.limits.tol (s.velocity seg) s.segments[seg].length := min_eq_right near.le
  simp only [joinedEnd, safeEndBeyond, mkItem, State.along, Bounds.add, within]
  rfl

theorem setTrack_begin (v : Track) (h : s.track? i = some k) : (setTrack s.begin i v).st =
    { s with slots := updAt s.slots i fun q => { q with track := some v } } := setTrack_st (w := s.begin) v h

/-- An advance that changes neither membership nor plan moves the track and nothing else. -/
theorem segmentAdvance_plain (hr : s.resetLow = false) (h : s.track? i = some k) (plans : k.plans = true)
    (at' : currentOf k.route k.base s.now = some seg) (moves : seg ≠ k.current) (flows : s.segStalled seg = false)
    (same : s.membershipOf { k with current := seg } = k.member)
    (no : ∀ r ∈ k.route, ∀ m b, r.item ≠ .terminal .stallEnd m b) :
    exec (.segmentAdvance i) s = .next (setTrack s.begin i { k with current := seg }).st := by
  have there : (setTrack s.begin i { k with current := seg }).st.track? i = some { k with current := seg } :=
    setTrack_track _ h
  have rests := entered_idle there flows fun r hr _ _ => no r hr
  rw [segmentAdvance_due hr h plans at' moves, placeTrack_still (w := s.begin) h at' same, rests,
    finish_none _ (setTrack_out _)]

/-- A stall limit that expires lets the track escape. -/
theorem stallLimitExpiry_escapes {since : Tick} (hr : s.resetLow = false) (h : s.track? i = some k)
    (state : k.state = .stalled) (stalled : k.stalledSince = some since)
    (limit : since + s.limits.stallLimit * 10000 ≤ s.now) :
    ∃ (u : State) (v : Track), exec (.stallLimitExpiry i) s = .next u ∧ u.track? i = some v ∧ v.state = .escaped ∧
      v.escapeReason = some .stall ∧ u.raised .escaped ∧ s.Framed u ∧ u.nextSeq = s.nextSeq := by
  have kept := (escapeTrack_kept (w := s.begin) .stall h (.inr state)).trans (finish_kept _)
  obtain ⟨v, left⟩ := kept.escaped h
  obtain ⟨gone, reason⟩ := left.state
  exact ⟨_, v, stallLimitExpiry_due hr h state stalled limit, left.track, gone, reason, left.raised, left.framed,
    left.nextSeq⟩

/-- A FLIGHT track that advances into another zone takes its live membership along. -/
theorem segmentAdvance_live {z y : ZoneId} (hr : s.resetLow = false) (h : s.track? i = some k) (plans : k.plans = true)
    (at' : currentOf k.route k.base s.now = some seg) (moves : seg ≠ k.current) (flows : s.segStalled seg = false)
    (zone : s.segments[seg].zone = y) (apart : y ≠ z) (levels : s.levelsComputed)
    (no : ∀ r ∈ k.route, r.seg = seg → r.conds = [] → ∀ m b, r.item ≠ .terminal .stallEnd m b)
    (state : k.state = .flight) (member : k.member = some (.live z)) :
    ∃ t : State, exec (.segmentAdvance i) s = .next t ∧
      t = { (setTrack s.begin i { k with current := seg, member := some (.live y) }).st with
            zones := t.zones, shutters := t.shutters, sirens := t.sirens, notices := t.notices } ∧
      t.zones[z] = judgedZone s.now { s.zones[z] with live := s.zones[z].live - 1 } ∧
      t.zones[y] = judgedZone s.now { s.zones[y] with live := s.zones[y].live + 1 } ∧
      ∀ x : ZoneId, x ≠ z → x ≠ y → t.zones[x] = s.zones[x] := by
  have becomes : s.membershipOf { k with current := seg } = some (.live y) := by
    simp only [State.membershipOf, state, State.zoneOfTrack, zone]
  have latched : ∀ x : ZoneId, FireLatched s.zones[x] := fun x => fireLatched_of_computed (levels x)
  refine segmentAdvance_moves hr h plans at' moves member becomes apart flows no (fun t same => ?_) levels
    (latched z) (latched y)
  rw [← same]
  exact recount_live t apart

/-- An ESCAPED track that advances into another zone takes its membership along, and TRACK_ESCAPED arrives there. -/
theorem segmentAdvance_escaped {z y : ZoneId} (hr : s.resetLow = false) (h : s.track? i = some k) (plans : k.plans = true)
    (at' : currentOf k.route k.base s.now = some seg) (moves : seg ≠ k.current) (flows : s.segStalled seg = false)
    (zone : s.segments[seg].zone = y) (apart : y ≠ z) (levels : s.levelsComputed)
    (no : ∀ r ∈ k.route, r.seg = seg → r.conds = [] → ∀ m b, r.item ≠ .terminal .stallEnd m b)
    (state : k.state = .escaped) (member : k.member = some (.escaped z)) :
    ∃ t : State, exec (.segmentAdvance i) s = .next t ∧
      t = { (setTrack s.begin i { k with current := seg, member := some (.escaped y) }).st with
            zones := t.zones, shutters := t.shutters, sirens := t.sirens, notices := t.notices } ∧
      t.zones[z] = judgedZone s.now { s.zones[z] with escaped := s.zones[z].escaped - 1 } ∧
      t.zones[y] = judgedZone s.now { s.zones[y] with
        escaped := s.zones[y].escaped + 1, latched := s.zones[y].latched.sup .alarm, acknowledged := false } ∧
      ∀ x : ZoneId, x ≠ z → x ≠ y → t.zones[x] = s.zones[x] := by
  have becomes : s.membershipOf { k with current := seg } = some (.escaped y) := by
    simp only [State.membershipOf, state, State.zoneOfTrack, zone]
  have latched : ∀ x : ZoneId, FireLatched s.zones[x] := fun x => fireLatched_of_computed (levels x)
  refine segmentAdvance_moves hr h plans at' moves member becomes apart flows no (fun t same => ?_) levels
    (latched z) ((latched y).trans (sup_fire_iff (by decide)).symm)
  rw [← same]
  exact recount_escaped t apart

end

/-! ## The timers of a track -/

/-- Settles O34: the stall limit is an escape, the advance is taken segment by segment, and recent passes leave. -/
theorem trackTimers : Obligations.TrackTimers := by
  unfold Obligations.TrackTimers
  refine ⟨?limit, ?plain, currentOf_iff, ?advance, fun _ _ _ hr h due => recentPassExpiry_due hr h due⟩
  case limit => exact fun s i k since hr h state stalled limit => stallLimitExpiry_escapes hr h state stalled limit
  case plain =>
    intro s i k seg hr h alive rested at' moves same flows no
    rw [← setTrack_begin _ h]
    exact segmentAdvance_plain hr h ((plans_iff k).mpr ⟨alive, rested⟩) at' moves flows same no
  case advance =>
    intro s i k seg hr h alive rested at' moves put
    have plans : k.plans = true := (plans_iff k).mpr ⟨alive, rested⟩
    have putting (l : Track) : put l = (setTrack s.begin i l).st := (setTrack_begin l h).symm
    refine ⟨?zone, ?stalled, fun flows => ⟨segmentAdvance_flows hr h plans at' moves, ?resumed⟩⟩
    case zone =>
      intro z y flows zone apart levels no judged moved
      simp only [moved, putting]
      exact ⟨segmentAdvance_live hr h plans at' moves flows zone apart levels no,
        segmentAdvance_escaped hr h plans at' moves flows zone apart levels no⟩
    case stalled =>
      refine fun still => ⟨segmentAdvance_stalls hr h plans at' moves still, fun same opened => ?_⟩
      obtain ⟨r, cut, entry, here, plain⟩ := cutBack_entry k.route seg
      refine ⟨r, entry, here, plain, ?_⟩
      rw [segmentAdvance_cutBack hr h plans at' moves still same opened, putting, ← cut]
      rfl
    case resumed =>
      intro front e m tag hroute entries he here conds points outlet kind same absent early late near due
      have entriesOnly : Entries front := fun r hr => (entries r hr).1
      have resumes := segmentAdvance_resumes hr h plans at' moves flows hroute entriesOnly he here conds points outlet
        kind ((min_le_right _ _).trans_lt near) due same absent
      rw [resumes, putting, joinedEnd_safeEndBeyond near]

end Sys2Proof.Laws
end

section
/-! PROOFS. The plan entries of a track at their bounds (R65, R66, R69, R86 to R90). -/
namespace Sys2Proof.Laws
open Sys2Proof.Machine

/-! ## An event at a plan entry (R86) -/

section
variable {s : State} {i : SlotId} {place n : Nat} {k : Track} {r : RouteItem} {x : StationId}

/-- A plan entry is an unresolved point of the track's route that has joined. -/
theorem planEntry_there (h : s.track? i = some k) (e : s.planEntry i place = some (n, r)) :
    k.route[n]? = some r ∧ r.isPoint = true ∧ r.joined = true := by
  rw [State.planEntry, h] at e
  exact mem_planOf (List.mem_of_getElem? e)

theorem entryEvent_due {due : Tick → Tick → RouteItem → Bool} (f : Nat → RouteItem → Work → Work)
    (hr : s.resetLow = false) (h : s.track? i = some k) (e : s.planEntry i place = some (n, r))
    (hd : due k.base s.now r = true) : s.entryEvent i place due f = ((f n r s.begin).extend i).finish := by
  simp only [State.entryEvent, h, e]
  exact event_due _ _ _ hr hd

theorem entryEvent_not {due : Tick → Tick → RouteItem → Bool} (f : Nat → RouteItem → Work → Work)
    (h : s.track? i = some k) (e : s.planEntry i place = some (n, r)) (hd : due k.base s.now r = false) :
    s.entryEvent i place due f = s := by
  simp only [State.entryEvent, h, e]
  exact event_not _ _ _ (.inr hd)

theorem stationEarlyBound_due (hr : s.resetLow = false) (h : s.track? i = some k)
    (e : s.planEntry i place = some (n, r)) (item : r.item = .station x) (pending : r.covering = false)
    (due : k.base + r.early ≤ s.now) :
    exec (.stationEarlyBound i place) s = .next ((s.begin.earlyBound i n x).extend i).finish := by
  have now : earlyDue k.base s.now r = true := by simp [earlyDue, item, Item.station?, pending, due]
  refine congrArg Host.Outcome.next ((entryEvent_due _ hr h e now).trans ?_)
  simp only [item, Item.station?, Option.elim]

theorem stationLateBound_due (hr : s.resetLow = false) (h : s.track? i = some k)
    (e : s.planEntry i place = some (n, r)) (item : r.item = .station x) (covering : r.covering = true)
    (due : k.base + r.late ≤ s.now) :
    exec (.stationLateBound i place) s = .next ((s.begin.resolveStation i n x none).extend i).finish := by
  have now : coverDue k.base s.now r = true := by simp [coverDue, item, Item.station?, covering, due]
  refine congrArg Host.Outcome.next ((entryEvent_due _ hr h e now).trans ?_)
  simp only [item, Item.station?, Option.elim]

theorem entryLateBound_due (hr : s.resetLow = false) (h : s.track? i = some k)
    (e : s.planEntry i place = some (n, r)) (item : r.item.station? = none) (leaves : r.endsInStall = false)
    (due : k.base + r.late ≤ s.now) :
    exec (.entryLateBound i place) s = .next ((s.begin.lateBound i n r).extend i).finish := by
  have now : lateDue k.base s.now r = true := by simp [lateDue, item, leaves, due]
  exact congrArg Host.Outcome.next (entryEvent_due _ hr h e now)

theorem stationEarlyBound_covering (h : s.track? i = some k) (e : s.planEntry i place = some (n, r))
    (covering : r.covering = true) : exec (.stationEarlyBound i place) s = .next s :=
  congrArg Host.Outcome.next (entryEvent_not _ h e (by simp [earlyDue, covering]))

theorem stationLateBound_pending (h : s.track? i = some k) (e : s.planEntry i place = some (n, r))
    (pending : r.covering = false) : exec (.stationLateBound i place) s = .next s :=
  congrArg Host.Outcome.next (entryEvent_not _ h e (by simp [coverDue, pending]))

theorem entryLateBound_stall (h : s.track? i = some k) (e : s.planEntry i place = some (n, r))
    (stays : r.endsInStall = true) : exec (.entryLateBound i place) s = .next s :=
  congrArg Host.Outcome.next (entryEvent_not _ h e (by simp [lateDue, stays]))

/-- What a plan entry's event leaves where nothing is left to join and nothing has been told. -/
theorem finish_extend {w : Work} {v : Track} (h : w.st.track? i = some v) (idle : v.plans = false ∨ AllJoined v.route)
    (quiet : w.out = []) : (w.extend i).finish = w.st := by
  rw [extend_idle h idle, finish_none _ quiet]

/-- What the chain of small steps of a plan entry's event leaves alone. -/
theorem Kept.entryLeft {u : State} (kept : Kept s u) (h : s.track? i = some k) :
    ∃ v, u.track? i = some v ∧ v.base = k.base ∧ s.Framed u ∧ u.nextSeq = s.nextSeq := by
  obtain ⟨v, hv, step⟩ := kept.track h
  exact ⟨v, hv, step.base, kept.framed, kept.nextSeq⟩

theorem extend_finish_kept (w : Work) (i : SlotId) : Kept w.st (w.extend i).finish :=
  (extend_steps w i).kept.trans (finish_kept _)

end

/-! ## Routes without one of their items, or with one changed -/

section
variable {route : List RouteItem} {n : Nat}

theorem AllJoined.eraseIdx (h : AllJoined route) (n : Nat) : AllJoined (route.eraseIdx n) :=
  fun p hp => h p (List.mem_of_mem_eraseIdx hp)

theorem mem_modify {f : RouteItem → RouteItem} {p : RouteItem} (hp : p ∈ route.modify n f) :
    (∃ q, route[n]? = some q ∧ p = f q) ∨ ∃ m, m ≠ n ∧ route[m]? = some p := by
  obtain ⟨m, hm⟩ := List.mem_iff_getElem?.mp hp
  by_cases e : n = m
  · rw [← e, List.getElem?_modify_eq] at hm
    obtain ⟨q, hq, rfl⟩ := Option.map_eq_some_iff.mp hm
    exact .inl ⟨q, hq, rfl⟩
  · rw [List.getElem?_modify_ne f _ e] at hm
    exact .inr ⟨m, Ne.symm e, hm⟩

theorem AllJoined.modify {f : RouteItem → RouteItem} (h : AllJoined route)
    (keeps : ∀ q, route[n]? = some q → (f q).isPoint = true → (f q).joined = true) : AllJoined (route.modify n f) := by
  intro p hp point
  rcases mem_modify hp with ⟨q, hq, rfl⟩ | ⟨m, _, hm⟩
  · exact keeps q hq point
  · exact h p (List.mem_of_getElem? hm) point

end

/-! ## Coverage (R65, R66, R88, R89) -/

theorem earlyTest_eq (q : Station) (unserved : Bool) : q.earlyTest unserved =
    if q.state = .releasing then none else if q.state = .fault then some .fault
    else if q.state = .locked then some .locked
    else some (if unserved then .stationFull else .lateGrant) := by
  unfold Station.earlyTest
  cases q.state <;> rfl

theorem calls_iff (kind : EndOf) : kind.calls = true ↔ kind ≠ .safeEnd := by
  cases kind <;> decide

/-- An end that calls for escape at the marker of a station entry under some conditions. -/
def CallsAt (x : StationId) (conds : List Cond) (p : RouteItem) : Prop :=
  ∃ kind b, p.item = .terminal kind (some x) b ∧ kind ≠ .safeEnd ∧ conds <:+ p.conds

theorem markedCalls_iff (route : List RouteItem) (x : StationId) (conds : List Cond) :
    markedCalls route x conds = true ↔ ∃ p ∈ route, CallsAt x conds p := by
  unfold markedCalls
  rw [List.any_eq_true]
  refine exists_congr fun p => and_congr_right fun _ => ?_
  unfold CallsAt
  cases e : p.item with
  | terminal kind marker b =>
    cases marker with
    | none => simp
    | some m =>
      have way : onTheWay conds p.conds = true ↔ conds <:+ p.conds := List.isSuffixOf_iff_suffix
      simp only [Bool.and_eq_true, beq_iff_eq, way, calls_iff, Item.terminal.injEq, Option.some.injEq]
      constructor
      · rintro ⟨⟨rfl, suffix⟩, calls⟩
        exact ⟨kind, b, ⟨rfl, rfl, rfl⟩, calls, suffix⟩
      · rintro ⟨_, _, ⟨rfl, rfl, rfl⟩, calls, suffix⟩
        exact ⟨⟨rfl, suffix⟩, calls⟩
  | _ => simp

/-- The ends that call for escape stay when a station entry leaves the route. -/
theorem callsAt_eraseIdx {route : List RouteItem} {n : Nat} {r : RouteItem} {x : StationId} (there : route[n]? = some r)
    (item : r.item = .station x) (conds : List Cond) :
    (∃ p ∈ route.eraseIdx n, CallsAt x conds p) ↔ ∃ p ∈ route, CallsAt x conds p := by
  constructor
  · rintro ⟨p, hp, calls⟩
    exact ⟨p, List.mem_of_mem_eraseIdx hp, calls⟩
  · rintro ⟨p, hp, calls⟩
    obtain ⟨m, hm⟩ := List.mem_iff_getElem?.mp hp
    refine ⟨p, List.mem_eraseIdx_iff_getElem?.mpr ⟨m, ?_, hm⟩, calls⟩
    rintro rfl
    obtain ⟨kind, b, ends, -⟩ := calls
    obtain rfl := Option.some.inj (hm.symm.trans there)
    rw [item] at ends
    cases ends

/-- A track from whose route a station entry has gone with its outcome. -/
def resolvedTrack (k : Track) (n : Nat) (reason : Option Uncovered) : Track :=
  Track.outcome { k with route := k.route.eraseIdx n } reason

theorem resolvedTrack_route (k : Track) (n : Nat) (reason : Option Uncovered) :
    (resolvedTrack k n reason).route = k.route.eraseIdx n := by
  cases reason <;> rfl

theorem resolvedTrack_state (k : Track) (n : Nat) (reason : Option Uncovered) :
    (resolvedTrack k n reason).state = k.state := by
  cases reason <;> rfl

/-- The served entry that a resolving plan entry held stays to its close. -/
def outlive (w : Work) (i : SlotId) (x : StationId) : Work := w.mod fun s =>
  s.updStation x fun q => { q with served := servedOutlives (s.handleOf i) q.served }

/-- An event in progress once a station entry has left the route with its outcome and the served lists have followed. -/
def letResolve (w : Work) (i : SlotId) (x : StationId) (holds : Bool) (v : Track) : Work :=
  (setTrack (if !holds then w else outlive w i x) i v).refreshServed i

section
variable {w : Work} {i : SlotId} {n : Nat} {k : Track} {r : RouteItem} {x : StationId}

theorem outlive_track (h : w.st.track? i = some k) (holds : Bool) :
    (if !holds then w else outlive w i x).st.track? i = some k := by
  cases holds <;> exact h

theorem letResolve_track (v : Track) (h : w.st.track? i = some k) (holds : Bool) :
    (letResolve w i x holds v).st.track? i = some v := by
  have here := setTrack_track v (outlive_track (x := x) h holds)
  unfold letResolve
  rw [State.track?, refreshServed_eq here, reviseServed_slots]
  exact here

theorem resolveStation_eq (reason : Option Uncovered) (h : w.st.track? i = some k) (there : k.route[n]? = some r) :
    w.resolveStation i n x reason =
      if (resolvedTrack k n reason).state = .flight ∧ (resolvedTrack k n reason).covered = false ∧
          markedCalls (resolvedTrack k n reason).route x r.conds = true then
        (letResolve w i x r.holds (resolvedTrack k n reason)).escapeTrack i .uncovered
      else letResolve w i x r.holds (resolvedTrack k n reason) := by
  have drops : ∀ u : Work, u.st.track? i = some k →
      (u.mod fun s => (s.dropItem i n).updTrack i fun t => t.outcome reason) = setTrack u i (resolvedTrack k n reason) := by
    intro u hu
    have dropped := mod_track (fun _ t => { t with route := t.route.eraseIdx n }) hu
    have outcome := mod_track (fun _ t => t.outcome reason) (setTrack_track { k with route := k.route.eraseIdx n } hu)
    rw [setTrack_twice, ← dropped] at outcome
    exact outcome
  have entry : ((w.st.track? i).bind fun t => t.route[n]?) = some r := by rw [h]; exact there
  have after := letResolve_track (x := x) (resolvedTrack k n reason) h r.holds
  have drop := drops _ (outlive_track (x := x) h r.holds)
  unfold letResolve outlive at after ⊢
  unfold outlive at drop
  simp only [Work.resolveStation, entry]
  rw [drop]
  simp only [after]

end

end Sys2Proof.Laws
end

section
/-! PROOFS. Station, detector, gate and terminal entries resolved, each where it changes nothing but its track and the
entry it held; and the plan entries at their bounds. -/
namespace Sys2Proof.Laws
open Sys2Proof.Machine

/-! ## Served lists that a resolution leaves as they stand (R89, R102) -/

theorem servedOutlives_of_absent {h : Handle} {l : List Served} (absent : ∀ e ∈ l, e.handle ≠ h) :
    servedOutlives h l = l := by
  unfold servedOutlives
  exact (List.map_congr_left (g := fun e => e) fun e he => if_neg (absent e he)).trans (List.map_id' l)

/-- An entry that has outlived its plan entry stays without a holder. -/
theorem servedAfter_outlived (h : Handle) (l : List Served) :
    servedAfter h [] (servedOutlives h l) = servedOutlives h l := by
  unfold servedAfter
  rw [List.filterMap_congr (g := some), List.filterMap_some]
  intro e he
  unfold servedOutlives at he
  obtain ⟨f, -, rfl⟩ := List.mem_map.mp he
  by_cases mine : f.handle = h
  · simp [mine, Served.held, leastOf]
  · simp [mine]

theorem holders_none {k : Track} {x : StationId} (none : ∀ r ∈ k.route, r.item ≠ .station x) : k.holders x = [] := by
  refine List.filterMap_eq_nil_iff.mpr fun r hr => if_neg ?_
  simp [none r hr]

section
variable {w : Work} {i : SlotId} {n : Nat} {k : Track} {r : RouteItem} {x : StationId} {v : Track}

/-- Where a plan entry that held nothing has nothing to let outlive it, the served list is as good as passed on. -/
theorem outlive_eq (holds : Bool)
    (absent : holds = false → ∀ e ∈ w.st.stations[x].served, e.handle ≠ w.st.handleOf i) :
    (if !holds then w else outlive w i x) = outlive w i x := by
  cases holds with
  | true => rfl
  | false =>
    have same : { w.st.stations[x] with served := servedOutlives (w.st.handleOf i) w.st.stations[x].served } =
        w.st.stations[x] := by rw [servedOutlives_of_absent (absent rfl)]
    exact (congrArg (fun q => { w with st := { w.st with stations := q } })
      (updAt_id w.st.stations x
        (fun q => { q with served := servedOutlives (w.st.handleOf i) q.served }) same)).symm

/-- A resolution that leaves its track no other entry at the station, where no other station serves the track. -/
theorem letResolve_eq (holds : Bool) (h : w.st.track? i = some k) (alone : ∀ p ∈ v.route, p.item ≠ .station x)
    (absent : ∀ y : StationId, y ≠ x ∨ holds = false → ∀ e ∈ w.st.stations[y].served, e.handle ≠ w.st.handleOf i) :
    letResolve w i x holds v = setTrack (outlive w i x) i v := by
  unfold letResolve
  rw [outlive_eq holds fun e => absent x (.inr e)]
  have here : (outlive w i x).st.track? i = some k := h
  refine refreshServed_idle (setTrack_track v here) fun y => ?_
  rw [setTrack_handleOf, setTrack_stations, show (outlive w i x).st.handleOf i = w.st.handleOf i from rfl]
  rcases updAt_cases w.st.stations x y fun q => { q with served := servedOutlives (w.st.handleOf i) q.served } with
    ⟨e, there⟩ | ⟨e, there⟩
  · rw [show (outlive w i x).st.stations[y] = _ from there, e, holders_none alone]
    exact servedAfter_outlived _ _
  · rw [show (outlive w i x).st.stations[y] = _ from there]
    exact servedAfter_of_absent _ (absent y (.inl e))

end

/-! ## Points and ends that resolve (R69, R90) -/

section
variable {w : Work} {i : SlotId} {n : Nat} {k : Track} {r : RouteItem}

theorem resolvePoint_detector {d : ChanId} (h : w.st.track? i = some k) (there : k.route[n]? = some r)
    (item : r.item = .detector d) : w.resolvePoint i n = setTrack w i { k with
      route := k.route.eraseIdx n
      passes := k.passes ++ [{ detector := d, opens := k.base + r.early, closes := k.base + r.late,
                               leaves := max (k.base + r.late + Config.passTicks) w.st.now }]
      blindPass := k.blindPass || (w.st.channels[d].state == .blind) } := by
  have dropped := mod_track (fun _ t => { t with route := t.route.eraseIdx n }) h
  have passes := mod_track (fun _ t => { t with
    passes := t.passes ++ [{ detector := d, opens := k.base + r.early, closes := k.base + r.late,
                             leaves := max (k.base + r.late + Config.passTicks) w.st.now }]
    blindPass := t.blindPass || (w.st.channels[d].state == .blind) })
    (setTrack_track { k with route := k.route.eraseIdx n } h)
  rw [setTrack_twice, ← dropped] at passes
  simp only [Work.resolvePoint, h, Option.bind_some, there, item]
  exact passes

theorem resolvePoint_gate {g : GateId} (h : w.st.track? i = some k) (there : k.route[n]? = some r)
    (item : r.item = .gate g) : w.resolvePoint i n = setTrack w i { k with route := k.route.eraseIdx n } := by
  rw [← mod_track (fun _ t => { t with route := t.route.eraseIdx n }) h]
  simp only [Work.resolvePoint, h, Option.bind_some, there, item]
  rfl

/-- An end of a route that has resolved. -/
def resolvedEnd (kind : EndOf) (m : Option StationId) (p : RouteItem) : RouteItem :=
  { p with item := .terminal kind m true, joined := false }

/-- A track of whose route an end has resolved. -/
def endResolved (k : Track) (n : Nat) (kind : EndOf) (m : Option StationId) : Track :=
  { k with route := k.route.modify n (resolvedEnd kind m) }

theorem resolvePoint_terminal {kind : EndOf} {m : Option StationId} {b : Bool} (h : w.st.track? i = some k)
    (there : k.route[n]? = some r) (item : r.item = .terminal kind m b) :
    w.resolvePoint i n = setTrack w i (endResolved k n kind m) := by
  have ends := mod_track (fun _ t => endResolved t n kind m) h
  rw [← ends]
  simp only [Work.resolvePoint, h, Option.bind_some, there, item]
  rfl

theorem endsResolved_iff (route : List RouteItem) : endsResolved route = true ↔
    (∃ p ∈ route, ∃ kind m b, p.item = .terminal kind m b) ∧ ∀ p ∈ route, ∀ kind m, p.item ≠ .terminal kind m false := by
  unfold endsResolved
  rw [Bool.and_eq_true, List.any_eq_true, List.all_eq_true]
  refine and_congr (exists_congr fun p => and_congr_right fun _ => ?_) (forall₂_congr fun p _ => ?_)
  · cases p.item <;> simp
  · cases p.item <;> simp

/-- Another end of a route than the one at a place waits. -/
def OthersWait (route : List RouteItem) (n : Nat) : Prop :=
  ∃ (j : Nat) (p : RouteItem) (kind : EndOf) (m : Option StationId),
    j ≠ n ∧ route[j]? = some p ∧ p.item = .terminal kind m false

theorem endsResolved_modify {kind : EndOf} {m : Option StationId} {route : List RouteItem} (there : route[n]? = some r) :
    endsResolved (route.modify n (resolvedEnd kind m)) = true ↔ ¬OthersWait route n := by
  have placed : (route.modify n (resolvedEnd kind m))[n]? = some (resolvedEnd kind m r) := by
    rw [List.getElem?_modify_eq, there]
    rfl
  rw [endsResolved_iff]
  constructor
  · rintro ⟨-, done⟩ ⟨j, p, kind', m', away, hj, ends⟩
    have stays : (route.modify n (resolvedEnd kind m))[j]? = some p := by
      rw [List.getElem?_modify_ne _ _ (Ne.symm away)]
      exact hj
    exact done p (List.mem_of_getElem? stays) kind' m' ends
  · intro none
    refine ⟨⟨_, List.mem_of_getElem? placed, kind, m, true, rfl⟩, fun p hp kind' m' ends => ?_⟩
    rcases mem_modify hp with ⟨q, -, rfl⟩ | ⟨j, away, hj⟩
    · cases ends
    · exact none ⟨j, p, kind', m', away, hj, ends⟩

/-- A track as the SPENT test leaves it, its membership apart. -/
def spentTrack (s : State) (k : Track) : Track :=
  { k with
    state := .spent, route := k.route.filter RouteItem.lasting, passes := [],
    lingerEnd := .until (s.now + s.limits.linger * Config.second) }

theorem spentCheck_spends (h : w.st.track? i = some k) (flies : k.state = .flight) (ends : endsResolved k.route = true) :
    w.spentCheck i = ((setTrack w i (spentTrack w.st k)).refreshServed i).syncMember i := by
  have spent := mod_track (fun s t => { t with
    state := .spent, route := t.route.filter RouteItem.lasting, passes := [],
    lingerEnd := .until (s.now + s.limits.linger * Config.second) }) h
  simp only [Work.spentCheck, h]
  rw [if_pos ⟨flies, ends⟩]
  exact congrArg (fun u : Work => (u.refreshServed i).syncMember i) spent

end

/-! ## Plan entries at their bounds -/

section
variable {s : State} {i : SlotId} {place n : Nat} {k : Track} {r : RouteItem} {x : StationId}

theorem earlyBound_covers {w : Work} (h : w.st.track? i = some k) (there : k.route[n]? = some r)
    (releasing : w.st.stations[x].state = .releasing) : w.earlyBound i n x =
      setTrack w i { k with route := k.route.modify n fun p => { p with covering := true } } := by
  have test : w.st.stations[x].earlyTest r.unserved = none := by rw [earlyTest_eq, if_pos releasing]
  have entry : ((w.st.track? i).bind fun t => t.route[n]?) = some r := by rw [h]; exact there
  rw [← mod_track (fun _ t => { t with route := t.route.modify n fun p => { p with covering := true } }) h]
  simp only [Work.earlyBound, entry, test]
  rfl

theorem earlyBound_resolves {w : Work} {reason : Uncovered} (h : w.st.track? i = some k) (there : k.route[n]? = some r)
    (test : w.st.stations[x].earlyTest r.unserved = some reason) :
    w.earlyBound i n x = w.resolveStation i n x (some reason) := by
  have entry : ((w.st.track? i).bind fun t => t.route[n]?) = some r := by rw [h]; exact there
  simp only [Work.earlyBound, entry, test]

/-- A resolution on a track that does not escape, where every point has joined and neither another entry at the station nor
another served list is concerned. -/
theorem resolveStation_plain (reason : Option Uncovered) (h : s.track? i = some k) (there : k.route[n]? = some r)
    (stays : ¬((resolvedTrack k n reason).state = .flight ∧ (resolvedTrack k n reason).covered = false ∧
      markedCalls (resolvedTrack k n reason).route x r.conds = true))
    (all : AllJoined k.route) (alone : ∀ (m : Nat) (p : RouteItem), m ≠ n → k.route[m]? = some p → p.item ≠ .station x)
    (absent : ∀ y : StationId, y ≠ x ∨ r.holds = false → ∀ e ∈ s.stations[y].served, e.handle ≠ s.handleOf i) :
    ((s.begin.resolveStation i n x reason).extend i).finish = { s with
      slots := updAt s.slots i fun q => { q with track := some (resolvedTrack k n reason) }
      stations := updAt s.stations x fun q => { q with served := servedOutlives (s.handleOf i) q.served } } := by
  have rest : ∀ p ∈ (resolvedTrack k n reason).route, p.item ≠ .station x := by
    intro p hp
    rw [resolvedTrack_route] at hp
    obtain ⟨m, away, hm⟩ := List.mem_eraseIdx_iff_getElem?.mp hp
    exact alone m p away hm
  have joined : AllJoined (resolvedTrack k n reason).route := by
    rw [resolvedTrack_route]
    exact all.eraseIdx n
  have here : (outlive s.begin i x).st.track? i = some k := h
  have resolves : s.begin.resolveStation i n x reason =
      setTrack (outlive s.begin i x) i (resolvedTrack k n reason) :=
    ((resolveStation_eq (w := s.begin) reason h there).trans (if_neg stays)).trans
      (letResolve_eq (w := s.begin) r.holds h rest absent)
  rw [resolves, finish_extend (setTrack_track _ here) (.inr joined) rfl]
  exact setTrack_st _ here

/-- An uncovered track that escapes at the marker of an end. -/
theorem resolveStation_escapes (reason : Uncovered) (h : s.track? i = some k) (there : k.route[n]? = some r)
    (flies : k.state = .flight) (bare : k.covered = false) (calls : markedCalls (k.route.eraseIdx n) x r.conds = true) :
    ∃ v, ((s.begin.resolveStation i n x (some reason)).extend i).finish.track? i = some v ∧ v.state = .escaped ∧
      v.escapeReason = some .uncovered ∧ ((s.begin.resolveStation i n x (some reason)).extend i).finish.raised .escaped ∧
      s.Framed ((s.begin.resolveStation i n x (some reason)).extend i).finish ∧
      ((s.begin.resolveStation i n x (some reason)).extend i).finish.nextSeq = s.nextSeq ∧
      min 255 (k.stationsUncovered + 1) ≤ v.stationsUncovered := by
  have resolves := (resolveStation_eq (w := s.begin) (x := x) (some reason) h there).trans (if_pos ⟨flies, bare, calls⟩)
  have before := letResolve_track (w := s.begin) (x := x) (resolvedTrack k n (some reason)) h r.holds
  have escapes := escapeTrack_kept .uncovered before (.inl flies)
  rw [← resolves] at escapes
  obtain ⟨v, left⟩ := (escapes.trans (extend_finish_kept _ i)).escaped before
  obtain ⟨gone, why⟩ := left.state
  have kept := (resolveStation_steps s.begin i n x (some reason)).kept.trans (extend_finish_kept _ i)
  have count : min 255 (min 255 (k.stationsUncovered + 1)) ≤ v.stationsUncovered := left.step.uncoveredCount
  exact ⟨v, left.track, gone, why, left.raised, kept.framed, kept.nextSeq, by omega⟩

/-- A track whose entry has covered it up to its late bound. -/
theorem resolveStation_covers (h : s.track? i = some k) (there : k.route[n]? = some r) :
    ∃ v, ((s.begin.resolveStation i n x none).extend i).finish.track? i = some v ∧ v.covered = true ∧
      s.Framed ((s.begin.resolveStation i n x none).extend i).finish ∧
      ((s.begin.resolveStation i n x none).extend i).finish.nextSeq = s.nextSeq ∧
      min 255 (k.stationsCovered + 1) ≤ v.stationsCovered := by
  have resolves := (resolveStation_eq (w := s.begin) (x := x) none h there).trans (if_neg fun e => nomatch e.2.1)
  have before := letResolve_track (w := s.begin) (x := x) (resolvedTrack k n none) h r.holds
  rw [← resolves] at before
  obtain ⟨v, hv, step⟩ := (extend_finish_kept _ i).track before
  have kept := (resolveStation_steps s.begin i n x none).kept.trans (extend_finish_kept _ i)
  have count : min 255 (min 255 (k.stationsCovered + 1)) ≤ v.stationsCovered := step.coveredCount
  exact ⟨v, hv, step.covered rfl, kept.framed, kept.nextSeq, by omega⟩

theorem lateBound_steps (w : Work) (i : SlotId) (n : Nat) (r : RouteItem) : Quiets w.st (w.lateBound i n r).st := by
  unfold Work.lateBound
  split
  · exact (resolvePoint_steps w i n).trans (spentCheck_steps _ i)
  · exact resolvePoint_steps w i n

theorem lateBound_kept (w : Work) (i : SlotId) (n : Nat) (r : RouteItem) :
    Kept w.st ((w.lateBound i n r).extend i).finish :=
  (lateBound_steps w i n r).kept.trans (extend_finish_kept _ i)

theorem lateBound_terminal {w : Work} {kind : EndOf} {m : Option StationId} {b : Bool} (h : w.st.track? i = some k)
    (there : k.route[n]? = some r) (item : r.item = .terminal kind m b) :
    w.lateBound i n r = (setTrack w i (endResolved k n kind m)).spentCheck i := by
  rw [← resolvePoint_terminal h there item]
  simp only [Work.lateBound, item]

/-- An end that resolves on a track that has other ends to come, or does not fly, changes the end alone. -/
theorem lateBound_stays {kind : EndOf} {m : Option StationId} {b : Bool} (h : s.track? i = some k)
    (there : k.route[n]? = some r) (item : r.item = .terminal kind m b)
    (stays : k.state ≠ .flight ∨ OthersWait k.route n) :
    s.begin.lateBound i n r = setTrack s.begin i (endResolved k n kind m) := by
  rw [lateBound_terminal (w := s.begin) h there item]
  refine spentCheck_idle (setTrack_track _ h) fun ends => ?_
  obtain ⟨flies, done⟩ := ends
  exact stays.elim (· flies) ((endsResolved_modify there).mp done)

/-- A FLIGHT track whose last end resolves is SPENT. -/
theorem lateBound_spends {kind : EndOf} {m : Option StationId} {b : Bool} (h : s.track? i = some k)
    (there : k.route[n]? = some r) (item : r.item = .terminal kind m b) (flies : k.state = .flight)
    (last : ¬OthersWait k.route n) : s.begin.lateBound i n r =
      ((setTrack s.begin i (spentTrack s (endResolved k n kind m))).refreshServed i).syncMember i := by
  have here : (setTrack s.begin i (endResolved k n kind m)).st.track? i = some (endResolved k n kind m) :=
    setTrack_track _ h
  rw [lateBound_terminal (w := s.begin) h there item,
    spentCheck_spends here flies ((endsResolved_modify there).mpr last), setTrack_twice]
  rfl

theorem lateBound_spent {kind : EndOf} {m : Option StationId} {b : Bool} (h : s.track? i = some k)
    (there : k.route[n]? = some r) (item : r.item = .terminal kind m b) (flies : k.state = .flight)
    (last : ¬OthersWait k.route n) : ∃ v, ((s.begin.lateBound i n r).extend i).finish.track? i = some v ∧
      v.state = .spent ∧ s.Framed ((s.begin.lateBound i n r).extend i).finish ∧
      ((s.begin.lateBound i n r).extend i).finish.nextSeq = s.nextSeq := by
  have kept := lateBound_kept s.begin i n r
  let p := setTrack s.begin i (spentTrack s (endResolved k n kind m))
  have spends : Kept p.st (s.begin.lateBound i n r).st := by
    rw [lateBound_spends h there item flies last]
    exact (refreshServed_steps p i).kept.trans (syncMember_steps _ i).kept
  have here : p.st.track? i = some (spentTrack s (endResolved k n kind m)) := setTrack_track (w := s.begin) _ h
  obtain ⟨v, hv, step⟩ := (spends.trans (extend_finish_kept _ i)).track here
  exact ⟨v, hv, step.spent rfl, kept.framed, kept.nextSeq⟩

/-- A zone that loses a live track. -/
def losesLive (q : Zone) : Zone := { q with live := q.live - 1 }

/-- A live membership given up where the zone's level stands on other grounds. -/
theorem memberMove_leaves (w : Work) (z : ZoneId) (level : w.st.zones[z].level = (losesLive w.st.zones[z]).computed) :
    w.memberMove (some (.live z)) none = w.mod fun s => s.updZone z losesLive := by
  have zone : (w.mod fun s => s.updZone z losesLive).st.zones[z] = losesLive w.st.zones[z] := updAt_same _ _ _
  exact recompute_idle (w.mod fun s => s.updZone z losesLive) z (by rw [zone]; exact level)

/-- A track that counts nowhere. -/
def uncounted (k : Track) : Track := { k with member := none }

/-- A track SPENT where no list serves it and its zone's level stands: its record and its zone's count change. -/
theorem lateBound_spent_plain {kind : EndOf} {m : Option StationId} {b : Bool} {z : ZoneId} (h : s.track? i = some k)
    (there : k.route[n]? = some r) (item : r.item = .terminal kind m b) (flies : k.state = .flight)
    (last : ¬OthersWait k.route n) (member : k.member = some (.live z))
    (level : s.zones[z].level = (losesLive s.zones[z]).computed)
    (absent : ∀ y : StationId, ∀ e ∈ s.stations[y].served, e.handle ≠ s.handleOf i) :
    ((s.begin.lateBound i n r).extend i).finish = { s with
      slots := updAt s.slots i fun q => { q with track := some (uncounted (spentTrack s (endResolved k n kind m))) }
      zones := updAt s.zones z losesLive } := by
  let v := spentTrack s (endResolved k n kind m)
  have here : (setTrack s.begin i v).st.track? i = some v := setTrack_track (w := s.begin) _ h
  have served := refreshServed_absent here (by rw [setTrack_handleOf]; exact absent)
  have moves := syncMember_moves here (show none ≠ v.member by rw [show v.member = _ from member]; nofun)
  have spends := (lateBound_spends h there item flies last).trans
    ((congrArg (fun u : Work => u.syncMember i) served).trans moves)
  have leaves := memberMove_leaves (setTrack s.begin i (uncounted v)) z level
  rw [setTrack_twice, show v.member = some (.live z) from member] at spends
  have ends := spends.trans leaves
  have gone : ((setTrack s.begin i (uncounted v)).mod fun s => s.updZone z losesLive).st.track? i =
      some (uncounted v) := setTrack_track (w := s.begin) _ h
  rw [ends, finish_extend gone (.inl rfl) rfl]
  exact congrArg (fun u : State => u.updZone z losesLive) (setTrack_begin _ h)

end

/-- Settles O35: each kind of plan entry at its bound, by what the resolution leaves of the track. -/
theorem planEntryBounds : Obligations.PlanEntryBounds := by
  unfold Obligations.PlanEntryBounds
  refine ⟨earlyTest_eq, ?station, ?point, ?kept, ?terminal⟩
  case station =>
    intro s i place n k r x hr h e item
    obtain ⟨there, -, -⟩ := planEntry_there h e
    refine ⟨?covers, ?uncovered, ?covered, ?resolves, ?pending, fun covering _ => stationEarlyBound_covering h e covering,
      fun pending => stationLateBound_pending h e pending⟩
    case covers =>
      intro pending due releasing all
      have joined : AllJoined (k.route.modify n fun p => { p with covering := true }) :=
        AllJoined.modify all fun q hq point => all q (List.mem_of_getElem? hq) point
      rw [stationEarlyBound_due hr h e item pending due, earlyBound_covers (w := s.begin) h there releasing,
        finish_extend (setTrack_track _ h) (.inr joined) rfl, setTrack_begin _ h]
    case uncovered =>
      intro reason pending due test escapes
      have calls : markedCalls (k.route.eraseIdx n) x r.conds = true ↔ ∃ p ∈ k.route, CallsAt x r.conds p :=
        (markedCalls_iff _ _ _).trans (callsAt_eraseIdx there item _)
      rw [stationEarlyBound_due hr h e item pending due, earlyBound_resolves (w := s.begin) h there test]
      refine ⟨fun escape => ?_, fun stays all alone absent => ?_⟩
      · obtain ⟨flies, bare, ends⟩ := escape
        exact ⟨_, (resolveStation_escapes reason h there flies bare (calls.mpr ends)).imp fun v left => ⟨rfl, left⟩⟩
      · refine congrArg Host.Outcome.next (resolveStation_plain (some reason) h there (fun goes => stays ?_) all alone absent)
        obtain ⟨flies, bare, ends⟩ := goes
        exact ⟨flies, bare, calls.mp ends⟩
    case covered =>
      intro covering due
      rw [stationLateBound_due hr h e item covering due]
      exact ⟨_, (resolveStation_covers h there).imp fun v left => ⟨rfl, left⟩⟩
    case resolves =>
      intro covering due all alone absent
      rw [stationLateBound_due hr h e item covering due]
      exact congrArg Host.Outcome.next
        (resolveStation_plain none h there (fun goes => nomatch goes.2.1) all alone absent)
    case pending =>
      intro pending due
      rw [stationEarlyBound_due hr h e item pending due]
      have kept := (earlyBound_steps s.begin i n x).kept.trans (extend_finish_kept _ i)
      exact ⟨_, (kept.entryLeft h).imp fun v left => ⟨rfl, left⟩⟩
  case point =>
    intro s i place n k r hr h e due all
    obtain ⟨there, -, -⟩ := planEntry_there h e
    refine ⟨fun d item => ?_, fun g item => ?_⟩
    · have resolves : s.begin.lateBound i n r = s.begin.resolvePoint i n := by simp only [Work.lateBound, item]
      rw [entryLateBound_due hr h e (by rw [item]; rfl) (by simp [RouteItem.endsInStall, item]) due, resolves,
        resolvePoint_detector (w := s.begin) h there item,
        finish_extend (setTrack_track _ h) (.inr (AllJoined.eraseIdx all n)) rfl, setTrack_begin _ h]
      rfl
    · have resolves : s.begin.lateBound i n r = s.begin.resolvePoint i n := by simp only [Work.lateBound, item]
      rw [entryLateBound_due hr h e (by rw [item]; rfl) (by simp [RouteItem.endsInStall, item]) due, resolves,
        resolvePoint_gate (w := s.begin) h there item,
        finish_extend (setTrack_track _ h) (.inr (AllJoined.eraseIdx all n)) rfl, setTrack_begin _ h]
  case kept =>
    intro s i place n k r hr h e due kinds
    have late : r.item.station? = none := by
      rcases kinds with ⟨d, item⟩ | ⟨g, item⟩ | ⟨kind, m, done, item⟩ <;> rw [item] <;> rfl
    cases stays : r.endsInStall with
    | true => exact ⟨_, k, entryLateBound_stall h e stays, h, rfl, (Kept.same s).framed, rfl⟩
    | false =>
      rw [entryLateBound_due hr h e late stays due]
      exact ⟨_, ((lateBound_kept s.begin i n r).entryLeft h).imp fun v left => ⟨rfl, left⟩⟩
  case terminal =>
    intro s i place n k r kind m b hr h e due item others after
    obtain ⟨there, -, -⟩ := planEntry_there h e
    refine ⟨fun stall plain => entryLateBound_stall h e ?_, fun resolves => ?_⟩
    · exact endsInStall_iff.mpr ⟨⟨m, b, stall ▸ item⟩, plain⟩
    have leaves : r.endsInStall = false := by
      rw [Bool.eq_false_iff, Ne, endsInStall_iff, item]
      rintro ⟨⟨_, _, ends⟩, plain⟩
      cases ends
      exact resolves.elim (· rfl) (· plain)
    rw [entryLateBound_due hr h e (by rw [item]; rfl) leaves due]
    refine ⟨fun stays all => ?_, fun flies last => ⟨?_, fun z member level absent => ?_⟩⟩
    · have joined : AllJoined after := AllJoined.modify all fun _ _ point => by cases point
      rw [lateBound_stays h there item stays, finish_extend (setTrack_track _ h) (.inr joined) rfl, setTrack_begin _ h]
      rfl
    · exact ⟨_, (lateBound_spent h there item flies last).imp fun v left => ⟨rfl, left⟩⟩
    · exact congrArg Host.Outcome.next (lateBound_spent_plain h there item flies last member level absent)

end Sys2Proof.Laws
end

section
/-! PROOFS. The room of the served lists (R87, R102): a list grows in the small steps of a delivery alone, where
`StationStep.room` bounds it; every other operation of the model keeps, shortens or empties the lists. -/
namespace Sys2Proof.Laws
open Sys2Proof.Machine

/-! ## Updates of the state -/

theorem foldl_state_fits {α : Type} {f : State → α → State} (step : ∀ s a, s.servedFits → (f s a).servedFits) {l : List α}
    {s : State} (h : s.servedFits) : (l.foldl f s).servedFits := foldl_keeps step l s h

theorem ite_fits {s t : State} {p : Prop} [Decidable p] (h : s.servedFits) (k : t.servedFits) :
    (if p then s else t).servedFits := by
  split
  · exact h
  · exact k

section
variable {s t : State} (h : s.servedFits)
include h

/-- A state with the same stations. -/
theorem fits_of_stations (e : t.stations = s.stations) : t.servedFits := by
  unfold State.servedFits at *
  rwa [e]

theorem fits_of_zonesOnly (k : ZonesOnly s t) : t.servedFits :=
  fits_of_stations h ((congrArg State.stations k.rest :))

theorem updStation_fits {x : StationId} {f : Station → Station}
    (room : (f s.stations[x]).served.length ≤ Config.servedRoom) : (s.updStation x f).servedFits := by
  intro y
  rcases updAt_cases s.stations x y f with ⟨rfl, e⟩ | ⟨-, e⟩
  · rwa [show (s.updStation y f).stations[y] = _ from e]
  · rw [show (s.updStation x f).stations[y] = _ from e]
    exact h y

theorem sirens_fits (v : Vector Siren 8) : { s with sirens := v }.servedFits := fits_of_stations h rfl

theorem returnUnits_fits (x : StationId) (dest : StationState) : (s.returnUnits x dest).servedFits :=
  fits_of_stations (updStation_fits (f := fun q => q.released dest) h (h x)) rfl

theorem lineTo_fits (l : LineId) (f : Line → Line) : (s.lineTo l f).servedFits := by
  unfold State.lineTo
  dsimp only
  split
  · exact fits_of_stations h rfl
  · exact fits_of_stations h rfl

theorem checkRunning_fits (l : LineId) : (s.checkRunning l).servedFits := by
  unfold State.checkRunning
  split
  · exact lineTo_fits h l _
  · exact h

theorem startLine_fits (l : LineId) : (s.startLine l).servedFits := by
  unfold State.startLine
  exact checkRunning_fits (lineTo_fits (fits_of_stations h (by rfl)) l _) l

theorem refreshFault_fits (k : FaultKind) (z : ZoneId) : (s.refreshFault k z).servedFits := by
  unfold State.refreshFault
  extract_lets bit new
  split
  · exact h
  · exact fits_of_stations h rfl

theorem refreshPlaced_fits (k : FaultKind) (what : Placed) : (s.refreshPlaced k what).servedFits := by
  unfold State.refreshPlaced
  split
  · exact h
  · exact refreshFault_fits h k _

theorem refreshAllFaults_fits : s.refreshAllFaults.servedFits := by
  unfold State.refreshAllFaults
  exact foldl_state_fits (fun _ z h => foldl_state_fits (fun _ k h => refreshFault_fits h k z) h) h

theorem moveShutter_fits (i : ShutterId) (f : Shutter → Shutter) : (s.moveShutter i f).servedFits := by
  unfold State.moveShutter
  extract_lets before after shown told flagged
  have htold : told.servedFits := by
    unfold told
    split
    · exact fits_of_stations h rfl
    · exact fits_of_stations h rfl
  clear_value told
  have hflagged : flagged.servedFits := refreshFault_fits htold .shutter _
  split
  · exact htold
  · cases after.sideB with
    | none => exact hflagged
    | some z => exact refreshFault_fits hflagged .shutter z

end

/-- A table of stations that is mapped. -/
theorem fits_of_map {s t : State} {f : Station → Station} (e : t.stations = s.stations.map f)
    (room : ∀ x : StationId, (f s.stations[x]).served.length ≤ Config.servedRoom) : t.servedFits := by
  intro x
  rw [e, show (s.stations.map f)[x] = f s.stations[x] from Vector.getElem_map _ _]
  exact room x

/-! ## Deliveries -/

theorem Quiet.fits {s t : State} (q : Quiet s t) (h : s.servedFits) : t.servedFits := by
  cases q with
  | raise n => exact fits_of_stations h rfl
  | track i f => exact fits_of_stations h rfl
  | member old new => exact fits_of_zonesOnly h (memberMove_zonesOnly s.begin old new)
  | served x l room => exact updStation_fits h (room (h x))

theorem Step.fits {s t : State} (k : Step s t) (h : s.servedFits) : t.servedFits := by
  cases k with
  | quiet q => exact q.fits h
  | station x f k => exact updStation_fits h (k.room (h x))
  | release x dest => exact returnUnits_fits h x dest
  | grant x =>
    have granted := updStation_fits (f := fun q => { q with
        state := .releasing, releaseStart := some s.now,
        confirm := if q.pressure then .confirmed else .waiting s.now,
        cutStart := if q.floodDemand then none else some s.now, minRunAt := some (s.now + s.minRun) }) h (h x)
    exact fits_of_stations granted rfl
  | gate g f => exact fits_of_stations h rfl
  | coast l c => exact lineTo_fits h l _
  | unqueue l c => exact lineTo_fits (fits_of_stations h (by rfl)) l _
  | cold l c => exact lineTo_fits h l _
  | start l => exact startLine_fits h l
  | close i => exact moveShutter_fits h i _
  | drop i => exact moveShutter_fits h i _
  | sirens z => exact fits_of_stations h rfl

theorem Steps.fits {s t : State} (k : Steps s t) (h : s.servedFits) : t.servedFits :=
  Chain.holds (P := State.servedFits) (fun _ _ => Step.fits) k h

theorem Quiets.fits {s t : State} (k : Quiets s t) (h : s.servedFits) : t.servedFits := k.loud.fits h

theorem finish_fits {w : Work} (h : w.st.servedFits) : w.finish.servedFits := (finish_steps w).fits h

theorem foldl_fits {α : Type} {f : Work → α → Work} (step : ∀ w a, w.st.servedFits → (f w a).st.servedFits) {l : List α}
    {w : Work} (h : w.st.servedFits) : (l.foldl f w).st.servedFits :=
  foldl_keeps (P := fun w : Work => w.st.servedFits) step l w h

/-- A change of the state of an event in progress, as far as its result keeps within the room. -/
theorem mod_fits_of {w : Work} {f : State → State} (h : (f w.st).servedFits) : (w.mod f).st.servedFits := h

theorem push_fits {w : Work} (h : w.st.servedFits) (d : Delivery) : (w.push d).st.servedFits := by
  rwa [push_st]

/-! ## Levels, tracks, gates and stations -/

section
variable {w : Work} (h : w.st.servedFits)
include h

/-- A change that leaves the stations alone. -/
theorem mod_fits {f : State → State} (e : (f w.st).stations = w.st.stations) : (w.mod f).st.servedFits :=
  fits_of_stations h e

theorem recompute_fits (z : ZoneId) : (w.recompute z).st.servedFits := fits_of_zonesOnly h (recompute_zonesOnly w z)

theorem arrive_fits (z : ZoneId) (l : Level) : (w.arrive z l).st.servedFits := recompute_fits (mod_fits h rfl) z

theorem arriveBurst_fits (z : ZoneId) : (w.arriveBurst z).st.servedFits := arrive_fits (mod_fits h rfl) z .alarm

theorem arriveCall_fits (z : ZoneId) (l : Level) : (w.arriveCall z l).st.servedFits := arrive_fits (mod_fits h rfl) z l

theorem shutdown_fits (l : LineId) (c : StopCause) : (w.shutdown l c).st.servedFits := (shutdown_steps w l c).fits h

theorem faultGate_fits (g : GateId) (r : GateFault) : (w.faultGate g r).st.servedFits := by
  unfold Work.faultGate
  exact shutdown_fits (push_fits (mod_fits h rfl) _) _ _

theorem travelGate_fits (g : GateId) (d : GateState) : (w.travelGate g d).st.servedFits :=
  push_fits (push_fits (mod_fits h rfl) _) _

theorem checkGate_fits (g : GateId) : (w.checkGate g).st.servedFits := (checkGate_steps w g).fits h

theorem stopCovering_fits (x : StationId) (r : Uncovered) : (w.stopCovering x r).st.servedFits :=
  (stopCovering_steps w x r).fits h

theorem faultStation_fits (x : StationId) (r : StationFault) : (w.faultStation x r).st.servedFits := by
  unfold Work.faultStation
  extract_lets left stopped
  have hleft : left.st.servedFits := by
    have returned := returnUnits_fits h x .fault
    exact updStation_fits returned (returned x)
  have hstopped : stopped.st.servedFits := stopCovering_fits hleft x .fault
  clear_value stopped
  exact push_fits (fits_of_stations (refreshPlaced_fits hstopped .station (.station x)) rfl) _

/-- A cut empties the station's list (R116). -/
theorem cutStation_fits (x : StationId) : (w.cutStation x).st.servedFits := by
  unfold Work.cutStation
  extract_lets removed left cut
  have hleft : left.st.servedFits :=
    updStation_fits (f := fun q => { q with served := [], manual := none }) (returnUnits_fits h x .idle) (Nat.zero_le _)
  have hcut : cut.st.servedFits :=
    foldl_fits (fun w i h => (stopEntries_steps w x _ .cut i).fits h) hleft
  clear_value cut
  exact push_fits (mod_fits hcut rfl) _

/-- A retirement shortens the lists that serve the track (R71). -/
theorem retire_fits (i : SlotId) : (w.retire i).st.servedFits := by
  cases k : w.st.track? i with
  | none => simpa only [Work.retire, k] using h
  | some t =>
    refine fits_of_stations (s := (unserveAll (w.st.handleOf i) (w.mod fun s => freed s i)).st) ?_ (retire_lists k).1
    intro x
    rw [unserveAll_station]
    exact (List.length_filter_le _ _).trans (h x)

theorem takeRoute_fits (i : SlotId) (route : List RouteItem) : (w.takeRoute i route).st.servedFits :=
  (takeRoute_steps w i route).fits h

theorem escapeTrack_fits (i : SlotId) (r : EscapeReason) : (w.escapeTrack i r).st.servedFits := by
  unfold Work.escapeTrack
  split
  · exact h
  · split
    · extract_lets escaped synced
      have hsynced : synced.st.servedFits := (syncMember_steps escaped i).fits (mod_fits h rfl)
      clear_value synced
      split
      · exact hsynced
      · exact push_fits hsynced _
    · exact h

/-! ## Births -/

theorem findSlot_fits : w.findSlot.1.st.servedFits := by
  unfold Work.findSlot
  split
  · exact h
  · split
    · exact retire_fits h _
    · exact h

theorem lineBirth_fits (l : LineId) (time : Tick) : (w.lineBirth l time).st.servedFits := by
  unfold Work.lineBirth
  split
  · exact h
  · extract_lets joined arrived
    have hjoined : joined.st.servedFits := mod_fits h rfl
    split
    · have harrived : arrived.st.servedFits := by
        refine foldl_fits (fun w z h => ?_) hjoined
        split
        · exact arriveBurst_fits h z
        · exact h
      exact shutdown_fits (mod_fits harrived rfl) l .burst
    · exact hjoined

theorem birth_fits (seg : SegId) (position : Nat) (d : ChanId) (glow : Glow) (intensity : Byte) (time : Tick)
    (injected : Bool) : (w.birth seg position d glow intensity time injected).1.st.servedFits := by
  have found := findSlot_fits h
  unfold Work.birth
  split
  · rename_i v hv
    rwa [hv] at found
  · rename_i v i hv
    rw [hv] at found
    extract_lets born placed routed
    have hplaced : placed.st.servedFits := mod_fits found rfl
    have route := takeRoute_fits hplaced i (placed.st.walkFromDetector seg position d)
    have hrouted : routed.st.servedFits := mod_fits route (raise_stations _ _)
    clear_value routed
    split
    · exact hrouted
    · exact lineBirth_fits hrouted _ time

theorem tableFull_fits (seg : SegId) : (w.tableFull seg).st.servedFits :=
  mod_fits (shutdown_fits (arrive_fits (mod_fits h rfl) _ .alarm) _ .tableFull) rfl

theorem correlate_fits (i : SlotId) (d : ChanId) (glow : Glow) (intensity : Byte) (time : Tick) :
    (w.correlate i d glow intensity time).st.servedFits := by
  unfold Work.correlate
  split
  · exact h
  · exact takeRoute_fits (mod_fits h rfl) i _

theorem qualified_fits (d : ChanId) (glow : Glow) (intensity : Byte) (time : Tick) :
    (w.qualified d glow intensity time).st.servedFits := by
  unfold Work.qualified
  split
  · exact correlate_fits h _ d glow intensity time
  · split
    · exact h
    · rename_i seg position _
      have born := birth_fits h seg position d glow intensity time false
      split
      · rename_i v _ hv
        rwa [hv] at born
      · rename_i v hv
        rw [hv] at born
        exact tableFull_fits born seg

/-! ## Stalls -/

theorem enterStall_fits (i : SlotId) : (w.enterStall i).st.servedFits := by
  unfold Work.enterStall
  split
  · exact h
  · split
    · exact (withdrawUnopened_steps _ i).fits (mod_fits h rfl)
    · exact h

theorem recover_fits (i : SlotId) : (w.recover i).st.servedFits := by
  unfold Work.recover
  split
  · exact h
  · split
    · exact takeRoute_fits (mod_fits h rfl) i _
    · exact h

theorem stallEvent_fits (c : AirId) (stall : StallState) : (w.stallEvent c stall).st.servedFits := by
  refine foldl_fits (fun w i h => ?_) h
  split
  · exact h
  · split
    · cases stall with
      | stalled => exact enterStall_fits h i
      | none => exact recover_fits h i
      | flowing => exact recover_fits h i
    · exact h

theorem feedback_fits (m : FanId) (running : Bool) (l : LineId) : (w.feedback m running l).st.servedFits := by
  unfold Work.feedback
  dsimp only
  split
  · exact h
  · split
    · exact checkRunning_fits h l
    · exact shutdown_fits h l .fanFault
    · exact h

theorem lateBound_fits (i : SlotId) (k : Nat) (r : RouteItem) : (w.lateBound i k r).st.servedFits := by
  have resolved := (resolvePoint_steps w i k).fits h
  unfold Work.lateBound
  split
  · exact (spentCheck_steps _ i).fits resolved
  · exact resolved

theorem releaseZone_fits (z : ZoneId) : (w.releaseZone z).st.servedFits := by
  unfold Work.releaseZone
  extract_lets old v
  have hv : v.st.servedFits := mod_fits h rfl
  split
  · exact hv
  · exact push_fits (mod_fits hv rfl) _

end

/-! ## What the events of time and of the inputs do -/

section
variable {s : State} (h : s.servedFits)
include h

theorem event_fits {d : Bool} {f : State → Work} (k : (f s).st.servedFits) : (s.event d f).servedFits := by
  unfold State.event
  split
  · exact finish_fits k
  · exact h

theorem entryEvent_fits {i : SlotId} {place : Nat} {due : Tick → Tick → RouteItem → Bool} {f : Nat → RouteItem → Work → Work}
    (k : ∀ n r, (f n r s.begin).st.servedFits) : (s.entryEvent i place due f).servedFits := by
  unfold State.entryEvent
  split
  · exact event_fits h ((extend_steps _ i).fits (k _ _))
  · exact h

theorem shutterEvent_fits (i : ShutterId) (due : Shutter → Bool) (f : Shutter → Shutter) :
    (s.shutterEvent i due f).servedFits := by
  unfold State.shutterEvent
  split
  · exact moveShutter_fits h i f
  · exact h

theorem channelTo_fits (d : ChanId) (c : ChanState) : (s.channelTo d c).servedFits := by
  unfold State.channelTo
  split
  · exact h
  · exact refreshPlaced_fits (fits_of_stations h (by rfl)) _ _

theorem frameError_fits (d : ChanId) : (s.frameError d).servedFits := by
  unfold State.frameError
  dsimp only
  split
  · exact channelTo_fits (fits_of_stations h (by rfl)) d .blind
  · exact fits_of_stations h rfl

theorem acceptFrame_fits (d : ChanId) (glow : Glow) (time : Tick) (f : Frame) :
    (s.acceptFrame d glow time f).st.servedFits := by
  unfold State.acceptFrame
  extract_lets seen
  have hseen : seen.servedFits := fits_of_stations h rfl
  split
  · exact channelTo_fits (fits_of_stations hseen (by rfl)) d .blind
  · exact channelTo_fits (fits_of_stations hseen (by rfl)) d .inService
  · split
    · exact fits_of_stations hseen rfl
    · exact qualified_fits (fits_of_stations hseen rfl) d glow _ time

theorem judgeFrame_fits (d : ChanId) (glow : Glow) (time : Tick) (f : Option Frame) :
    (s.judgeFrame d glow time f).st.servedFits := by
  unfold State.judgeFrame
  split
  · exact fits_of_stations h rfl
  · cases f with
    | none => exact frameError_fits h d
    | some f =>
      dsimp only
      split
      · exact h
      · exact acceptFrame_fits h d glow time f

theorem bitArrives_fits (d : ChanId) (bit : Bool) : (s.bitArrives d bit).st.servedFits := by
  unfold State.bitArrives
  split
  · dsimp only
    split <;> exact fits_of_stations h rfl
  · dsimp only
    split
    · exact fits_of_stations h rfl
    · exact judgeFrame_fits (fits_of_stations h (by rfl)) d _ _ _

theorem execFrameAbandoned_fits (d : ChanId) : ∃ t, execFrameAbandoned d s = .next t ∧ t.servedFits := by
  refine ⟨_, rfl, event_fits h ?_⟩
  split
  · exact judgeFrame_fits (fits_of_stations h (by rfl)) d _ _ _
  · exact h

theorem execEchoWindowExpiry_fits (d : ChanId) : ∃ t, execEchoWindowExpiry d s = .next t ∧ t.servedFits := by
  refine ⟨_, rfl, event_fits h ?_⟩
  dsimp only
  split
  · exact channelTo_fits (fits_of_stations h (by rfl)) d .blind
  · exact fits_of_stations h rfl

theorem tempArrivals_fits (a b : Temperature) : (s.tempArrivals a b).servedFits := by
  unfold State.tempArrivals
  extract_lets t
  have ht : t.servedFits := by
    unfold t
    split
    · exact fits_of_stations h rfl
    · exact h
  split
  · exact fits_of_stations ht rfl
  · exact ht

theorem gateBoundary_fits : s.gateBoundary.st.servedFits := by
  unfold State.gateBoundary
  extract_lets t w1 w2 w3
  have ht : t.servedFits := fits_of_stations h rfl
  split
  · exact ht
  · have stalls : w1.st.servedFits := by
      refine foldl_fits (w := t.begin) (fun w c h => ?_) ht
      split
      · exact h
      · exact stallEvent_fits h c _
    clear_value w1
    have temps : w2.st.servedFits :=
      mod_fits_of (foldl_state_fits (fun _ i h => tempArrivals_fits h s.temps[i] t.temps[i]) stalls)
    clear_value w2
    have levels : w3.st.servedFits :=
      foldl_fits (fun _ z h => recompute_fits h z) temps
    clear_value w3
    exact mod_fits_of (foldl_state_fits (fun _ z h => refreshFault_fits h .sensor z) levels)

theorem execLingerExpiry_fits (i : SlotId) : ∃ t, execLingerExpiry i s = .next t ∧ t.servedFits := by
  refine ⟨_, rfl, event_fits h ?_⟩
  split
  · exact fits_of_stations h rfl
  · exact retire_fits (w := s.begin) h i

theorem pressureSeen_fits (x : StationId) (shown : Bool) : (s.pressureSeen x shown).st.servedFits := by
  unfold State.pressureSeen
  split
  · exact updStation_fits h (h x)
  · exact faultStation_fits (w := s.begin) h x .pressureLost
  · exact h

theorem execPurgeDue_fits (x : StationId) : ∃ t, execPurgeDue x s = .next t ∧ t.servedFits := by
  refine ⟨_, rfl, event_fits h ?_⟩
  extract_lets before owed told
  have howed : owed.servedFits := updStation_fits h (h x)
  have htold : told.servedFits := by
    unfold told
    split
    · exact fits_of_stations (refreshPlaced_fits howed .purgeOverdue (.station x)) rfl
    · exact howed
  exact push_fits (w := told.begin) htold _

theorem limitsSeen_fits (g : GateId) : (s.limitsSeen g).st.servedFits := by
  unfold State.limitsSeen
  split
  · exact faultGate_fits (w := s.begin) h g .limitLost
  · exact checkGate_fits (w := s.begin) h g

theorem execStartListExpiry_fits : ∃ t, execStartListExpiry s = .next t ∧ t.servedFits := by
  refine ⟨_, rfl, event_fits h ?_⟩
  extract_lets shorter
  have hshorter : shorter.servedFits := fits_of_stations h rfl
  split
  · exact (testStarts_steps shorter ‹_›).fits hshorter
  · exact hshorter

theorem callFilter_fits (z : ZoneId) : (s.callFilter z).st.servedFits := by
  unfold State.callFilter
  extract_lets w
  have hw : w.st.servedFits := fits_of_stations h rfl
  split
  · exact arrive_fits hw z .fire
  · exact hw

theorem callInput_fits (z : ZoneId) (active : Bool) : (s.callInput z active).servedFits := by
  unfold State.callInput
  split
  · exact h
  · exact fits_of_stations h rfl

theorem sirenPhaseEnd_fits (i : SirenId) : (s.sirenPhaseEnd i).servedFits := by
  unfold State.sirenPhaseEnd
  split
  · split
    · exact fits_of_stations h rfl
    · exact ite_fits (fits_of_stations h rfl) (fits_of_stations h rfl)
  · exact h

theorem transact_fits {f : State → State} (k : (f s).servedFits) : (s.transact f).servedFits := by
  obtain ⟨_, e⟩ | ⟨_, e⟩ | ⟨_, e⟩ := transact_cases s f <;> rw [e]
  · exact h
  · exact fits_of_stations h rfl
  · exact k

end

/-! ## Part modes and part resets -/

/-- GUARD entry empties every list (R124). -/
theorem guardRecords_fits (s : State) : s.guardRecords.servedFits :=
  fits_of_map (f := Station.guard) rfl fun _ => Nat.zero_le _

theorem enterGuard_fits (s : State) : s.enterGuard.st.servedFits := by
  unfold State.enterGuard
  extract_lets entered faulted
  have hentered : entered.st.servedFits := fits_of_stations (guardRecords_fits s) rfl
  have hfaulted : faulted.st.servedFits := by
    refine foldl_fits (fun w g h => ?_) hentered
    split
    · exact faultGate_fits h g .limitLost
    · exact h
  clear_value faulted
  exact mod_fits_of (refreshAllFaults_fits hfaulted)

/-- RELEASE GUARD empties every list (R17, R124). -/
theorem releaseWork_fits (s : State) : s.releaseWork.st.servedFits := by
  unfold State.releaseWork
  extract_lets w0 w1 w2 w3 w4 w5
  have stations : w1.st.servedFits := fits_of_map (s := w0.st) (f := Station.release) rfl fun _ => Nat.zero_le _
  clear_value w1
  have retired : w2.st.servedFits :=
    foldl_fits (fun _ i h => retire_fits h i) stations
  clear_value w2
  have lines : w3.st.servedFits := by
    refine foldl_fits (fun w l h => ?_) retired
    split
    · exact h
    · exact h
    · exact shutdown_fits h l .config
  clear_value w3
  have records : w4.st.servedFits := mod_fits lines rfl
  clear_value w4
  have zones : w5.st.servedFits :=
    foldl_fits (fun _ z h => releaseZone_fits h z) records
  clear_value w5
  have judged := (judgeShutters_steps _).fits (refreshAllFaults_fits zones)
  exact mod_fits_of (sirens_fits judged _)

theorem partReset_fits (s : State) : s.partReset.servedFits :=
  fits_of_map (s := s) (f := fun q => { Station.reset with pressure := q.pressure }) rfl fun _ => Nat.zero_le _

theorem execValidationWalkEnd_fits {s : State} (h : s.servedFits) :
    ∃ t, execValidationWalkEnd s = .next t ∧ t.servedFits := by
  refine ⟨_, rfl, event_fits h ?_⟩
  split
  · exact fits_of_stations h rfl
  · exact enterGuard_fits s

/-! ## Judgements of link commands -/

/-- A judgement leaves, if it answers a state at all, one whose served lists keep within their room. -/
def JudgedFits (j : Judged) : Prop := ∀ u r, j = .ok (u, r) → u.servedFits

theorem JudgedFits.ok {u : State} {r : Reply} (h : u.servedFits) : JudgedFits (.ok (u, r)) := by
  rintro _ _ ⟨⟩
  exact h

theorem JudgedFits.error {r : Reply} : JudgedFits (.error r) := fun _ _ e => nomatch e

/-- A step of a judgement changes nothing by itself. -/
theorem JudgedFits.bind {α : Type} {x : Except Reply α} {f : α → Judged} (h : ∀ a, x = .ok a → JudgedFits (f a)) :
    JudgedFits (x >>= f) := by
  intro u r e
  obtain ⟨a, hx, hf⟩ := bind_ok e
  exact h a hx u r hf

section
variable {s : State} (h : s.servedFits) (target : Half) (data : List Byte)
include h

theorem request_fits {n : Nat} {names : Names} {t : Half} {d : List Byte} {own : State → Judged}
    (j : JudgedFits (own s)) : (s.request n names t d own).servedFits := by
  obtain ⟨k, e⟩ | ⟨u, r, hu, _, e⟩ := request_cases s n names t d own <;> rw [e]
  · exact fits_of_stations h rfl
  · exact fits_of_stations (j u r hu) rfl

theorem loadPoint_fits : JudgedFits (s.loadPoint target data) := by
  refine .bind fun _ _ => .bind fun _ _ => .bind fun _ _ => .bind fun placing _ => ?_
  dsimp only
  split
  · exact .bind fun _ _ => .bind fun _ _ => .bind fun _ _ => .ok (fits_of_stations h rfl)
  · exact .bind fun _ _ => .ok (fits_of_stations h rfl)

theorem loadGate_fits : JudgedFits (s.loadGate target data) := by
  refine .bind fun _ _ => .bind fun g _ => .bind fun _ _ => .bind fun _ _ => .bind fun _ _ => .bind fun _ _ =>
    .bind fun _ _ => .ok (finish_fits ?_)
  split
  · exact checkGate_fits (fits_of_stations h rfl) g
  · exact fits_of_stations h rfl

theorem loadShutter_fits : JudgedFits (s.loadShutter target data) := by
  refine .bind fun _ _ => .bind fun _ _ => .bind fun a _ => .bind fun _ _ => ?_
  cases a with
  | none => exact .error
  | some a => exact .bind fun _ _ => .ok (fits_of_stations h rfl)

theorem injectTrack_fits : JudgedFits (s.injectTrack target data) := by
  refine .bind fun _ _ => .bind fun d _ => .bind fun glow _ => .bind fun _ _ => ?_
  split
  · exact .error
  · rename_i seg position _
    have born := birth_fits (w := s.begin) h seg position d glow (byteAt data 1) s.now true
    split
    · exact .error
    · rename_i v _ hv
      rw [hv] at born
      exact .ok (finish_fits born)

theorem endOrder_fits (x : StationId) : (s.endOrder x).st.servedFits := push_fits (updStation_fits h (h x)) _

theorem lockWork_fits (x : StationId) : (s.lockWork x).st.servedFits := by
  unfold State.lockWork
  refine push_fits ?_ _
  split
  · have returned := returnUnits_fits h x .locked
    exact stopCovering_fits (updStation_fits (f := Station.lock) returned (returned x)) x .locked
  · exact updStation_fits (f := Station.lock) h (h x)

theorem lockStation_fits : JudgedFits (s.lockStation target) := by
  refine .bind fun _ _ => .bind fun x _ => .bind fun _ _ => ?_
  split
  · exact .ok h
  · exact .ok (finish_fits (lockWork_fits h x))

theorem joinQueue_fits (l : LineId) (hm : s.mode = .guarded) : (s.joinQueue l).servedFits := by
  unfold State.joinQueue
  extract_lets t
  have ht : t.servedFits := lineTo_fits (fits_of_stations h (by rfl)) l _
  have mode : t.mode = .guarded := (lineTo_still _ l _ rfl).mode.trans hm
  split
  · exact (testStarts_steps t mode).fits ht
  · exact ht

theorem setPermit_fits (i : ShutterId) (granted : Bool) : (s.setPermit i granted).servedFits := by
  unfold State.setPermit
  extract_lets t
  have ht : t.servedFits := fits_of_stations h rfl
  split
  · exact ht
  · exact (judgeShutter_steps t i).fits ht

end

/-! ## Every command -/

/-- Every command, in every state, keeps the served lists within their room. -/
theorem exec_fits (c : Instr) {s : State} (h : s.servedFits) : ∃ t, exec c s = .next t ∧ t.servedFits := by
  cases c with
  -- loads and part modes
  | loadLimits _ d => exact ⟨_, rfl, request_fits h (.bind fun _ _ => .ok (fits_of_stations h rfl))⟩
  | loadSegment t d =>
    exact ⟨_, rfl, request_fits h (.bind fun _ _ => .bind fun _ _ => .bind fun _ _ => .bind fun _ _ => .bind fun _ _ =>
      .bind fun _ _ => .bind fun _ _ => .bind fun _ _ => .bind fun _ _ => .ok (fits_of_stations h rfl))⟩
  | loadPoint t d => exact ⟨_, rfl, request_fits h (loadPoint_fits h t d)⟩
  | loadGate t d => exact ⟨_, rfl, request_fits h (loadGate_fits h t d)⟩
  | loadLine t d =>
    exact ⟨_, rfl, request_fits h (.bind fun _ _ => .bind fun l _ => .bind fun _ _ => .bind fun _ _ => .bind fun _ _ =>
      .ok (lineTo_fits h l _))⟩
  | loadStation t d =>
    exact ⟨_, rfl, request_fits h (.bind fun _ _ => .bind fun x _ => .bind fun _ _ => .bind fun _ _ => .bind fun _ _ =>
      .ok (updStation_fits h (h x)))⟩
  | loadChannel t d | loadTemperature t d | loadPattern t d =>
    exact ⟨_, rfl, request_fits h (.bind fun _ _ => .bind fun _ _ => .bind fun _ _ => .bind fun _ _ =>
      .ok (fits_of_stations h rfl))⟩
  | loadAirflow t d | loadSiren t d =>
    exact ⟨_, rfl, request_fits h (.bind fun _ _ => .bind fun _ _ => .bind fun _ _ => .ok (fits_of_stations h rfl))⟩
  | loadShutter t d => exact ⟨_, rfl, request_fits h (loadShutter_fits h t d)⟩
  | commit t d | partReset t d => exact ⟨_, rfl, request_fits h (.bind fun _ _ => .ok (fits_of_stations h rfl))⟩
  | validationWalkEnd => exact execValidationWalkEnd_fits h
  | releaseGuard t d =>
    exact ⟨_, rfl, request_fits h (.bind fun _ _ => .bind fun _ _ => .bind fun _ _ =>
      .ok (finish_fits (releaseWork_fits s)))⟩
  | linkPartResetTakesPlace => exact ⟨_, rfl, ite_fits (partReset_fits s) h⟩
  | resetLineLow => exact ⟨_, rfl, ite_fits h (partReset_fits _)⟩
  | resetLineHigh low =>
    exact ⟨_, rfl, ite_fits h (fits_of_stations (partReset_fits { s with resetLow := false }) rfl)⟩
  | powerUp => exact ⟨_, rfl, partReset_fits s⟩
  -- reads and notice commands
  | readStatus t d | readNotices t d => exact ⟨_, rfl, request_fits h (.ok h)⟩
  | readZone t d | readStation t d | readLine t d | readGate t d | readShutter t d | readSiren t d | readChannel t d
  | readAirflow t d | readTemperature t d | lookupTrack t d =>
    exact ⟨_, rfl, request_fits h (.bind fun _ _ => .bind fun _ _ => .ok h)⟩
  | listTracks t d => exact ⟨_, rfl, request_fits h (.bind fun _ _ => .bind fun _ _ => .bind fun _ _ => .ok h)⟩
  | clearNotices t d | setNotices t d | maskNotices t d =>
    exact ⟨_, rfl, request_fits h (.bind fun _ _ => .ok (fits_of_stations h rfl))⟩
  -- tracks and zones
  | annotateTrack t d =>
    exact ⟨_, rfl, request_fits h (.bind fun _ _ => .bind fun _ _ => .bind fun _ _ => .bind fun _ _ =>
      .ok (fits_of_stations h rfl))⟩
  | retireTrack t d =>
    exact ⟨_, rfl, request_fits h (.bind fun _ _ => .bind fun _ _ => .bind fun _ _ =>
      .ok (finish_fits (retire_fits (w := s.begin) h _)))⟩
  | injectTrack t d => exact ⟨_, rfl, request_fits h (injectTrack_fits h t d)⟩
  | ackZone t d =>
    exact ⟨_, rfl, request_fits h (.bind fun _ _ => .bind fun z _ =>
      .ok (finish_fits (recompute_fits (fits_of_stations h rfl) z)))⟩
  | callZone t d =>
    exact ⟨_, rfl, request_fits h (.bind fun _ _ => .bind fun z _ => .bind fun l _ =>
      .ok (finish_fits (arriveCall_fits (w := s.begin) h z l)))⟩
  -- stations
  | manualRelease t d =>
    exact ⟨_, rfl, request_fits h (.bind fun _ _ => .bind fun x _ => .bind fun _ _ => .bind fun _ _ => .bind fun _ _ =>
      .ok (finish_fits (push_fits (updStation_fits h (h x)) _)))⟩
  | cancelRelease t d =>
    exact ⟨_, rfl, request_fits h (.bind fun _ _ => .bind fun x _ => .bind fun _ _ => .bind fun _ _ =>
      .ok (finish_fits (endOrder_fits h x)))⟩
  | lockStation t d => exact ⟨_, rfl, request_fits h (lockStation_fits h t)⟩
  | unlockStation t d =>
    exact ⟨_, rfl, request_fits h (.bind fun _ _ => .bind fun x _ => .bind fun _ _ =>
      .ok (finish_fits (push_fits (updStation_fits h (h x)) _)))⟩
  | clearStation t d =>
    exact ⟨_, rfl, request_fits h (.bind fun _ _ => .bind fun x _ => .bind fun _ _ => .bind fun _ _ =>
      .ok (finish_fits (push_fits (refreshPlaced_fits (updStation_fits h (h x)) _ _) _)))⟩
  -- lines and gates
  | restartLine t d =>
    exact ⟨_, rfl, request_fits h (.bind fun _ hm => .bind fun l _ => .bind fun _ _ => .bind fun _ _ => .bind fun _ _ =>
      .bind fun _ _ => .bind fun _ _ => .ok (joinQueue_fits h l (takenInGuard_ok.mp hm)))⟩
  | stopLine t d =>
    exact ⟨_, rfl, request_fits h (.bind fun _ _ => .bind fun l _ => .bind fun _ _ =>
      .ok (finish_fits (shutdown_fits (w := s.begin) h l .link)))⟩
  | gateNormal t d =>
    exact ⟨_, rfl, request_fits h (.bind fun _ _ => .bind fun g _ => .bind fun _ _ => .bind fun _ _ => .bind fun _ _ =>
      .bind fun _ _ => .ok (finish_fits (travelGate_fits (w := s.begin) h g .toNormal)))⟩
  | clearGate t d =>
    exact ⟨_, rfl, request_fits h (.bind fun _ _ => .bind fun g _ => .bind fun _ _ => .bind fun _ _ =>
      .ok (finish_fits (travelGate_fits (fits_of_stations h rfl) g .toAbort)))⟩
  -- shutters and sirens
  | grantHold t d | revokeHold t d =>
    exact ⟨_, rfl, request_fits h (.bind fun _ _ => .bind fun i _ => .ok (setPermit_fits h i _))⟩
  | grantAll t d | revokeAll t d =>
    exact ⟨_, rfl, request_fits h (.bind fun _ _ => .ok (foldl_state_fits (fun _ i h => setPermit_fits h i _) h))⟩
  | openShutter t d =>
    exact ⟨_, rfl, request_fits h (.bind fun _ _ => .bind fun i _ => .bind fun _ _ => .bind fun _ _ => .bind fun _ _ =>
      .ok (moveShutter_fits h i _))⟩
  | clearShutter t d =>
    exact ⟨_, rfl, request_fits h (.bind fun _ _ => .bind fun i _ => .bind fun _ _ => .ok (moveShutter_fits h i _))⟩
  | silenceSiren t d =>
    exact ⟨_, rfl, request_fits h (.bind fun _ _ => .bind fun _ _ => .bind fun _ _ => .bind fun _ _ =>
      .ok (fits_of_stations h rfl))⟩
  -- the link
  | unknownOp o t d => exact ⟨_, rfl, ite_fits h (transact_fits h (fits_of_stations h rfl))⟩
  | headerParityError header => exact ⟨_, rfl, ite_fits h (transact_fits h (fits_of_stations h rfl))⟩
  | badCrc header d crc => exact ⟨_, rfl, ite_fits (transact_fits h (fits_of_stations h rfl)) h⟩
  | alertHoldEnd | holdTransactionIgnored | alertPulseEnd => exact ⟨_, rfl, ite_fits (fits_of_stations h rfl) h⟩
  | shortTransaction => exact ⟨_, rfl, transact_fits h (fits_of_stations h rfl)⟩
  -- detectors and inputs
  | frameComplete d bit | detectorBitArrival d bit => exact ⟨_, rfl, event_fits h (bitArrives_fits h d bit)⟩
  | frameAbandoned d => exact execFrameAbandoned_fits h d
  | surveyBoundary => exact ⟨_, rfl, event_fits h (fits_of_stations h rfl)⟩
  | supervisionPulse d | testDriveEnd d => exact ⟨_, rfl, event_fits h (fits_of_stations h rfl)⟩
  | echoWindowExpiry d => exact execEchoWindowExpiry_fits h d
  | airflowPulse a => exact ⟨_, rfl, ite_fits h (fits_of_stations h rfl)⟩
  | temperaturePulse i width => exact ⟨_, rfl, ite_fits h (fits_of_stations h rfl)⟩
  | sampleGateBoundary => exact ⟨_, rfl, event_fits h (gateBoundary_fits h)⟩
  -- track events
  | stallLimitExpiry i => exact ⟨_, rfl, event_fits h (escapeTrack_fits (w := s.begin) h i .stall)⟩
  | segmentAdvance i => exact ⟨_, rfl, event_fits h ((advance_steps s.begin i).fits h)⟩
  | recentPassExpiry i => exact ⟨_, rfl, event_fits h (fits_of_stations h rfl)⟩
  | lingerExpiry i => exact execLingerExpiry_fits h i
  | stationEarlyBound i place =>
    refine ⟨_, rfl, entryEvent_fits h fun k r => ?_⟩
    cases r.item.station? with
    | none => exact h
    | some x => exact (earlyBound_steps s.begin i k x).fits h
  | stationLateBound i place =>
    refine ⟨_, rfl, entryEvent_fits h fun k r => ?_⟩
    cases r.item.station? with
    | none => exact h
    | some x => exact (resolveStation_steps s.begin i k x none).fits h
  | entryLateBound i place => exact ⟨_, rfl, entryEvent_fits h fun k r => lateBound_fits (w := s.begin) h i k r⟩
  -- station events
  | servedEntryOpen x i | deadlinePassed x i =>
    exact ⟨_, rfl, event_fits h (push_fits (updStation_fits h ((List.length_map _).trans_le (h x))) _)⟩
  | servedEntryClose x i =>
    exact ⟨_, rfl, event_fits h (push_fits (updStation_fits h ((List.length_filter_le _ _).trans (h x))) _)⟩
  | floodMinimumRun x => exact ⟨_, rfl, event_fits h (push_fits (updStation_fits h (h x)) _)⟩
  | pressureConfirmInput x shown =>
    have seen : (s.updStation x fun q => { q with pressure := shown }).servedFits := updStation_fits h (h x)
    exact ⟨_, rfl, event_fits seen (pressureSeen_fits seen x shown)⟩
  | confirmTimeout x => exact ⟨_, rfl, event_fits h (faultStation_fits (w := s.begin) h x .noConfirm)⟩
  | maxReleaseCut x => exact ⟨_, rfl, event_fits h (cutStation_fits (w := s.begin) h x)⟩
  | manualOrderEnd x => exact ⟨_, rfl, event_fits h (endOrder_fits h x)⟩
  | purgeDue x => exact execPurgeDue_fits h x
  | purgeEnd x => exact ⟨_, rfl, event_fits h (push_fits (refreshPlaced_fits (updStation_fits h (h x)) _ _) _)⟩
  -- gate and line events
  | gateLimitChange g n a =>
    have changed : (s.updGate g fun q => { q with normalLimit := n, abortLimit := a }).servedFits := fits_of_stations h rfl
    exact ⟨_, rfl, event_fits changed (limitsSeen_fits changed g)⟩
  | gateTravelTimeout g => exact ⟨_, rfl, event_fits h (faultGate_fits (w := s.begin) h g .timeout)⟩
  | runDownEnd l => exact ⟨_, rfl, event_fits h (lineTo_fits h l _)⟩
  | startListExpiry => exact execStartListExpiry_fits h
  | fanFeedbackChange m running =>
    have fed : { s with fanFeedback := updAt s.fanFeedback m fun _ => running }.servedFits := fits_of_stations h rfl
    exact ⟨_, rfl, event_fits fed
      (foldl_fits (fun _ l h => feedback_fits h m running l) fed)⟩
  | runUpEnd l => exact ⟨_, rfl, event_fits h (shutdown_fits (w := s.begin) h l .fanFault)⟩
  -- zone, shutter and siren events
  | callPointInput z active => exact ⟨_, rfl, callInput_fits h z active⟩
  | callPointFilter z => exact ⟨_, rfl, event_fits h (callFilter_fits h z)⟩
  | shutterLimitChange i o c => exact ⟨_, rfl, ite_fits (fits_of_stations h rfl) (moveShutter_fits h i _)⟩
  | shutterObstruction i active => exact ⟨_, rfl, ite_fits (fits_of_stations h rfl) (moveShutter_fits h i _)⟩
  | shutterTravelTimeout i | rearmEnd i | pauseLimit i => exact ⟨_, rfl, shutterEvent_fits h i _ _⟩
  | sirenPhaseEnd y => exact ⟨_, rfl, sirenPhaseEnd_fits h y⟩

/-- What time brings by itself leaves every served list alone. -/
theorem idle_fits {s : State} (h : s.servedFits) : s.idle.servedFits := by
  have accumulated : s.tick.servedFits := by
    by_cases hm : s.mode = .guarded
    · refine fits_of_map (s := s) (f := s.accumulate) (if_pos hm) fun x => ?_
      unfold State.accumulate
      split <;> exact h x
    · exact fits_of_stations h (if_neg hm)
  unfold State.idle
  split
  · exact h
  · split
    · exact fits_of_stations h rfl
    · exact accumulated

/-- Settles O59: the front command keeps the served lists within their room, and so does an empty queue. -/
theorem servedFitsKept : Obligations.ServedFitsKept := by
  intro s t h e
  unfold step at e
  split at e
  · rename_i c rest _
    obtain ⟨u, ran, fits⟩ := exec_fits c (s := { s with pending := rest }) (fits_of_stations h rfl)
    obtain rfl : u = t := Host.Outcome.next.inj (ran.symm.trans e)
    exact fits
  · cases e
    exact idle_fits h

end Sys2Proof.Laws
end

section
/-! PROOFS. The balance of the pressure units (R107, R109, R110, R124): units are drawn by a grant and come back where a
station leaves RELEASING, and no other operation of the model touches the free units, a draw or a station in RELEASING. -/
namespace Sys2Proof.Laws
open Sys2Proof.Machine

/-! ## What the balance reads -/

/-- What the balance of the pressure units reads of the part. -/
def supplyOf (s : State) : Nat × Nat × Mode × Vector (Nat × Bool) 24 :=
  (s.freeUnits, s.limits.units, s.mode, s.stations.map fun q => (q.draw, q.state == .releasing))

theorem supplyOf_station {s t : State} (e : supplyOf t = supplyOf s) (x : StationId) :
    t.stations[x].draw = s.stations[x].draw ∧ (t.stations[x].state = .releasing ↔ s.stations[x].state = .releasing) := by
  have place := map_get (congrArg (·.2.2.2) e : t.stations.map _ = s.stations.map _) x
  obtain ⟨draw, state⟩ := Prod.mk.inj place
  exact ⟨draw, by simpa using state⟩

theorem unitsBalance_of_supply {s t : State} (h : s.unitsBalance) (e : supplyOf t = supplyOf s) : t.unitsBalance := by
  have free : t.freeUnits = s.freeUnits := congrArg (·.1) e
  have units : t.limits.units = s.limits.units := congrArg (·.2.1) e
  have mode : t.mode = s.mode := congrArg (·.2.2.1) e
  have drawn : t.drawn = s.drawn := by
    unfold State.drawn State.drawOf
    simp only [supplyOf_station e, units]
  exact ⟨by rw [free, drawn, units]; exact h.1,
    fun unguarded x => (not_congr (supplyOf_station e x).2).mpr (h.2 (mode ▸ unguarded) x)⟩

/-- What a station draws from the supply (R107). -/
def drawAt (s : State) (x : StationId) : Nat := if s.stations[x].state = .releasing then s.drawOf x else 0

theorem drawn_eq_sum (s : State) : s.drawn = ∑ x : StationId, drawAt s x := by
  have fold : ∀ (l : List StationId) (n : Nat),
      l.foldl (fun n x => n + if s.stations[x].state = .releasing then s.drawOf x else 0) n =
        n + (l.map (drawAt s)).sum := by
    intro l
    induction l with
    | nil => exact fun _ => rfl
    | cons x l ih =>
      intro n
      rw [List.foldl_cons, ih, List.map_cons, List.sum_cons, ← Nat.add_assoc]
      rfl
  rw [Fin.sum_univ_def, ← Nat.zero_add (List.sum _)]
  exact fold _ 0

/-- Where one station alone changes what it draws, the sum follows. -/
theorem drawn_one {s t : State} {x : StationId} (others : ∀ y, y ≠ x → drawAt t y = drawAt s y) :
    t.drawn + drawAt s x = s.drawn + drawAt t x := by
  have split : ∀ u : State, drawAt u x + ∑ y ∈ Finset.univ.erase x, drawAt u y = u.drawn := fun u =>
    (Finset.add_sum_erase _ _ (Finset.mem_univ x)).trans (drawn_eq_sum u).symm
  have rest : ∑ y ∈ Finset.univ.erase x, drawAt t y = ∑ y ∈ Finset.univ.erase x, drawAt s y :=
    Finset.sum_congr rfl fun y hy => others y (Finset.ne_of_mem_erase hy)
  have hs := split s
  have ht := split t
  omega

/-! ## Units drawn and returned -/

/-- The record of a station that is granted, or resumes (R109, R111, R113, R115). -/
def granted (s : State) (q : Station) : Station :=
  { q with state := .releasing, releaseStart := some s.now, confirm := if q.pressure then .confirmed else .waiting s.now,
           cutStart := if q.floodDemand then none else some s.now, minRunAt := some (s.now + s.minRun) }

theorem updStation_station (s : State) (x y : StationId) (f : Station → Station) :
    (s.updStation x f).stations[y] = if y = x then f s.stations[y] else s.stations[y] := by
  rcases updAt_cases s.stations x y f with ⟨e, r⟩ | ⟨e, r⟩
  · exact r.trans (if_pos e).symm
  · exact r.trans (if_neg e).symm

theorem grant_station (s : State) (x y : StationId) :
    (s.grant x).stations[y] = if y = x then granted s s.stations[y] else s.stations[y] :=
  updStation_station s x y (granted s)

theorem returnUnits_station (s : State) (x y : StationId) (dest : StationState) :
    (s.returnUnits x dest).stations[y] = if y = x then s.stations[y].released dest else s.stations[y] :=
  updStation_station s x y fun q => q.released dest

theorem drawAt_congr {s t : State} (units : t.limits = s.limits) {x : StationId} (same : t.stations[x] = s.stations[x]) :
    drawAt t x = drawAt s x := by
  unfold drawAt State.drawOf
  rw [same, units]

theorem drawAt_idle {s : State} {x : StationId} (h : s.stations[x].state ≠ .releasing) : drawAt s x = 0 := if_neg h

theorem drawAt_releasing {s : State} {x : StationId} (h : s.stations[x].state = .releasing) : drawAt s x = s.drawOf x :=
  if_pos h

/-- A station that leaves RELEASING returns what it drew (R107). -/
theorem returnUnits_balance {s : State} (h : s.unitsBalance) {x : StationId} {dest : StationState}
    (here : s.stations[x].state = .releasing) (leaves : dest ≠ .releasing) : (s.returnUnits x dest).unitsBalance := by
  obtain ⟨sum, unguarded⟩ := h
  have left : (s.returnUnits x dest).stations[x].state ≠ .releasing := by
    rwa [returnUnits_station, if_pos rfl]
  have moved : (s.returnUnits x dest).drawn + drawAt s x = s.drawn + drawAt (s.returnUnits x dest) x :=
    drawn_one fun y e =>
      drawAt_congr (s := s) (t := s.returnUnits x dest) rfl ((returnUnits_station s x y dest).trans (if_neg e))
  rw [drawAt_releasing here, drawAt_idle left] at moved
  refine ⟨?_, fun hm => absurd here (unguarded hm x)⟩
  change s.freeUnits + s.drawOf x + (s.returnUnits x dest).drawn = s.limits.units
  omega

/-- A station that waits draws the units it is granted (R109). -/
theorem grant_balance {s : State} (h : s.unitsBalance) {x : StationId} (hm : s.mode = .guarded)
    (waits : s.stations[x].waits = true) (fits : s.drawOf x ≤ s.freeUnits) : (s.grant x).unitsBalance := by
  obtain ⟨sum, -⟩ := h
  have before : s.stations[x].state ≠ .releasing := by
    intro e
    rw [Station.waits, e] at waits
    cases waits
  have here : (s.grant x).stations[x] = granted s s.stations[x] := (grant_station s x x).trans (if_pos rfl)
  have draws : (s.grant x).drawOf x = s.drawOf x := by
    unfold State.drawOf
    rw [here]
    rfl
  have moved : (s.grant x).drawn + drawAt s x = s.drawn + drawAt (s.grant x) x :=
    drawn_one fun y e => drawAt_congr (s := s) (t := s.grant x) rfl ((grant_station s x y).trans (if_neg e))
  rw [drawAt_idle before, drawAt_releasing (by rw [here]; rfl), draws] at moved
  refine ⟨?_, fun unguarded => absurd hm unguarded⟩
  change s.freeUnits - s.drawOf x + (s.grant x).drawn = s.limits.units
  omega

/-- With no station releasing the balance says that every unit is free. -/
theorem unitsBalance_idle {s : State} (none : ∀ x : StationId, s.stations[x].state ≠ .releasing)
    (free : s.freeUnits = s.limits.units) : s.unitsBalance :=
  ⟨by rw [drawn_of_none s none, free, Nat.add_zero], fun _ => none⟩

/-! ## Operations that leave the supply -/

section
variable (s : State)

theorem updStation_supply (x : StationId) (f : Station → Station) (draw : (f s.stations[x]).draw = s.stations[x].draw)
    (state : (f s.stations[x]).state = .releasing ↔ s.stations[x].state = .releasing) :
    supplyOf (s.updStation x f) = supplyOf s := by
  unfold supplyOf
  rw [updStation_stations, updAt_map_at]
  · rfl
  · rw [draw, Bool.eq_iff_iff.mpr (beq_iff_eq.trans (state.trans beq_iff_eq.symm))]

theorem updZone_supply (z : ZoneId) (f : Zone → Zone) : supplyOf (s.updZone z f) = supplyOf s := rfl

theorem raise_supply (n : Notice) : supplyOf (s.raise n) = supplyOf s := rfl

theorem sirens_supply (v : Vector Siren 8) : supplyOf { s with sirens := v } = supplyOf s := rfl

theorem ZonesOnly.supply {s t : State} (h : ZonesOnly s t) : supplyOf t = supplyOf s := (congrArg supplyOf h.rest :)

theorem Flagged.supply {s t : State} (h : Flagged s t) : supplyOf t = supplyOf s := (congrArg supplyOf h.rest :)

theorem refreshPlaced_supply (k : FaultKind) (what : Placed) : supplyOf (s.refreshPlaced k what) = supplyOf s := by
  unfold State.refreshPlaced
  split
  · rfl
  · exact (refreshFault_flagged s k _).supply

theorem lineTo_supply (l : LineId) (f : Line → Line) : supplyOf (s.lineTo l f) = supplyOf s := by
  unfold State.lineTo
  dsimp only
  split <;> rfl

theorem checkRunning_supply (l : LineId) : supplyOf (s.checkRunning l) = supplyOf s := by
  unfold State.checkRunning
  split
  · exact lineTo_supply s l _
  · rfl

theorem startLine_supply (l : LineId) : supplyOf (s.startLine l) = supplyOf s := by
  unfold State.startLine
  exact (checkRunning_supply _ l).trans (lineTo_supply _ l _)

theorem moveShutter_supply (i : ShutterId) (f : Shutter → Shutter) : supplyOf (s.moveShutter i f) = supplyOf s := by
  unfold State.moveShutter
  extract_lets before after shown told flagged
  have htold : supplyOf told = supplyOf s := by
    unfold told
    split <;> rfl
  clear_value told
  have hflagged : supplyOf flagged = supplyOf s := (refreshFault_flagged told .shutter _).supply.trans htold
  split
  · exact htold
  · cases after.sideB with
    | none => exact hflagged
    | some z => exact (refreshFault_flagged flagged .shutter z).supply.trans hflagged

theorem channelTo_supply (d : ChanId) (c : ChanState) : supplyOf (s.channelTo d c) = supplyOf s := by
  unfold State.channelTo
  split
  · rfl
  · exact refreshPlaced_supply _ _ _

theorem frameError_supply (d : ChanId) : supplyOf (s.frameError d) = supplyOf s := by
  unfold State.frameError
  dsimp only
  split
  · exact channelTo_supply _ d .blind
  · rfl

theorem tempArrivals_supply (a b : Temperature) : supplyOf (s.tempArrivals a b) = supplyOf s := by
  unfold State.tempArrivals
  extract_lets t
  have ht : supplyOf t = supplyOf s := by
    unfold t
    split <;> rfl
  split
  · exact ht
  · exact ht

end
/-! ## Deliveries keep the balance -/

theorem Quiet.supply {s t : State} (q : Quiet s t) : supplyOf t = supplyOf s := by
  cases q with
  | raise n => rfl
  | track i f => rfl
  | member old new => exact (memberMove_zonesOnly s.begin old new).supply
  | served x l room => exact updStation_supply s x _ rfl .rfl

theorem Step.balance {s t : State} (k : Step s t) (h : s.unitsBalance) : t.unitsBalance := by
  cases k with
  | quiet q => exact unitsBalance_of_supply h q.supply
  | station x f k => exact unitsBalance_of_supply h (updStation_supply s x f k.draw k.releasing)
  | release x dest hm here leaves =>
    exact returnUnits_balance h here (by rintro rfl; exact leaves.elim nofun nofun)
  | grant x hm waits fits => exact grant_balance h hm waits fits
  | gate g f => exact unitsBalance_of_supply h rfl
  | coast l c => exact unitsBalance_of_supply h (lineTo_supply s l _)
  | unqueue l c => exact unitsBalance_of_supply h (lineTo_supply _ l _)
  | cold l c => exact unitsBalance_of_supply h (lineTo_supply s l _)
  | start l => exact unitsBalance_of_supply h (startLine_supply s l)
  | close i => exact unitsBalance_of_supply h (moveShutter_supply s i _)
  | drop i => exact unitsBalance_of_supply h (moveShutter_supply s i _)
  | sirens z => exact unitsBalance_of_supply h rfl

theorem Steps.balance {s t : State} (k : Steps s t) (h : s.unitsBalance) : t.unitsBalance :=
  Chain.holds (P := State.unitsBalance) (fun _ _ => Step.balance) k h

theorem Quiets.balance {s t : State} (k : Quiets s t) (h : s.unitsBalance) : t.unitsBalance := k.loud.balance h

theorem finish_balance {w : Work} (h : w.st.unitsBalance) : w.finish.unitsBalance := (finish_steps w).balance h

theorem foldl_balance {α : Type} {f : Work → α → Work} (step : ∀ w a, w.st.unitsBalance → (f w a).st.unitsBalance)
    {l : List α} {w : Work} (h : w.st.unitsBalance) : (l.foldl f w).st.unitsBalance :=
  foldl_keeps (P := fun w : Work => w.st.unitsBalance) step l w h

theorem push_balance {w : Work} (h : w.st.unitsBalance) (d : Delivery) : (w.push d).st.unitsBalance := by
  rwa [push_st]

/-! ## Shared operations of the events -/

theorem unserve_supply (h : Handle) (w : Work) (x : StationId) : supplyOf (unserve h w x).st = supplyOf w.st := by
  by_cases listed : (w.st.stations[x].served.any fun e => e.handle == h) = true
  · rw [unserve_taken listed]
    exact updStation_supply w.st x _ rfl .rfl
  · rw [unserve_none listed]

section
variable {w : Work} (h : w.st.unitsBalance)
include h

/-- A change of the state of an event in progress that leaves the supply. -/
theorem mod_balance {f : State → State} (e : supplyOf (f w.st) = supplyOf w.st) : (w.mod f).st.unitsBalance :=
  unitsBalance_of_supply h e

theorem recompute_balance (z : ZoneId) : (w.recompute z).st.unitsBalance :=
  unitsBalance_of_supply h (recompute_zonesOnly w z).supply

theorem arrive_balance (z : ZoneId) (l : Level) : (w.arrive z l).st.unitsBalance := recompute_balance (mod_balance h rfl) z

/-- A cause is entered in a zone and arrives there. -/
theorem caused_balance (z : ZoneId) (f : Zone → Zone) (l : Level) :
    ((w.mod fun s => s.updZone z f).arrive z l).st.unitsBalance :=
  arrive_balance (w := w.mod fun s => s.updZone z f) (unitsBalance_of_supply h (updZone_supply w.st z f)) z l

theorem shutdown_balance (l : LineId) (c : StopCause) : (w.shutdown l c).st.unitsBalance := (shutdown_steps w l c).balance h

theorem faultGate_balance (g : GateId) (r : GateFault) : (w.faultGate g r).st.unitsBalance := by
  unfold Work.faultGate
  exact shutdown_balance (push_balance (mod_balance h rfl) _) _ _

theorem travelGate_balance (g : GateId) (d : GateState) : (w.travelGate g d).st.unitsBalance :=
  push_balance (push_balance (mod_balance h rfl) _) _

theorem takeRoute_balance (i : SlotId) (route : List RouteItem) : (w.takeRoute i route).st.unitsBalance :=
  (takeRoute_steps w i route).balance h

/-- A station in FAULT has returned its units (R114). -/
theorem faultStation_balance {x : StationId} (here : w.st.stations[x].state = .releasing) (r : StationFault) :
    (w.faultStation x r).st.unitsBalance := by
  unfold Work.faultStation
  extract_lets left stopped
  have returned : (w.st.returnUnits x .fault).unitsBalance := returnUnits_balance h here nofun
  have hleft : left.st.unitsBalance := unitsBalance_of_supply returned (updStation_supply _ x _ rfl .rfl)
  have hstopped : stopped.st.unitsBalance := (stopCovering_steps left x .fault).balance hleft
  clear_value stopped
  exact push_balance (unitsBalance_of_supply hstopped (refreshPlaced_supply stopped.st .station (.station x))) _

/-- A station that is cut has returned its units (R116). -/
theorem cutStation_balance {x : StationId} (here : w.st.stations[x].state = .releasing) :
    (w.cutStation x).st.unitsBalance := by
  unfold Work.cutStation
  extract_lets removed left cut
  have returned : (w.st.returnUnits x .idle).unitsBalance := returnUnits_balance h here nofun
  have hleft : left.st.unitsBalance := unitsBalance_of_supply returned (updStation_supply _ x _ rfl .rfl)
  have hcut : cut.st.unitsBalance := foldl_balance (fun w i h => (stopEntries_steps w x _ .cut i).balance h) hleft
  clear_value cut
  exact push_balance (mod_balance hcut rfl) _

theorem retire_balance (i : SlotId) : (w.retire i).st.unitsBalance := by
  cases k : w.st.track? i with
  | none => simpa only [Work.retire, k] using h
  | some t =>
    have given : (unserveAll (w.st.handleOf i) (w.mod fun s => freed s i)).st.unitsBalance :=
      by
      have free : (w.mod fun s => freed s i).st.unitsBalance := unitsBalance_of_supply h rfl
      exact foldl_balance (fun v x h => unitsBalance_of_supply h (unserve_supply _ v x)) free
    rw [retire_eq k]
    cases t.member <;> dsimp only [Option.elim]
    case none => exact given
    case some m => exact unitsBalance_of_supply given (memberMove_zonesOnly _ (some m) none).supply

theorem escapeTrack_balance (i : SlotId) (r : EscapeReason) : (w.escapeTrack i r).st.unitsBalance := by
  unfold Work.escapeTrack
  split
  · exact h
  · split
    · extract_lets escaped synced
      have hsynced : synced.st.unitsBalance := (syncMember_steps escaped i).balance (mod_balance h rfl)
      clear_value synced
      split
      · exact hsynced
      · exact push_balance hsynced _
    · exact h

/-! ## Births -/

theorem findSlot_balance : w.findSlot.1.st.unitsBalance := by
  unfold Work.findSlot
  split
  · exact h
  · split
    · exact retire_balance h _
    · exact h

theorem lineBirth_balance (l : LineId) (time : Tick) : (w.lineBirth l time).st.unitsBalance := by
  unfold Work.lineBirth
  split
  · exact h
  · extract_lets joined arrived
    have hjoined : joined.st.unitsBalance := mod_balance h rfl
    split
    · have harrived : arrived.st.unitsBalance := by
        refine foldl_balance (fun w z h => ?_) hjoined
        split
        · unfold Work.arriveBurst
          exact caused_balance h z _ .alarm
        · exact h
      exact shutdown_balance (mod_balance harrived rfl) l .burst
    · exact hjoined

theorem birth_balance (seg : SegId) (position : Nat) (d : ChanId) (glow : Glow) (intensity : Byte) (time : Tick)
    (injected : Bool) : (w.birth seg position d glow intensity time injected).1.st.unitsBalance := by
  have found := findSlot_balance h
  unfold Work.birth
  split
  · rename_i v hv
    rwa [hv] at found
  · rename_i v i hv
    rw [hv] at found
    extract_lets born placed routed
    have hplaced : placed.st.unitsBalance := mod_balance found rfl
    have route := takeRoute_balance hplaced i (placed.st.walkFromDetector seg position d)
    have hrouted : routed.st.unitsBalance := unitsBalance_of_supply route (raise_supply _ _)
    clear_value routed
    split
    · exact hrouted
    · exact lineBirth_balance hrouted _ time

theorem tableFull_balance (seg : SegId) : (w.tableFull seg).st.unitsBalance := by
  unfold Work.tableFull
  extract_lets g
  have full : (w.arriveTableFull g.zone).st.unitsBalance := by
    unfold Work.arriveTableFull
    exact caused_balance h g.zone _ .alarm
  exact unitsBalance_of_supply (shutdown_balance full g.line .tableFull) (raise_supply _ _)

theorem qualified_balance (d : ChanId) (glow : Glow) (intensity : Byte) (time : Tick) :
    (w.qualified d glow intensity time).st.unitsBalance := by
  unfold Work.qualified
  split
  · unfold Work.correlate
    split
    · exact h
    · exact takeRoute_balance (mod_balance h rfl) _ _
  · split
    · exact h
    · rename_i seg position _
      have born := birth_balance h seg position d glow intensity time false
      split
      · rename_i v _ hv
        rwa [hv] at born
      · rename_i v hv
        rw [hv] at born
        exact tableFull_balance born seg

/-! ## Stalls, feedback and bounds -/

theorem enterStall_balance (i : SlotId) : (w.enterStall i).st.unitsBalance := by
  unfold Work.enterStall
  split
  · exact h
  · split
    · exact (withdrawUnopened_steps _ i).balance (mod_balance h rfl)
    · exact h

theorem recover_balance (i : SlotId) : (w.recover i).st.unitsBalance := by
  unfold Work.recover
  split
  · exact h
  · split
    · exact takeRoute_balance (mod_balance h rfl) i _
    · exact h

theorem stallEvent_balance (c : AirId) (stall : StallState) : (w.stallEvent c stall).st.unitsBalance := by
  refine foldl_balance (fun w i h => ?_) h
  split
  · exact h
  · split
    · cases stall with
      | stalled => exact enterStall_balance h i
      | none => exact recover_balance h i
      | flowing => exact recover_balance h i
    · exact h

theorem feedback_balance (m : FanId) (running : Bool) (l : LineId) : (w.feedback m running l).st.unitsBalance := by
  unfold Work.feedback
  dsimp only
  split
  · exact h
  · split
    · exact mod_balance h (checkRunning_supply w.st l)
    · exact shutdown_balance h l .fanFault
    · exact h

theorem releaseZone_balance (z : ZoneId) : (w.releaseZone z).st.unitsBalance := by
  unfold Work.releaseZone
  extract_lets old v
  have hv : v.st.unitsBalance := mod_balance h rfl
  split
  · exact hv
  · exact push_balance (mod_balance hv rfl) _

end

theorem ite_balance {s t : State} {p : Prop} [Decidable p] (h : s.unitsBalance) (k : t.unitsBalance) :
    (if p then s else t).unitsBalance := by
  split
  · exact h
  · exact k

/-! ## What the events of time and of the inputs do -/

section
variable {s : State} (h : s.unitsBalance)
include h

/-- An event keeps the balance where it does so when it is due. -/
theorem event_balance_due {d : Bool} {f : State → Work} (k : d = true → (f s).st.unitsBalance) :
    (s.event d f).unitsBalance := by
  unfold State.event
  split
  · rename_i due
    exact finish_balance (k (Bool.and_eq_true_iff.mp due).2)
  · exact h

theorem event_balance {d : Bool} {f : State → Work} (k : (f s).st.unitsBalance) : (s.event d f).unitsBalance :=
  event_balance_due h fun _ => k

theorem entryEvent_balance {i : SlotId} {place : Nat} {due : Tick → Tick → RouteItem → Bool}
    {f : Nat → RouteItem → Work → Work} (k : ∀ n r, Quiets s (f n r s.begin).st) :
    (s.entryEvent i place due f).unitsBalance := by
  unfold State.entryEvent
  split
  · exact event_balance h (Quiets.balance ((k _ _).trans (extend_steps _ i)) h)
  · exact h

theorem acceptFrame_balance (d : ChanId) (glow : Glow) (time : Tick) (f : Frame) :
    (s.acceptFrame d glow time f).st.unitsBalance := by
  unfold State.acceptFrame
  extract_lets seen
  have hseen : seen.unitsBalance := unitsBalance_of_supply h rfl
  split
  · exact unitsBalance_of_supply hseen (channelTo_supply _ d .blind)
  · exact unitsBalance_of_supply hseen (channelTo_supply _ d .inService)
  · split
    · exact unitsBalance_of_supply hseen rfl
    · exact qualified_balance (unitsBalance_of_supply hseen rfl) d glow _ time

theorem judgeFrame_balance (d : ChanId) (glow : Glow) (time : Tick) (f : Option Frame) :
    (s.judgeFrame d glow time f).st.unitsBalance := by
  unfold State.judgeFrame
  split
  · exact unitsBalance_of_supply h rfl
  · cases f with
    | none => exact unitsBalance_of_supply h (frameError_supply s d)
    | some f =>
      dsimp only
      split
      · exact h
      · exact acceptFrame_balance h d glow time f

theorem bitArrives_balance (d : ChanId) (bit : Bool) : (s.bitArrives d bit).st.unitsBalance := by
  unfold State.bitArrives
  split
  · dsimp only
    split <;> exact unitsBalance_of_supply h rfl
  · dsimp only
    split
    · exact unitsBalance_of_supply h rfl
    · exact judgeFrame_balance (s := s.receiver d _) (unitsBalance_of_supply h rfl) d _ _ _

theorem gateBoundary_balance : s.gateBoundary.st.unitsBalance := by
  unfold State.gateBoundary
  extract_lets t w1 w2 w3
  have ht : t.unitsBalance := unitsBalance_of_supply h rfl
  split
  · exact ht
  · have stalls : w1.st.unitsBalance := by
      refine foldl_balance (w := t.begin) (fun w c h => ?_) ht
      split
      · exact h
      · exact stallEvent_balance h c _
    clear_value w1
    have temps : w2.st.unitsBalance := mod_balance stalls
      (foldl_keeps (P := fun u => supplyOf u = supplyOf w1.st)
        (fun u i e => (tempArrivals_supply u s.temps[i] t.temps[i]).trans e) _ _ rfl)
    clear_value w2
    have levels : w3.st.unitsBalance := foldl_balance (fun _ z h => recompute_balance h z) temps
    clear_value w3
    exact mod_balance levels (foldl_keeps (P := fun u => supplyOf u = supplyOf w3.st)
      (fun u z e => (refreshFault_flagged u .sensor z).supply.trans e) _ _ rfl)

/-- The pressure input moves a station in RELEASING alone (R113). -/
theorem pressureSeen_balance {x : StationId} (here : s.stations[x].state = .releasing) (shown : Bool) :
    (s.pressureSeen x shown).st.unitsBalance := by
  unfold State.pressureSeen
  split
  · exact unitsBalance_of_supply h (updStation_supply s x _ rfl .rfl)
  · exact faultStation_balance (w := s.begin) h here .pressureLost
  · exact h

/-- A purge ends at a station that does not release (R122). -/
theorem purgeEnd_balance {x : StationId} (due : s.purgeEndDue x = true) :
    ((s.updStation x fun q => { q with state := .idle, purgeEnd := none, debt := q.debt - 1 }).refreshPlaced
      .purgeOverdue (.station x)).unitsBalance := by
  have purging : s.stations[x].state = .purging := beq_iff_eq.mp (Bool.and_eq_true_iff.mp due).1
  refine unitsBalance_of_supply h ((refreshPlaced_supply _ _ _).trans (updStation_supply s x _ rfl ?_))
  rw [purging]
  exact iff_of_false nofun nofun


theorem execPurgeDue_balance (x : StationId) : ∃ t, execPurgeDue x s = .next t ∧ t.unitsBalance := by
  refine ⟨_, rfl, event_balance h ?_⟩
  extract_lets before owed told
  have howed : owed.unitsBalance := unitsBalance_of_supply h (updStation_supply s x _ rfl .rfl)
  have htold : told.unitsBalance := by
    unfold told
    split
    · exact unitsBalance_of_supply howed (refreshPlaced_supply owed .purgeOverdue (.station x))
    · exact howed
  exact push_balance (w := told.begin) htold _

theorem execFrameAbandoned_balance (d : ChanId) : ∃ t, execFrameAbandoned d s = .next t ∧ t.unitsBalance := by
  refine ⟨_, rfl, event_balance h ?_⟩
  split
  · exact judgeFrame_balance (s := s.receiver d _) (unitsBalance_of_supply h rfl) d _ _ _
  · exact h

theorem execEchoWindowExpiry_balance (d : ChanId) : ∃ t, execEchoWindowExpiry d s = .next t ∧ t.unitsBalance := by
  refine ⟨_, rfl, event_balance h ?_⟩
  dsimp only
  split
  · exact unitsBalance_of_supply h (channelTo_supply _ d .blind)
  · exact unitsBalance_of_supply h rfl

theorem execLingerExpiry_balance (i : SlotId) : ∃ t, execLingerExpiry i s = .next t ∧ t.unitsBalance := by
  refine ⟨_, rfl, event_balance h ?_⟩
  split
  · exact unitsBalance_of_supply h rfl
  · exact retire_balance (w := s.begin) h i

theorem limitsSeen_balance (g : GateId) : (s.limitsSeen g).st.unitsBalance := by
  unfold State.limitsSeen
  split
  · exact faultGate_balance (w := s.begin) h g .limitLost
  · exact (checkGate_steps s.begin g).balance h

theorem execStartListExpiry_balance : ∃ t, execStartListExpiry s = .next t ∧ t.unitsBalance := by
  refine ⟨_, rfl, event_balance h ?_⟩
  extract_lets shorter
  have hshorter : shorter.unitsBalance := unitsBalance_of_supply h rfl
  split
  · exact (testStarts_steps shorter ‹_›).balance hshorter
  · exact hshorter

theorem callFilter_balance (z : ZoneId) : (s.callFilter z).st.unitsBalance := by
  unfold State.callFilter
  extract_lets w
  have hw : w.st.unitsBalance := unitsBalance_of_supply h rfl
  split
  · exact arrive_balance hw z .fire
  · exact hw

theorem transact_balance {f : State → State} (e : supplyOf (f s) = supplyOf s) : (s.transact f).unitsBalance := by
  obtain ⟨_, r⟩ | ⟨_, r⟩ | ⟨_, r⟩ := transact_cases s f <;> rw [r]
  · exact h
  · exact unitsBalance_of_supply h rfl
  · exact unitsBalance_of_supply h e

theorem shutterEvent_balance (i : ShutterId) (due : Shutter → Bool) (f : Shutter → Shutter) :
    (s.shutterEvent i due f).unitsBalance := by
  unfold State.shutterEvent
  exact ite_balance (unitsBalance_of_supply h (moveShutter_supply s i f)) h

theorem sirenPhaseEnd_balance (i : SirenId) : (s.sirenPhaseEnd i).unitsBalance := by
  unfold State.sirenPhaseEnd
  split
  · split
    · exact unitsBalance_of_supply h rfl
    · dsimp only
      split <;> exact unitsBalance_of_supply h rfl
  · exact h

end

/-! ## Part modes and part resets -/

/-- Outside GUARD the balance goes on where the stations' states stand and every unit stays free. -/
theorem balance_unguarded {s t : State} (h : s.unitsBalance) (hm : s.mode ≠ .guarded)
    (states : ∀ x : StationId, t.stations[x].state = s.stations[x].state)
    (free : s.freeUnits = s.limits.units → t.freeUnits = t.limits.units) : t.unitsBalance := by
  have none := h.2 hm
  refine unitsBalance_idle (fun x => states x ▸ none x) (free ?_)
  have sum := h.1
  rwa [drawn_of_none s none] at sum

/-- GUARD entry finds no station in RELEASING, and frees every unit (R107, R124). -/
theorem guardRecords_balance {s : State} (h : s.unitsBalance) (hm : s.mode ≠ .guarded) : s.guardRecords.unitsBalance :=
  balance_unguarded h hm (fun x => by rw [guardRecords_station]; rfl) fun _ => rfl

theorem enterGuard_balance {s : State} (h : s.unitsBalance) (hm : s.mode ≠ .guarded) : s.enterGuard.st.unitsBalance := by
  unfold State.enterGuard
  extract_lets entered faulted
  have hentered : entered.st.unitsBalance := unitsBalance_of_supply (guardRecords_balance h hm) rfl
  have hfaulted : faulted.st.unitsBalance := by
    refine foldl_balance (fun w g h => ?_) hentered
    split
    · exact faultGate_balance h g .limitLost
    · exact h
  clear_value faulted
  exact mod_balance hfaulted (refreshAllFaults_flagged faulted.st).supply

theorem execValidationWalkEnd_balance {s : State} (h : s.unitsBalance) :
    ∃ t, execValidationWalkEnd s = .next t ∧ t.unitsBalance := by
  refine ⟨_, rfl, event_balance_due h fun due => ?_⟩
  have hm : s.mode ≠ .guarded := by
    rw [((walkDue_iff s).mp due).1]
    nofun
  split
  · exact balance_unguarded h hm (fun _ => rfl) id
  · exact enterGuard_balance h hm

/-- RELEASE GUARD ends every release, and frees every unit (R17, R124). -/
theorem releaseWork_balance (s : State) : s.releaseWork.st.unitsBalance := by
  unfold State.releaseWork
  extract_lets w0 w1 w2 w3 w4 w5
  have stations : w1.st.unitsBalance := by
    refine unitsBalance_idle (fun x => ?_) rfl
    rw [show w1.st.stations[x] = Station.release s.stations[x] from Vector.getElem_map _ _]
    change (if s.stations[x].state = .locked then StationState.locked else .idle) ≠ .releasing
    split <;> nofun
  clear_value w1
  have retired : w2.st.unitsBalance := foldl_balance (fun _ i h => retire_balance h i) stations
  clear_value w2
  have lines : w3.st.unitsBalance := by
    refine foldl_balance (fun w l h => ?_) retired
    split
    · exact h
    · exact h
    · exact shutdown_balance h l .config
  clear_value w3
  have records : w4.st.unitsBalance := mod_balance lines rfl
  clear_value w4
  have zones : w5.st.unitsBalance := foldl_balance (fun _ z h => releaseZone_balance h z) records
  clear_value w5
  have flagged : w5.st.refreshAllFaults.unitsBalance :=
    unitsBalance_of_supply zones (refreshAllFaults_flagged w5.st).supply
  exact unitsBalance_of_supply ((judgeShutters_steps _).balance flagged) (sirens_supply _ _)

theorem partReset_balance (s : State) : s.partReset.unitsBalance := by
  refine unitsBalance_idle (fun x => ?_) rfl
  rw [partReset_stations, reset_stations]
  nofun

/-! ## Judgements of link commands -/

/-- A judgement leaves, if it answers a state at all, one in which the units balance. -/
def JudgedBalance (j : Judged) : Prop := ∀ u r, j = .ok (u, r) → u.unitsBalance

theorem JudgedBalance.ok {u : State} {r : Reply} (h : u.unitsBalance) : JudgedBalance (.ok (u, r)) := by
  rintro _ _ ⟨⟩
  exact h

theorem JudgedBalance.error {r : Reply} : JudgedBalance (.error r) := fun _ _ e => nomatch e

/-- A step of a judgement changes nothing by itself. -/
theorem JudgedBalance.bind {α : Type} {x : Except Reply α} {f : α → Judged} (h : ∀ a, x = .ok a → JudgedBalance (f a)) :
    JudgedBalance (x >>= f) := by
  intro u r e
  obtain ⟨a, hx, hf⟩ := bind_ok e
  exact h a hx u r hf

section
variable {s : State} (h : s.unitsBalance) (target : Half) (data : List Byte)
include h

/-- A judgement that leaves the supply as it is. -/
theorem JudgedBalance.same {u : State} {r : Reply} (e : supplyOf u = supplyOf s) : JudgedBalance (.ok (u, r)) :=
  .ok (unitsBalance_of_supply h e)

theorem request_balance {n : Nat} {names : Names} {t : Half} {d : List Byte} {own : State → Judged}
    (j : JudgedBalance (own s)) : (s.request n names t d own).unitsBalance := by
  obtain ⟨k, e⟩ | ⟨u, r, hu, _, e⟩ := request_cases s n names t d own <;> rw [e]
  · exact unitsBalance_of_supply h rfl
  · exact unitsBalance_of_supply (j u r hu) rfl

theorem loadPoint_balance : JudgedBalance (s.loadPoint target data) := by
  refine .bind fun _ _ => .bind fun _ _ => .bind fun _ _ => .bind fun placing _ => ?_
  dsimp only
  split
  · exact .bind fun _ _ => .bind fun _ _ => .bind fun _ _ => .same h rfl
  · exact .bind fun _ _ => .same h rfl

theorem loadGate_balance : JudgedBalance (s.loadGate target data) := by
  refine .bind fun _ _ => .bind fun g _ => .bind fun _ _ => .bind fun _ _ => .bind fun _ _ => .bind fun _ _ =>
    .bind fun _ _ => .ok (finish_balance ?_)
  split
  · exact (checkGate_steps _ g).balance (unitsBalance_of_supply h rfl)
  · exact unitsBalance_of_supply h rfl

theorem loadShutter_balance : JudgedBalance (s.loadShutter target data) := by
  refine .bind fun _ _ => .bind fun _ _ => .bind fun a _ => .bind fun _ _ => ?_
  cases a with
  | none => exact .error
  | some a => exact .bind fun _ _ => .same h rfl

/-- A draw is loaded in CONFIG, where no station releases (R100). -/
theorem loadStation_balance : JudgedBalance (s.loadStation target data) := by
  refine .bind fun _ hm => .bind fun x _ => .bind fun _ _ => .bind fun _ _ => .bind fun _ _ => .ok ?_
  refine balance_unguarded h (by rw [takenInConfig_ok.mp hm]; nofun) (fun y => ?_) id
  rw [updStation_station]
  split <;> rfl

theorem injectTrack_balance : JudgedBalance (s.injectTrack target data) := by
  refine .bind fun _ _ => .bind fun d _ => .bind fun glow _ => .bind fun _ _ => ?_
  split
  · exact .error
  · rename_i seg position _
    have born := birth_balance (w := s.begin) h seg position d glow (byteAt data 1) s.now true
    split
    · exact .error
    · rename_i v _ hv
      rw [hv] at born
      exact .ok (finish_balance born)

theorem callZone_balance : JudgedBalance (s.callZone target data) := by
  refine .bind fun _ _ => .bind fun z _ => .bind fun l _ => .ok (finish_balance ?_)
  unfold Work.arriveCall
  exact caused_balance (w := s.begin) h z _ l

theorem endOrder_balance (x : StationId) : (s.endOrder x).st.unitsBalance :=
  push_balance (w := (State.begin _)) (unitsBalance_of_supply h (updStation_supply s x _ rfl .rfl)) _

/-- A station locked in RELEASING has returned its units, and any other drew none (R119). -/
theorem lockWork_balance (x : StationId) : (s.lockWork x).st.unitsBalance := by
  unfold State.lockWork
  refine push_balance ?_ _
  split
  · rename_i here
    have returned : (s.returnUnits x .locked).unitsBalance := returnUnits_balance h here nofun
    have locked : (s.returnUnits x .locked).stations[x].state = .locked := by rw [returnUnits_station, if_pos rfl]; rfl
    have left := unitsBalance_of_supply returned
      (updStation_supply _ x Station.lock rfl (iff_of_false nofun (by rw [locked]; nofun)))
    exact (stopCovering_steps (State.begin _) x .locked).balance left
  · rename_i elsewhere
    exact unitsBalance_of_supply h (updStation_supply s x Station.lock rfl (iff_of_false nofun elsewhere))

theorem lockStation_balance : JudgedBalance (s.lockStation target) := by
  refine .bind fun _ _ => .bind fun x _ => .bind fun _ _ => ?_
  split
  · exact .ok h
  · exact .ok (finish_balance (lockWork_balance h x))

/-- A LOCKED station becomes IDLE (R120). -/
theorem unlockStation_balance : JudgedBalance (s.unlockStation target) := by
  refine .bind fun _ _ => .bind fun x _ => .bind fun _ locked => .ok (finish_balance (push_balance ?_ _))
  have locked : s.stations[x].state = .locked := by simpa using refuseFor_ok.mp locked
  exact unitsBalance_of_supply h (updStation_supply s x _ rfl (iff_of_false nofun (by rw [locked]; nofun)))

/-- A station in FAULT becomes IDLE (R114). -/
theorem clearStation_balance : JudgedBalance (s.clearStation target) := by
  refine .bind fun _ _ => .bind fun x _ => .bind fun _ _ => .bind fun _ fault => .ok (finish_balance (push_balance ?_ _))
  have fault : s.stations[x].state = .fault := by simpa using refuseFor_ok.mp fault
  exact unitsBalance_of_supply h ((refreshPlaced_supply _ _ _).trans
    (updStation_supply s x _ rfl (iff_of_false nofun (by rw [fault]; nofun))))

theorem joinQueue_balance (l : LineId) (hm : s.mode = .guarded) : (s.joinQueue l).unitsBalance := by
  unfold State.joinQueue
  extract_lets t
  have ht : supplyOf t = supplyOf s := lineTo_supply _ l _
  split
  · exact (testStarts_steps t ((congrArg (·.2.2.1) ht :).trans hm)).balance (unitsBalance_of_supply h ht)
  · exact unitsBalance_of_supply h ht

theorem setPermit_balance (i : ShutterId) (granted : Bool) : (s.setPermit i granted).unitsBalance := by
  unfold State.setPermit
  extract_lets t
  have ht : t.unitsBalance := unitsBalance_of_supply h rfl
  exact ite_balance ht ((judgeShutter_steps t i).balance ht)

theorem permitAll_balance (granted : Bool) : JudgedBalance (s.permitAll granted) :=
  .bind fun _ _ => .ok (foldl_keeps (P := State.unitsBalance) (fun _ i h => setPermit_balance h i granted) _ s h)

end
/-! ## Every command -/

/-- Every command, in every state, keeps the balance. -/
theorem exec_balance (c : Instr) {s : State} (h : s.unitsBalance) : ∃ t, exec c s = .next t ∧ t.unitsBalance := by
  cases c with
  -- loads and part modes
  | loadLimits _ d =>
    refine ⟨_, rfl, request_balance h (.bind fun _ hm => .ok (balance_unguarded h ?_ (fun _ => rfl) fun _ => rfl))⟩
    rw [takenInConfig_ok.mp hm]
    nofun
  | loadSegment t d =>
    exact ⟨_, rfl, request_balance h (.bind fun _ _ => .bind fun _ _ => .bind fun _ _ => .bind fun _ _ => .bind fun _ _ =>
      .bind fun _ _ => .bind fun _ _ => .bind fun _ _ => .bind fun _ _ => .same h rfl)⟩
  | loadPoint t d => exact ⟨_, rfl, request_balance h (loadPoint_balance h t d)⟩
  | loadGate t d => exact ⟨_, rfl, request_balance h (loadGate_balance h t d)⟩
  | loadLine t d =>
    exact ⟨_, rfl, request_balance h (.bind fun _ _ => .bind fun l _ => .bind fun _ _ => .bind fun _ _ => .bind fun _ _ =>
      .same h (lineTo_supply s l _))⟩
  | loadStation t d => exact ⟨_, rfl, request_balance h (loadStation_balance h t d)⟩
  | loadChannel t d | loadTemperature t d | loadPattern t d =>
    exact ⟨_, rfl, request_balance h (.bind fun _ _ => .bind fun _ _ => .bind fun _ _ => .bind fun _ _ => .same h rfl)⟩
  | loadAirflow t d | loadSiren t d =>
    exact ⟨_, rfl, request_balance h (.bind fun _ _ => .bind fun _ _ => .bind fun _ _ => .same h rfl)⟩
  | loadShutter t d => exact ⟨_, rfl, request_balance h (loadShutter_balance h t d)⟩
  | commit t d =>
    refine ⟨_, rfl, request_balance h (.bind fun _ hm => .ok (balance_unguarded h ?_ (fun _ => rfl) id))⟩
    rw [takenInConfig_ok.mp hm]
    nofun
  | partReset t d => exact ⟨_, rfl, request_balance h (.bind fun _ _ => .same h rfl)⟩
  | validationWalkEnd => exact execValidationWalkEnd_balance h
  | releaseGuard t d =>
    exact ⟨_, rfl, request_balance h (.bind fun _ _ => .bind fun _ _ => .bind fun _ _ =>
      .ok (finish_balance (releaseWork_balance s)))⟩
  | linkPartResetTakesPlace => exact ⟨_, rfl, ite_balance (partReset_balance s) h⟩
  | resetLineLow => exact ⟨_, rfl, ite_balance h (partReset_balance _)⟩
  | resetLineHigh low =>
    exact ⟨_, rfl, ite_balance h (unitsBalance_of_supply (partReset_balance { s with resetLow := false }) rfl)⟩
  | powerUp => exact ⟨_, rfl, partReset_balance s⟩
  -- reads and notice commands
  | readStatus t d | readNotices t d => exact ⟨_, rfl, request_balance h (.ok h)⟩
  | readZone t d | readStation t d | readLine t d | readGate t d | readShutter t d | readSiren t d | readChannel t d
  | readAirflow t d | readTemperature t d | lookupTrack t d =>
    exact ⟨_, rfl, request_balance h (.bind fun _ _ => .bind fun _ _ => .ok h)⟩
  | listTracks t d => exact ⟨_, rfl, request_balance h (.bind fun _ _ => .bind fun _ _ => .bind fun _ _ => .ok h)⟩
  | clearNotices t d | setNotices t d | maskNotices t d =>
    exact ⟨_, rfl, request_balance h (.bind fun _ _ => .same h rfl)⟩
  -- tracks and zones
  | annotateTrack t d =>
    exact ⟨_, rfl, request_balance h (.bind fun _ _ => .bind fun _ _ => .bind fun _ _ => .bind fun _ _ => .same h rfl)⟩
  | retireTrack t d =>
    exact ⟨_, rfl, request_balance h (.bind fun _ _ => .bind fun _ _ => .bind fun _ _ =>
      .ok (finish_balance (retire_balance (w := s.begin) h _)))⟩
  | injectTrack t d => exact ⟨_, rfl, request_balance h (injectTrack_balance h t d)⟩
  | ackZone t d =>
    exact ⟨_, rfl, request_balance h (.bind fun _ _ => .bind fun z _ =>
      .ok (finish_balance (recompute_balance (unitsBalance_of_supply h (updZone_supply s z _)) z)))⟩
  | callZone t d => exact ⟨_, rfl, request_balance h (callZone_balance h t d)⟩
  -- stations
  | manualRelease t d =>
    exact ⟨_, rfl, request_balance h (.bind fun _ _ => .bind fun x _ => .bind fun _ _ => .bind fun _ _ => .bind fun _ _ =>
      .ok (finish_balance (push_balance (unitsBalance_of_supply h (updStation_supply s x _ rfl .rfl)) _)))⟩
  | cancelRelease t d =>
    exact ⟨_, rfl, request_balance h (.bind fun _ _ => .bind fun x _ => .bind fun _ _ => .bind fun _ _ =>
      .ok (finish_balance (endOrder_balance h x)))⟩
  | lockStation t d => exact ⟨_, rfl, request_balance h (lockStation_balance h t)⟩
  | unlockStation t d => exact ⟨_, rfl, request_balance h (unlockStation_balance h t)⟩
  | clearStation t d => exact ⟨_, rfl, request_balance h (clearStation_balance h t)⟩
  -- lines and gates
  | restartLine t d =>
    exact ⟨_, rfl, request_balance h (.bind fun _ hm => .bind fun l _ => .bind fun _ _ => .bind fun _ _ =>
      .bind fun _ _ => .bind fun _ _ => .bind fun _ _ => .ok (joinQueue_balance h l (takenInGuard_ok.mp hm)))⟩
  | stopLine t d =>
    exact ⟨_, rfl, request_balance h (.bind fun _ _ => .bind fun l _ => .bind fun _ _ =>
      .ok (finish_balance (shutdown_balance (w := s.begin) h l .link)))⟩
  | gateNormal t d =>
    exact ⟨_, rfl, request_balance h (.bind fun _ _ => .bind fun g _ => .bind fun _ _ => .bind fun _ _ =>
      .bind fun _ _ => .bind fun _ _ => .ok (finish_balance (travelGate_balance (w := s.begin) h g .toNormal)))⟩
  | clearGate t d =>
    exact ⟨_, rfl, request_balance h (.bind fun _ _ => .bind fun g _ => .bind fun _ _ => .bind fun _ _ =>
      .ok (finish_balance (travelGate_balance (unitsBalance_of_supply h rfl) g .toAbort)))⟩
  -- shutters and sirens
  | grantHold t d | revokeHold t d =>
    exact ⟨_, rfl, request_balance h (.bind fun _ _ => .bind fun i _ => .ok (setPermit_balance h i _))⟩
  | grantAll t d | revokeAll t d => exact ⟨_, rfl, request_balance h (permitAll_balance h _)⟩
  | openShutter t d =>
    exact ⟨_, rfl, request_balance h (.bind fun _ _ => .bind fun i _ => .bind fun _ _ => .bind fun _ _ =>
      .bind fun _ _ => .same h (moveShutter_supply s i _))⟩
  | clearShutter t d =>
    exact ⟨_, rfl, request_balance h (.bind fun _ _ => .bind fun i _ => .bind fun _ _ => .same h (moveShutter_supply s i _))⟩
  | silenceSiren t d =>
    exact ⟨_, rfl, request_balance h (.bind fun _ _ => .bind fun _ _ => .bind fun _ _ => .bind fun _ _ => .same h rfl)⟩
  -- the link
  | unknownOp o t d => exact ⟨_, rfl, ite_balance h (transact_balance h rfl)⟩
  | headerParityError header => exact ⟨_, rfl, ite_balance h (transact_balance h rfl)⟩
  | badCrc header d crc => exact ⟨_, rfl, ite_balance (transact_balance h rfl) h⟩
  | alertHoldEnd | holdTransactionIgnored | alertPulseEnd => exact ⟨_, rfl, ite_balance (unitsBalance_of_supply h rfl) h⟩
  | shortTransaction => exact ⟨_, rfl, transact_balance h rfl⟩
  -- detectors and inputs
  | frameComplete d bit | detectorBitArrival d bit => exact ⟨_, rfl, event_balance h (bitArrives_balance h d bit)⟩
  | frameAbandoned d => exact execFrameAbandoned_balance h d
  | surveyBoundary => exact ⟨_, rfl, event_balance h (unitsBalance_of_supply h rfl)⟩
  | supervisionPulse d | testDriveEnd d => exact ⟨_, rfl, event_balance h (unitsBalance_of_supply h rfl)⟩
  | echoWindowExpiry d => exact execEchoWindowExpiry_balance h d
  | airflowPulse a => exact ⟨_, rfl, ite_balance h (unitsBalance_of_supply h rfl)⟩
  | temperaturePulse i width => exact ⟨_, rfl, ite_balance h (unitsBalance_of_supply h rfl)⟩
  | sampleGateBoundary => exact ⟨_, rfl, event_balance h (gateBoundary_balance h)⟩
  -- track events
  | stallLimitExpiry i => exact ⟨_, rfl, event_balance h (escapeTrack_balance (w := s.begin) h i .stall)⟩
  | segmentAdvance i => exact ⟨_, rfl, event_balance h ((advance_steps s.begin i).balance h)⟩
  | recentPassExpiry i => exact ⟨_, rfl, event_balance h (unitsBalance_of_supply h rfl)⟩
  | lingerExpiry i => exact execLingerExpiry_balance h i
  | stationEarlyBound i place =>
    refine ⟨_, rfl, entryEvent_balance h fun k r => ?_⟩
    cases r.item.station? with
    | none => exact .refl _
    | some x => exact earlyBound_steps s.begin i k x
  | stationLateBound i place =>
    refine ⟨_, rfl, entryEvent_balance h fun k r => ?_⟩
    cases r.item.station? with
    | none => exact .refl _
    | some x => exact resolveStation_steps s.begin i k x none
  | entryLateBound i place => exact ⟨_, rfl, entryEvent_balance h fun k r => lateBound_steps s.begin i k r⟩
  -- station events
  | servedEntryOpen x i | deadlinePassed x i | servedEntryClose x i | floodMinimumRun x =>
    exact ⟨_, rfl, event_balance h (push_balance (unitsBalance_of_supply h (updStation_supply s x _ rfl .rfl)) _)⟩
  | pressureConfirmInput x shown =>
    have seen : (s.updStation x fun q => { q with pressure := shown }).unitsBalance :=
      unitsBalance_of_supply h (updStation_supply s x _ rfl .rfl)
    exact ⟨_, rfl, event_balance_due seen fun due => pressureSeen_balance seen (beq_iff_eq.mp due) shown⟩
  | confirmTimeout x =>
    exact ⟨_, rfl, event_balance_due h fun due =>
      faultStation_balance (w := s.begin) h (beq_iff_eq.mp (Bool.and_eq_true_iff.mp due).1) .noConfirm⟩
  | maxReleaseCut x =>
    exact ⟨_, rfl, event_balance_due h fun due =>
      cutStation_balance (w := s.begin) h (beq_iff_eq.mp (Bool.and_eq_true_iff.mp due).1)⟩
  | manualOrderEnd x => exact ⟨_, rfl, event_balance h (endOrder_balance h x)⟩
  | purgeDue x => exact execPurgeDue_balance h x
  | purgeEnd x => exact ⟨_, rfl, event_balance_due h fun due => push_balance (purgeEnd_balance h due) _⟩
  -- gate and line events
  | gateLimitChange g n a =>
    have changed : (s.updGate g fun q => { q with normalLimit := n, abortLimit := a }).unitsBalance :=
      unitsBalance_of_supply h rfl
    exact ⟨_, rfl, event_balance changed (limitsSeen_balance changed g)⟩
  | gateTravelTimeout g => exact ⟨_, rfl, event_balance h (faultGate_balance (w := s.begin) h g .timeout)⟩
  | runDownEnd l => exact ⟨_, rfl, event_balance h (unitsBalance_of_supply h (lineTo_supply s l _))⟩
  | startListExpiry => exact execStartListExpiry_balance h
  | fanFeedbackChange m running =>
    have fed : { s with fanFeedback := updAt s.fanFeedback m fun _ => running }.unitsBalance := unitsBalance_of_supply h rfl
    exact ⟨_, rfl, event_balance fed (foldl_balance (fun _ l h => feedback_balance h m running l) fed)⟩
  | runUpEnd l => exact ⟨_, rfl, event_balance h (shutdown_balance (w := s.begin) h l .fanFault)⟩
  -- zone, shutter and siren events
  | callPointInput z active => exact ⟨_, rfl, ite_balance h (unitsBalance_of_supply h rfl)⟩
  | callPointFilter z => exact ⟨_, rfl, event_balance h (callFilter_balance h z)⟩
  | shutterLimitChange i o c =>
    exact ⟨_, rfl, ite_balance (unitsBalance_of_supply h rfl) (unitsBalance_of_supply h (moveShutter_supply s i _))⟩
  | shutterObstruction i active =>
    exact ⟨_, rfl, ite_balance (unitsBalance_of_supply h rfl) (unitsBalance_of_supply h (moveShutter_supply s i _))⟩
  | shutterTravelTimeout i | rearmEnd i | pauseLimit i => exact ⟨_, rfl, shutterEvent_balance h i _ _⟩
  | sirenPhaseEnd y => exact ⟨_, rfl, sirenPhaseEnd_balance h y⟩

/-- What time brings by itself draws and returns no unit: a tick changes accumulations alone (R121). -/
theorem idle_balance {s : State} (h : s.unitsBalance) : s.idle.unitsBalance := by
  have ticked : supplyOf s.tick = supplyOf s := by
    unfold State.tick
    split
    · unfold supplyOf
      rw [map_map_same]
      intro q
      unfold State.accumulate
      split <;> rfl
    · rfl
  unfold State.idle
  split
  · exact h
  · split
    · exact unitsBalance_of_supply h rfl
    · exact unitsBalance_of_supply h ticked

/-- Settles O56: the front command keeps the balance, and so does an empty queue. -/
theorem unitsBalanceKept : Obligations.UnitsBalanceKept := by
  intro s t h e
  unfold step at e
  split at e
  · rename_i c rest _
    obtain ⟨u, ran, balance⟩ := exec_balance c (s := { s with pending := rest }) (unitsBalance_of_supply h rfl)
    obtain rfl : u = t := Host.Outcome.next.inj (ran.symm.trans e)
    exact balance
  · cases e
    exact idle_balance h

end Sys2Proof.Laws
end


section
/-! PROOFS. The records of the stations: what a command or an event writes into one of them and what the deliveries leave
there (06), the outputs that follow the records, and what time brings to an empty queue. -/
namespace Sys2Proof.Laws
open Sys2Proof.Machine

/-! ## Outputs -/

/-- Two sets of flags meet exactly if they share a flag. -/
theorem and_ne_zero_iff (a b : BitVec 12) :
    ((a &&& b) != 0) = true ↔ ∃ i : Fin 12, a.getLsbD i.val = true ∧ b.getLsbD i.val = true := by
  rw [bne_iff_ne]
  constructor
  · intro differ
    by_contra none
    refine differ (BitVec.eq_of_getLsbD_eq fun i hi => ?_)
    have apart := not_exists.mp none ⟨i, hi⟩
    rw [BitVec.getLsbD_and, BitVec.ofNat_eq_ofNat, BitVec.getLsbD_zero]
    simpa [not_and] using apart
  · rintro ⟨i, ha, hb⟩ zero
    have bit : (a &&& b).getLsbD i.val = true := by rw [BitVec.getLsbD_and, ha, hb]; rfl
    rw [zero, BitVec.ofNat_eq_ofNat, BitVec.getLsbD_zero] at bit
    cases bit

/-- Settles O30: each output by the states that energize it. -/
theorem outputsFollowStates : Obligations.OutputsFollowStates := by
  refine ⟨fun q => ⟨beq_iff_eq, beq_iff_eq⟩, fun g => ?_, fun l => ⟨?_, bne_iff_ne⟩, fun h => ⟨?_, beq_iff_eq, beq_iff_eq⟩,
    fun y => beq_iff_eq, fun s => ⟨and_ne_zero_iff _ _, bne_iff_ne⟩⟩
  · simp [Gate.drive]
  · simp [Line.fansOn, or_assoc]
  · simp [Shutter.brake, or_assoc]

/-! ## An empty queue (log rows 1, 8 and 25) -/

theorem step_empty {s : State} (empty : s.pending = []) : step s = .next s.idle := by
  unfold step
  rw [empty]

theorem idle_due {s : State} (high : s.resetLow = false) {c : Instr} (due : s.nextDue = some c) :
    s.idle = { s with pending := [c] } := by
  simp [State.idle, high, due]

/-- The end of the parity hold is the first event that time brings (R185). -/
theorem nextDue_hold {s : State} {stop : Tick} (held : s.link.alert = .held stop) (due : stop ≤ s.now) :
    s.nextDue = some .alertHoldEnd := by
  have first : ifDue .alertHoldEnd (s.link.alert.holdDue s.now) = some .alertHoldEnd := by
    simp [ifDue, Alert.holdDue, held, due]
  unfold State.nextDue State.dueEvents
  rw [first]
  rfl

/-- The end of the CRC pulse is the next one (R186). -/
theorem nextDue_pulse {s : State} (pulse : s.link.alert = .pulse) : s.nextDue = some .alertPulseEnd := by
  have first : ifDue .alertHoldEnd (s.link.alert.holdDue s.now) = none := by simp [ifDue, Alert.holdDue, pulse]
  have second : ifDue .alertPulseEnd (s.link.alert == .pulse) = some .alertPulseEnd := by simp [ifDue, pulse]
  unfold State.nextDue State.dueEvents
  rw [first, second]
  rfl

/-- Settles O2: by what comes first in the order of the due events, and by the tick with none due. -/
theorem emptyQueueStep : Obligations.EmptyQueueStep := by
  intro s empty
  rw [step_empty empty]
  refine ⟨fun low => ?_, fun high c due => ?_, fun high stop held due => ?_, fun high pulse => ?_, fun high none => ?_⟩
  · simp [State.idle, low]
  · rw [idle_due high due]
  · rw [idle_due high (nextDue_hold held due)]
  · rw [idle_due high (nextDue_pulse pulse)]
  · rw [show s.idle = s.tick by simp [State.idle, high, none]]
    rfl

/-! ## The frame of a station's record -/

/-- An update that leaves a station's loaded fields and its input is within the frame of an event. -/
theorem updStation_framed (s : State) (x : StationId) (f : Station → Station)
    (fixed : (f s.stations[x]).fixed = s.stations[x].fixed) : s.Framed (s.updStation x f) :=
  { (Kept.same s).framed with
    stations := fun y => by
      rw [updStation_station]
      split
      · rename_i e
        rwa [e]
      · rfl }

theorem returnUnits_framed (s : State) (x : StationId) (dest : StationState) : s.Framed (s.returnUnits x dest) :=
  { updStation_framed s x (fun q => q.released dest) rfl with }

/-- A station's record as an event writes it, the frame and what deliveries keep of it. -/
structure Wrote (s u : State) (x : StationId) (q : Station) : Prop where
  here : StationKept q u.stations[x]
  others : ∀ y, y ≠ x → StationKept s.stations[y] u.stations[y]
  framed : s.Framed u
  nextSeq : u.nextSeq = s.nextSeq
  raised : ∀ n, s.raised n → u.raised n

theorem Wrote.updStation (s : State) (x : StationId) (f : Station → Station)
    (fixed : (f s.stations[x]).fixed = s.stations[x].fixed) : Wrote s (s.updStation x f) x (f s.stations[x]) where
  here := by
    rw [updStation_station, if_pos rfl]
    exact .same _
  others y e := by
    rw [updStation_station, if_neg e]
    exact .same _
  framed := updStation_framed s x f fixed
  nextSeq := rfl
  raised _ r := r

theorem Wrote.left {s t u : State} {x : StationId} {q : Station} (h : Wrote s t x q) (k : Kept t u) : Wrote s u x q where
  here := h.here.trans (k.stations x)
  others y e := (h.others y e).trans (k.stations y)
  framed := framed_trans h.framed k.framed
  nextSeq := k.nextSeq.trans h.nextSeq
  raised n r := k.raised n (h.raised n r)

/-- A station leaves RELEASING, and its record is written. -/
theorem Wrote.returnUnits (s : State) (x : StationId) (dest : StationState) (f : Station → Station)
    (fixed : (f (s.stations[x].released dest)).fixed = s.stations[x].fixed) :
    Wrote s ((s.returnUnits x dest).updStation x f) x (f (s.stations[x].released dest)) where
  here := by
    rw [updStation_station, if_pos rfl, returnUnits_station, if_pos rfl]
    exact .same _
  others y e := by
    rw [updStation_station, if_neg e, returnUnits_station, if_neg e]
    exact .same _
  framed := by
    refine framed_trans (returnUnits_framed s x dest) (updStation_framed _ x f ?_)
    rw [returnUnits_station, if_pos rfl]
    exact fixed
  nextSeq := rfl
  raised _ r := r

/-- The deliveries of an event that has written a station's record. -/
theorem Wrote.finish {s : State} {w : Work} {x : StationId} {q : Station} (h : Wrote s w.st x q) :
    Wrote s w.finish x q := h.left (finish_kept w)

theorem Wrote.push {s : State} {w : Work} {x : StationId} {q : Station} (h : Wrote s w.st x q) (d : Delivery) :
    Wrote s (w.push d).st x q := by
  rwa [push_st]

/-! ## Manual orders (R117, R118) -/

/-- The manual order of a station written. -/
theorem orderWritten (s : State) (x : StationId) (m : Option ManualOrder) :
    Wrote s ((s.updStation x fun q => { q with manual := m }).begin.push (.station x)).finish x
      { s.stations[x] with manual := m } :=
  ((Wrote.updStation s x (fun q => { q with manual := m }) rfl).push (w := State.begin _) _).finish

/-- What the statements say of an order written. -/
theorem Wrote.manual {s u : State} {x : StationId} {m : Option ManualOrder}
    (h : Wrote s u x { s.stations[x] with manual := m }) :
    u.stations[x].manual = m ∧ (∀ y, y ≠ x → u.stations[y].manual = s.stations[y].manual) ∧ s.Framed u :=
  ⟨h.here.manual, fun y e => (h.others y e).manual, h.framed⟩

/-- The order that MANUAL RELEASE sets: its duration is clamped (R117). -/
def newOrder (s : State) (d : List Byte) : ManualOrder :=
  { orderTick := s.now, endTick := s.now + clamp 1 600 (natAt2 d 0) * 1000 }

section
variable {s : State} {t : Half} {d : List Byte} {x : StationId} (h : s.listens) (hm : s.mode = .guarded)
  (ht : t.toNat = x.val)
include h hm ht

theorem manualRelease_notInUse (hd : d.length = 2) (use : s.stations[x].inUse = false) :
    exec (.manualRelease t d) s = .next (s.replyWith (.refused .notInUse)) :=
  request_refused h hd (fun e => nomatch e) <|
    (bind_of_ok (takenInGuard_of_guarded hm)).trans <| (bind_of_ok (targetOf_ok.mpr ht)).trans <|
    bind_of_error (refuseFor_refused (by rw [use]; rfl))

theorem manualRelease_locked (hd : d.length = 2) (use : s.stations[x].inUse = true)
    (locked : s.stations[x].state = .locked) :
    exec (.manualRelease t d) s = .next (s.replyWith (.refused .locked)) :=
  request_refused h hd (fun e => nomatch e) <|
    (bind_of_ok (takenInGuard_of_guarded hm)).trans <| (bind_of_ok (targetOf_ok.mpr ht)).trans <|
    (bind_of_ok (refuseFor_passed (by rw [use]; rfl))).trans <| bind_of_error (refuseFor_refused (beq_iff_eq.mpr locked))

theorem manualRelease_faulted (hd : d.length = 2) (use : s.stations[x].inUse = true)
    (fault : s.stations[x].state = .fault) :
    exec (.manualRelease t d) s = .next (s.replyWith (.refused .faulted)) :=
  request_refused h hd (fun e => nomatch e) <|
    (bind_of_ok (takenInGuard_of_guarded hm)).trans <| (bind_of_ok (targetOf_ok.mpr ht)).trans <|
    (bind_of_ok (refuseFor_passed (by rw [use]; rfl))).trans <| (bind_of_ok (refuseFor_passed (by rw [fault]; rfl))).trans <|
    bind_of_error (refuseFor_refused (beq_iff_eq.mpr fault))

theorem manualRelease_taken (hd : d.length = 2) (use : s.stations[x].inUse = true)
    (open' : s.stations[x].state ≠ .locked) (sound : s.stations[x].state ≠ .fault) :
    exec (.manualRelease t d) s = .next
      (((s.updStation x fun q => { q with manual := some (newOrder s d) }).begin.push (.station x)).finish.replyWith
        (.loaded (clamp 1 600 (natAt2 d 0) != natAt2 d 0))) :=
  request_answer h hd (fun e => nomatch e) <|
    (bind_of_ok (takenInGuard_of_guarded hm)).trans <| (bind_of_ok (targetOf_ok.mpr ht)).trans <|
    (bind_of_ok (refuseFor_passed (by rw [use]; rfl))).trans <|
    (bind_of_ok (refuseFor_passed (beq_eq_false_iff_ne.mpr open'))).trans <|
    bind_of_ok (refuseFor_passed (beq_eq_false_iff_ne.mpr sound))

theorem cancelRelease_notInUse (use : s.stations[x].inUse = false) :
    exec (.cancelRelease t []) s = .next (s.replyWith (.refused .notInUse)) :=
  request_refused h rfl (fun e => nomatch e) <|
    (bind_of_ok (takenInGuard_of_guarded hm)).trans <| (bind_of_ok (targetOf_ok.mpr ht)).trans <|
    bind_of_error (refuseFor_refused (by rw [use]; rfl))

theorem cancelRelease_noOrder (use : s.stations[x].inUse = true) (none : s.stations[x].manual = none) :
    exec (.cancelRelease t []) s = .next (s.replyWith (.refused .noOrder)) :=
  request_refused h rfl (fun e => nomatch e) <|
    (bind_of_ok (takenInGuard_of_guarded hm)).trans <| (bind_of_ok (targetOf_ok.mpr ht)).trans <|
    (bind_of_ok (refuseFor_passed (by rw [use]; rfl))).trans <| bind_of_error (refuseFor_refused (by rw [none]; rfl))

theorem cancelRelease_taken (use : s.stations[x].inUse = true) (some : s.stations[x].manual ≠ none) :
    exec (.cancelRelease t []) s = .next ((s.endOrder x).finish.replyWith (.ok [])) :=
  request_answer h rfl (fun e => nomatch e) <|
    (bind_of_ok (takenInGuard_of_guarded hm)).trans <| (bind_of_ok (targetOf_ok.mpr ht)).trans <|
    (bind_of_ok (refuseFor_passed (by rw [use]; rfl))).trans <|
    bind_of_ok (refuseFor_passed (Option.isNone_eq_false_iff.mpr (Option.isSome_iff_ne_none.mpr some)))

end

theorem orderDue_of {q : Station} {m : ManualOrder} {now : Tick} (order : q.manual = some m) (due : m.endTick ≤ now) :
    q.orderDue now = true := by
  simp [Station.orderDue, reached, order, due]

theorem manualOrderEnd_due {s : State} {x : StationId} {m : ManualOrder} (high : s.resetLow = false)
    (order : s.stations[x].manual = some m) (due : m.endTick ≤ s.now) :
    exec (.manualOrderEnd x) s = .next (s.endOrder x).finish :=
  congrArg Host.Outcome.next (event_due s _ _ high (orderDue_of order due))

/-- Settles O39: the refusals in the order in which they are judged, and what an order written leaves. -/
theorem manualOrders : Obligations.ManualOrders := by
  refine ⟨fun s t d x h hm hd ht => ⟨fun use => ⟨?_, ?_⟩, fun use => ⟨?_, ?_, ?_, ?_, ?_⟩⟩, fun s x m high order due => ?_⟩
  · exact manualRelease_notInUse h hm ht hd use
  · exact cancelRelease_notInUse h hm ht use
  · exact manualRelease_locked h hm ht hd use
  · exact manualRelease_faulted h hm ht hd use
  · exact fun open' sound => ⟨_, manualRelease_taken h hm ht hd use open' sound, (orderWritten s x _).manual⟩
  · exact cancelRelease_noOrder h hm ht use
  · exact fun some => ⟨_, cancelRelease_taken h hm ht use some, (orderWritten s x none).manual⟩
  · exact ⟨_, manualOrderEnd_due high order due, (orderWritten s x none).manual⟩

end Sys2Proof.Laws
end


section
/-! PROOFS. Faults, cuts, locks and purges of a station (06), and what the deliveries of such an event leave where no station
waits. -/
namespace Sys2Proof.Laws
open Sys2Proof.Machine

/-! ## The judging of one station -/

section
variable {s : State} {x : StationId} (hm : s.mode = .guarded)
include hm

theorem judge_idle (idle : s.stations[x].state = .idle) (calm : s.stations[x].demand = false) :
    s.begin.judgeStation x = (s.startPurge x).begin.push .arbiter := by
  simp only [Work.judgeStation, State.begin, hm, idle, calm]
  exact if_neg (not_not_intro rfl)

theorem judge_request (idle : s.stations[x].state = .idle) (demand : s.stations[x].demand = true) :
    s.begin.judgeStation x = (s.updStation x fun q => q.request s.now).begin.push .arbiter := by
  simp only [Work.judgeStation, State.begin, hm, idle, demand]
  exact if_neg (not_not_intro rfl)

theorem judge_locked (locked : s.stations[x].state = .locked) : s.begin.judgeStation x = s.begin.push .arbiter := by
  simp only [Work.judgeStation, State.begin, hm, locked]
  exact if_neg (not_not_intro rfl)

theorem judge_release_end (releasing : s.stations[x].state = .releasing) (calm : s.stations[x].demand = false) :
    s.begin.judgeStation x =
      (((s.returnUnits x .idle).begin.stopCovering x .lateGrant).mod fun s => s.startPurge x).push .arbiter := by
  simp only [Work.judgeStation, State.begin, hm, releasing, calm]
  exact if_neg (not_not_intro rfl)

end

theorem judge_unguarded {s : State} (hm : s.mode ≠ .guarded) (x : StationId) : s.begin.judgeStation x = s.begin := by
  unfold Work.judgeStation
  exact if_pos hm

theorem startPurge_paid {s : State} {x : StationId} (paid : s.stations[x].debt = 0) : s.startPurge x = s :=
  if_neg fun owed => absurd owed.2.2 (by rw [paid]; exact Nat.lt_irrefl 0)

theorem startPurge_owed {s : State} {x : StationId} (idle : s.stations[x].state = .idle)
    (calm : s.stations[x].demand = false) (owed : 0 < s.stations[x].debt) :
    s.startPurge x = s.updStation x fun q =>
      { q with state := .purging, purgeEnd := some (s.now + q.purgeTime * Config.tenth) } :=
  if_pos ⟨idle, calm, owed⟩

/-- A station is judged, and the arbiter then acts. -/
theorem run_station_arbitrated (n : Nat) {s t u : State} {x : StationId}
    (judged : s.begin.judgeStation x = t.begin.push .arbiter) (acted : t.begin.arbitrate = u.begin) :
    Work.run (n + 2) (s.begin.push (.station x)) = u.begin := by
  have first : { s.begin.push (.station x) with out := [] }.act (.station x) = t.begin.push .arbiter := judged
  have second : { t.begin.push .arbiter with out := [] }.act .arbiter = u.begin := acted
  rw [run_cons _ _ (.station x) [] (by rfl), first, run_cons _ _ .arbiter [] (by rfl), second, run_none _ _ (by rfl)]

theorem finish_station_arbitrated {s t u : State} {x : StationId} (judged : s.begin.judgeStation x = t.begin.push .arbiter)
    (acted : t.begin.arbitrate = u.begin) : (s.begin.push (.station x)).finish = u := by
  have fuel : Config.deliveryFuel = 999998 + 2 := rfl
  unfold Work.finish
  rw [fuel, run_station_arbitrated 999998 judged acted]
  rfl

/-- A station is judged, and the arbiter then finds nothing waiting. -/
theorem finish_station_of_no_waiters {s t : State} {x : StationId} (judged : s.begin.judgeStation x = t.begin.push .arbiter)
    (none : ∀ y : StationId, t.stations[y].waits = false) : (s.begin.push (.station x)).finish = t :=
  finish_station_arbitrated judged (arbitrate_of_no_waiters t.begin none)

/-- The arbiter acts alone. -/
theorem finish_arbiter {s u : State} (acted : s.begin.arbitrate = u.begin) : (s.begin.push .arbiter).finish = u := by
  have fuel : Config.deliveryFuel = 999998 + 2 := rfl
  have first : { s.begin.push .arbiter with out := [] }.act .arbiter = u.begin := acted
  unfold Work.finish
  rw [fuel, run_cons _ _ .arbiter [] (by rfl), first, run_none _ _ (by rfl)]
  rfl

/-- A station that is IDLE, without demand and without debt is left as it is. -/
theorem finish_station_calm {s : State} {x : StationId} (idle : s.stations[x].state = .idle)
    (calm : s.stations[x].demand = false) (paid : s.stations[x].debt = 0)
    (none : ∀ y : StationId, s.stations[y].waits = false) : (s.begin.push (.station x)).finish = s := by
  by_cases hm : s.mode = .guarded
  · exact finish_station_of_no_waiters ((judge_idle hm idle calm).trans (by rw [startPurge_paid paid])) none
  · have fuel : Config.deliveryFuel = 999997 + 3 := rfl
    have first : { s.begin.push (.station x) with out := [] }.act (.station x) = s.begin := judge_unguarded hm x
    unfold Work.finish
    rw [fuel, run_cons _ _ (.station x) [] (by rfl), first, run_none _ _ (by rfl)]
    rfl

/-- A change of one station that then does not wait leaves no station waiting. -/
theorem updStation_no_waiters {s : State} {x : StationId} {f : Station → Station}
    (none : ∀ y : StationId, s.stations[y].waits = false) (here : (f s.stations[x]).waits = false) (y : StationId) :
    (s.updStation x f).stations[y].waits = false := by
  rw [updStation_station]
  split
  · rename_i e
    rwa [e]
  · exact none y

theorem updStation_twice (s : State) (x : StationId) (f g : Station → Station) :
    (s.updStation x f).updStation x g = s.updStation x fun q => g (f q) :=
  congrArg (fun v => { s with stations := v }) (updAt_twice _ _ _ _)

/-- A station that leaves RELEASING, with its record written: the whole state. -/
theorem returnUnits_updStation (s : State) (x : StationId) (dest : StationState) (f : Station → Station) :
    (s.returnUnits x dest).updStation x f =
      { s with stations := updAt s.stations x fun q => f (q.released dest), freeUnits := s.freeUnits + s.drawOf x } :=
  congrArg (fun v => { s with stations := v, freeUnits := s.freeUnits + s.drawOf x }) (updAt_twice _ _ _ _)

/-! ## Faults (R113, R114) -/

theorem faultStation_wrote (s : State) (x : StationId) (reason : StationFault) :
    Wrote s (s.begin.faultStation x reason).finish x
      { s.stations[x].released .fault with faultReason := some reason, manual := none } ∧
    (s.begin.faultStation x reason).finish.raised .station := by
  have written := Wrote.returnUnits s x .fault (fun q => { q with faultReason := some reason, manual := none }) rfl
  have kept := finish_kept (s.begin.faultStation x reason)
  suffices before : Wrote s (s.begin.faultStation x reason).st x
      { s.stations[x].released .fault with faultReason := some reason, manual := none } ∧
      (s.begin.faultStation x reason).st.raised .station from ⟨before.1.left kept, kept.raised _ before.2⟩
  unfold Work.faultStation
  extract_lets left stopped
  have hstopped : Wrote s stopped.st x { s.stations[x].released .fault with faultReason := some reason, manual := none } :=
    Wrote.left (t := left.st) written (stopCovering_steps left x .fault).kept
  clear_value stopped
  rw [push_st]
  dsimp only [Work.mod]
  have htold := hstopped.left (refreshPlaced_kept stopped.st .station (.station x) nofun)
  exact ⟨htold.left (raise_kept (stopped.st.refreshPlaced .station (.station x)) .station),
    raise_raised (stopped.st.refreshPlaced .station (.station x)) .station⟩

/-- A station that has entered FAULT with a reason. -/
structure Faulted (s u : State) (x : StationId) (reason : StationFault) : Prop where
  state : u.stations[x].state = .fault
  reason : u.stations[x].faultReason = some reason
  manual : u.stations[x].manual = none
  raised : u.raised .station
  framed : s.Framed u
  nextSeq : u.nextSeq = s.nextSeq

theorem faultStation_faulted (s : State) (x : StationId) (reason : StationFault) :
    Faulted s (s.begin.faultStation x reason).finish x reason := by
  obtain ⟨written, raised⟩ := faultStation_wrote s x reason
  exact ⟨written.here.fault.mpr rfl, written.here.faultReason, written.here.manual, raised, written.framed, written.nextSeq⟩

/-! ## The pressure input (R101, R113) -/

section
variable {s : State} {x : StationId} {shown : Bool}

theorem pressure_elsewhere (state : s.stations[x].state ≠ .releasing) :
    exec (.pressureConfirmInput x shown) s = .next (s.updStation x fun q => { q with pressure := shown }) := by
  refine congrArg Host.Outcome.next (event_not _ _ _ (.inr ?_))
  rw [updStation_station, if_pos rfl]
  exact beq_eq_false_iff_ne.mpr state

theorem pressure_releasing (high : s.resetLow = false) (state : s.stations[x].state = .releasing) :
    exec (.pressureConfirmInput x shown) s =
      .next ((s.updStation x fun q => { q with pressure := shown }).pressureSeen x shown).finish := by
  refine congrArg Host.Outcome.next (event_due _ _ _ high ?_)
  rw [updStation_station, if_pos rfl]
  exact beq_iff_eq.mpr state

theorem pressureSeen_confirms {since : Tick} (waits : s.stations[x].confirm = .waiting since) :
    s.pressureSeen x true = (s.updStation x fun q => { q with confirm := .confirmed }).begin := by
  unfold State.pressureSeen
  rw [waits]

theorem pressureSeen_waits {since : Tick} (waits : s.stations[x].confirm = .waiting since) :
    s.pressureSeen x false = s.begin := by
  unfold State.pressureSeen
  rw [waits]

theorem pressureSeen_holds (confirmed : s.stations[x].confirm = .confirmed) : s.pressureSeen x true = s.begin := by
  unfold State.pressureSeen
  rw [confirmed]

theorem pressureSeen_lost (confirmed : s.stations[x].confirm = .confirmed) :
    s.pressureSeen x false = s.begin.faultStation x .pressureLost := by
  unfold State.pressureSeen
  rw [confirmed]

end

theorem confirmDue_of {q : Station} {since now : Tick} (releasing : q.state = .releasing) (waits : q.confirm = .waiting since)
    (due : since + q.confirmTime * 1000 ≤ now) : q.confirmDue now = true := by
  unfold Station.confirmDue
  rw [releasing, waits]
  exact decide_eq_true due

theorem confirmTimeout_due {s : State} {x : StationId} {since : Tick} (high : s.resetLow = false)
    (releasing : s.stations[x].state = .releasing) (waits : s.stations[x].confirm = .waiting since)
    (due : since + s.stations[x].confirmTime * 1000 ≤ s.now) :
    exec (.confirmTimeout x) s = .next (s.begin.faultStation x .noConfirm).finish :=
  congrArg Host.Outcome.next (event_due s _ _ high (confirmDue_of releasing waits due))

/-! ## The cut (R115, R116) -/

theorem cutDue_of {q : Station} {start now : Tick} (releasing : q.state = .releasing) (cut : q.cutStart = some start)
    (due : start + q.maxRelease * 10000 ≤ now) : q.cutDue now = true := by
  simpa [Station.cutDue, reached, Config.second, releasing, cut] using due

theorem maxReleaseCut_due {s : State} {x : StationId} {start : Tick} (high : s.resetLow = false)
    (releasing : s.stations[x].state = .releasing) (cut : s.stations[x].cutStart = some start)
    (due : start + s.stations[x].maxRelease * 10000 ≤ s.now) :
    exec (.maxReleaseCut x) s = .next (s.begin.cutStation x).finish :=
  congrArg Host.Outcome.next (event_due s _ _ high (cutDue_of releasing cut due))

/-- A station that has been cut, before its demand is judged. -/
def cutState (s : State) (x : StationId) : State :=
  (s.returnUnits x .idle).updStation x fun q => { q with served := [], manual := none }

theorem cutStation_wrote (s : State) (x : StationId) :
    Wrote s (s.begin.cutStation x).finish x { s.stations[x].released .idle with served := [], manual := none } ∧
    (s.begin.cutStation x).finish.raised .station := by
  have written := Wrote.returnUnits s x .idle (fun q => { q with served := [], manual := none }) rfl
  have kept := finish_kept (s.begin.cutStation x)
  suffices before : Wrote s (s.begin.cutStation x).st x
      { s.stations[x].released .idle with served := [], manual := none } ∧
      (s.begin.cutStation x).st.raised .station from ⟨before.1.left kept, kept.raised _ before.2⟩
  unfold Work.cutStation
  extract_lets removed left cut
  have hcut : Wrote s cut.st x { s.stations[x].released .idle with served := [], manual := none } :=
    Wrote.left (t := left.st) written (Quiets.kept (foldl_chain _ _ (fun w i => stopEntries_steps w x _ .cut i) left))
  clear_value cut
  rw [push_st]
  exact ⟨hcut.left (raise_kept cut.st .station), raise_raised cut.st .station⟩

theorem stopEntries_free {w : Work} {i : SlotId} (free : w.st.track? i = none) (x : StationId) (p : RouteItem → Bool)
    (reason : Uncovered) : w.stopEntries x p reason i = w := by
  unfold Work.stopEntries
  rw [free]
  rfl

/-- Without tracks a cut concerns the station alone. -/
theorem cutStation_trackless {s : State} (none : ∀ i : SlotId, s.track? i = none) (x : StationId) :
    s.begin.cutStation x = ((cutState s x).raise .station).begin.push (.station x) := by
  unfold Work.cutStation
  extract_lets removed left cut
  have hcut : cut = left := foldl_same _ _ fun i _ => stopEntries_free (none i) x _ .cut
  rw [hcut]
  rfl

/-- Without tracks, with nothing waiting and no demand or debt left, the cut is all that happens. -/
theorem cutStation_calm {s : State} {x : StationId} (none : ∀ i : SlotId, s.track? i = none)
    (idle : ∀ y : StationId, s.stations[y].waits = false) (calm : s.stations[x].floodDemand = false)
    (paid : s.stations[x].debt = 0) : (s.begin.cutStation x).finish = (cutState s x).raise .station := by
  have here : ((cutState s x).raise .station).stations[x] =
      { s.stations[x].released .idle with served := [], manual := .none } := by
    refine (updStation_station _ x x _).trans ((if_pos rfl).trans ?_)
    rw [returnUnits_station, if_pos rfl]
  rw [cutStation_trackless none]
  refine finish_station_calm ?_ ?_ ?_ fun y => ?_
  · rw [here]
    rfl
  · rw [here]
    exact calm
  · rw [here]
    exact paid
  · refine updStation_no_waiters (s := s.returnUnits x .idle) (updStation_no_waiters idle rfl) ?_ y
    rw [returnUnits_station, if_pos rfl]
    rfl

/-- Settles O38: by the level read, the confirmation it finds, and the two timeouts. -/
theorem stationFaultsAndCuts : Obligations.StationFaultsAndCuts := by
  refine ⟨fun s x shown _ state => pressure_elsewhere state, fun s x since high state waits => ⟨?_, ?_, fun due => ?_⟩,
    fun s x high state confirmed => ⟨?_, ?_⟩, fun s x start high state cut due => ⟨?_, fun none idle calm paid => ?_⟩⟩
  · have seen : (s.updStation x fun q => { q with pressure := true }).stations[x].confirm = .waiting since := by
      rwa [updStation_station, if_pos rfl]
    rw [pressure_releasing high state, pressureSeen_confirms seen, begin_finish]
    exact congrArg Host.Outcome.next (updStation_twice s x _ _)
  · have seen : (s.updStation x fun q => { q with pressure := false }).stations[x].confirm = .waiting since := by
      rwa [updStation_station, if_pos rfl]
    rw [pressure_releasing high state, pressureSeen_waits seen, begin_finish]
    rfl
  · obtain ⟨fault, reason, manual, raised, framed, seq⟩ := faultStation_faulted s x .noConfirm
    exact ⟨_, confirmTimeout_due high state waits due, fault, reason, manual, raised, framed, seq⟩
  · have seen : (s.updStation x fun q => { q with pressure := true }).stations[x].confirm = .confirmed := by
      rwa [updStation_station, if_pos rfl]
    rw [pressure_releasing high state, pressureSeen_holds seen, begin_finish]
    rfl
  · have seen : (s.updStation x fun q => { q with pressure := false }).stations[x].confirm = .confirmed := by
      rwa [updStation_station, if_pos rfl]
    rw [pressure_releasing high state, pressureSeen_lost seen]
    obtain ⟨fault, reason, manual, raised, -, seq⟩ :=
      faultStation_faulted (s.updStation x fun q => { q with pressure := false }) x .pressureLost
    exact ⟨_, rfl, fault, reason, manual, raised, seq⟩
  · obtain ⟨written, raised⟩ := cutStation_wrote s x
    exact ⟨_, maxReleaseCut_due high state cut due, written.here.manual, raised, written.framed, written.nextSeq⟩
  · rw [maxReleaseCut_due high state cut due, cutStation_calm none idle calm paid, cutState, returnUnits_updStation]
    rfl

/-! ## Locks (R114, R119, R120) -/

theorem lockWork_releasing {s : State} {x : StationId} (state : s.stations[x].state = .releasing) :
    s.lockWork x = (((s.returnUnits x .locked).updStation x Station.lock).begin.stopCovering x .locked).push .arbiter := by
  unfold State.lockWork
  rw [if_pos state]
  rfl

theorem lockWork_closed {s : State} {x : StationId} (state : s.stations[x].state ≠ .releasing) :
    s.lockWork x = (s.updStation x Station.lock).begin.push .arbiter := by
  unfold State.lockWork
  rw [if_neg state]
  rfl

theorem lockWork_wrote (s : State) (x : StationId) : Wrote s (s.lockWork x).finish x s.stations[x].lock := by
  refine Wrote.finish ?_
  by_cases state : s.stations[x].state = .releasing
  · have written := Wrote.returnUnits s x .locked Station.lock rfl
    have stopped := (stopCovering_steps ((s.returnUnits x .locked).updStation x Station.lock).begin x .locked).kept
    rw [lockWork_releasing state, push_st]
    exact written.left stopped
  · rw [lockWork_closed state, push_st]
    exact Wrote.updStation s x Station.lock rfl

/-- A station taken to IDLE, or out of FAULT, stands outside LOCKED and FAULT once its demand has been tested. -/
theorem idle_wrote {s u : State} {x : StationId} {q : Station} (h : Wrote s u x q) (idle : q.state = .idle) :
    u.stations[x].state ≠ .locked ∧ u.stations[x].state ≠ .fault := by
  refine ⟨fun locked => ?_, fun fault => ?_⟩
  · have was := h.here.locked.mp locked
    rw [idle] at was
    cases was
  · have was := h.here.fault.mp fault
    rw [idle] at was
    cases was

/-- A station that has become IDLE, its demand tested. -/
def unlocked (s : State) (x : StationId) : State := s.updStation x fun q => { q with state := .idle }

/-- A station that has left FAULT, its zone's flag in step. -/
def cleared (s : State) (x : StationId) : State :=
  (s.updStation x fun q => { q with state := .idle, faultReason := none }).refreshPlaced .station (.station x)

theorem unlocked_wrote (s : State) (x : StationId) :
    Wrote s ((unlocked s x).begin.push (.station x)).finish x { s.stations[x] with state := .idle } :=
  ((Wrote.updStation s x (fun q => { q with state := .idle }) rfl).push (w := State.begin _) _).finish

theorem cleared_wrote (s : State) (x : StationId) :
    Wrote s ((cleared s x).begin.push (.station x)).finish x { s.stations[x] with state := .idle, faultReason := none } :=
  (((Wrote.updStation s x (fun q => { q with state := .idle, faultReason := none }) rfl).left
    (refreshPlaced_kept _ .station (.station x) nofun)).push (w := State.begin _) _).finish

section
variable {s : State} {t : Half} {x : StationId} (h : s.listens) (hm : s.mode = .guarded) (ht : t.toNat = x.val)
include h hm ht

theorem lockStation_fault (fault : s.stations[x].state = .fault) :
    exec (.lockStation t []) s = .next (s.replyWith (.refused .faulted)) :=
  request_refused h rfl (fun e => nomatch e) <|
    (bind_of_ok (takenInGuard_of_guarded hm)).trans <| (bind_of_ok (targetOf_ok.mpr ht)).trans <|
    bind_of_error (refuseFor_refused (beq_iff_eq.mpr fault))

theorem lockStation_locked (locked : s.stations[x].state = .locked) :
    exec (.lockStation t []) s = .next (s.replyWith (.ok [])) :=
  request_answer h rfl (fun e => nomatch e) <|
    (bind_of_ok (takenInGuard_of_guarded hm)).trans <| (bind_of_ok (targetOf_ok.mpr ht)).trans <|
    (bind_of_ok (refuseFor_passed (by rw [locked]; rfl))).trans <| if_pos locked

theorem lockStation_taken (sound : s.stations[x].state ≠ .fault) (open' : s.stations[x].state ≠ .locked) :
    exec (.lockStation t []) s = .next ((s.lockWork x).finish.replyWith (.ok [])) :=
  request_answer h rfl (fun e => nomatch e) <|
    (bind_of_ok (takenInGuard_of_guarded hm)).trans <| (bind_of_ok (targetOf_ok.mpr ht)).trans <|
    (bind_of_ok (refuseFor_passed (beq_eq_false_iff_ne.mpr sound))).trans <| if_neg open'

theorem unlockStation_open (open' : s.stations[x].state ≠ .locked) :
    exec (.unlockStation t []) s = .next (s.replyWith (.refused .notLocked)) :=
  request_refused h rfl (fun e => nomatch e) <|
    (bind_of_ok (takenInGuard_of_guarded hm)).trans <| (bind_of_ok (targetOf_ok.mpr ht)).trans <|
    bind_of_error (refuseFor_refused (bne_iff_ne.mpr open'))

theorem unlockStation_taken (locked : s.stations[x].state = .locked) :
    exec (.unlockStation t []) s = .next (((unlocked s x).begin.push (.station x)).finish.replyWith (.ok [])) :=
  request_answer h rfl (fun e => nomatch e) <|
    (bind_of_ok (takenInGuard_of_guarded hm)).trans <| (bind_of_ok (targetOf_ok.mpr ht)).trans <|
    bind_of_ok (refuseFor_passed (by rw [locked]; rfl))

theorem clearStation_notInUse (use : s.stations[x].inUse = false) :
    exec (.clearStation t []) s = .next (s.replyWith (.refused .notInUse)) :=
  request_refused h rfl (fun e => nomatch e) <|
    (bind_of_ok (takenInGuard_of_guarded hm)).trans <| (bind_of_ok (targetOf_ok.mpr ht)).trans <|
    bind_of_error (refuseFor_refused (by rw [use]; rfl))

theorem clearStation_sound (use : s.stations[x].inUse = true) (sound : s.stations[x].state ≠ .fault) :
    exec (.clearStation t []) s = .next (s.replyWith (.refused .notFaulted)) :=
  request_refused h rfl (fun e => nomatch e) <|
    (bind_of_ok (takenInGuard_of_guarded hm)).trans <| (bind_of_ok (targetOf_ok.mpr ht)).trans <|
    (bind_of_ok (refuseFor_passed (by rw [use]; rfl))).trans <|
    bind_of_error (refuseFor_refused (bne_iff_ne.mpr sound))

theorem clearStation_taken (use : s.stations[x].inUse = true) (fault : s.stations[x].state = .fault) :
    exec (.clearStation t []) s = .next (((cleared s x).begin.push (.station x)).finish.replyWith (.ok [])) :=
  request_answer h rfl (fun e => nomatch e) <|
    (bind_of_ok (takenInGuard_of_guarded hm)).trans <| (bind_of_ok (targetOf_ok.mpr ht)).trans <|
    (bind_of_ok (refuseFor_passed (by rw [use]; rfl))).trans <|
    bind_of_ok (refuseFor_passed (by rw [fault]; rfl))

end

/-- A station unlocked without demand, debt or waiting stations stays IDLE (R120). -/
theorem unlocked_calm {s : State} {x : StationId} (calm : s.stations[x].demand = false) (paid : s.stations[x].debt = 0)
    (none : ∀ y : StationId, s.stations[y].waits = false) :
    ((unlocked s x).begin.push (.station x)).finish = unlocked s x := by
  have here : (unlocked s x).stations[x] = { s.stations[x] with state := .idle } :=
    (updStation_station s x x _).trans (if_pos rfl)
  exact finish_station_calm (by rw [here]) (by rw [here]; exact calm) (by rw [here]; exact paid)
    (updStation_no_waiters none rfl)

/-- Settles O40: by the state that each of the three commands finds. -/
theorem lockUnlockClear : Obligations.LockUnlockClear := by
  intro s t x h hm ht
  refine ⟨lockStation_fault h hm ht, lockStation_locked h hm ht, fun sound => ?_, unlockStation_open h hm ht,
    fun locked => ?_, clearStation_notInUse h hm ht, clearStation_sound h hm ht, fun use fault => ?_⟩
  · by_cases locked : s.stations[x].state = .locked
    · exact ⟨s, lockStation_locked h hm ht locked, locked, (Kept.same s).framed, fun e => absurd locked e⟩
    · have written := lockWork_wrote s x
      exact ⟨_, lockStation_taken h hm ht sound locked, written.here.locked.mpr rfl, written.framed,
        fun _ => written.here.manual⟩
  · have written := unlocked_wrote s x
    exact ⟨_, unlockStation_taken h hm ht locked, (idle_wrote written rfl).1, written.framed,
      fun calm paid none => unlocked_calm calm paid none⟩
  · have written := cleared_wrote s x
    exact ⟨_, clearStation_taken h hm ht use fault, (idle_wrote written rfl).2, written.here.faultReason, written.framed⟩

/-! ## Purges (R121 to R123) -/

/-- A station whose purge has fallen due. -/
def purgeOwed (s : State) (x : StationId) : State :=
  s.updStation x fun q => { q with debt := bump Config.debtLimit q.debt, accumulation := 0 }

/-- PURGE_OVERDUE is set and STATION raised where the debt reaches its limit (R123). -/
def purgeTold (s : State) (x : StationId) : State :=
  if s.stations[x].debt + 1 = Config.debtLimit then
    ((purgeOwed s x).refreshPlaced .purgeOverdue (.station x)).raise .station
  else purgeOwed s x

theorem purgeDue_due {s : State} {x : StationId} (high : s.resetLow = false) (hm : s.mode = .guarded)
    (use : s.stations[x].inUse = true) (due : s.limits.purgeInterval * 10000 ≤ s.stations[x].accumulation) :
    exec (.purgeDue x) s = .next ((purgeTold s x).begin.push (.station x)).finish := by
  refine congrArg Host.Outcome.next (event_due s _ _ high ?_)
  unfold State.purgeDue
  rw [hm, use]
  exact decide_eq_true due

theorem purgeTold_wrote (s : State) (x : StationId) :
    Wrote s (purgeTold s x) x { s.stations[x] with debt := bump Config.debtLimit s.stations[x].debt, accumulation := 0 } := by
  have written := Wrote.updStation s x (fun q => { q with debt := bump Config.debtLimit q.debt, accumulation := 0 }) rfl
  unfold purgeTold
  split
  · exact (written.left (refreshPlaced_kept (purgeOwed s x) .purgeOverdue (.station x) nofun)).left (raise_kept _ .station)
  · exact written

theorem purgeTold_raised {s : State} {x : StationId} (limit : s.stations[x].debt = 3) : (purgeTold s x).raised .station := by
  unfold purgeTold
  rw [if_pos (by rw [limit]; rfl)]
  exact raise_raised _ .station

/-- A purge that falls due at a station that stands IDLE without demand is run (R122). -/
theorem purgeTold_runs {s : State} {x : StationId} (hm : s.mode = .guarded) (idle : s.stations[x].state = .idle)
    (calm : s.stations[x].demand = false) (below : s.stations[x].debt < 3)
    (none : ∀ y : StationId, s.stations[y].waits = false) :
    ((purgeTold s x).begin.push (.station x)).finish =
      s.updStation x fun q => { q with debt := q.debt + 1, accumulation := 0, state := .purging,
                                       purgeEnd := some (s.now + q.purgeTime * 1000) } := by
  have bumped : bump Config.debtLimit s.stations[x].debt = s.stations[x].debt + 1 :=
    Nat.min_eq_right (Nat.succ_le_of_lt (Nat.lt_succ_of_lt below))
  have told : purgeTold s x = purgeOwed s x := if_neg (Nat.ne_of_lt (Nat.succ_lt_succ below))
  have here : (purgeOwed s x).stations[x] =
      { s.stations[x] with debt := bump Config.debtLimit s.stations[x].debt, accumulation := 0 } :=
    (updStation_station s x x _).trans (if_pos rfl)
  have idle' : (purgeOwed s x).stations[x].state = .idle := by rw [here]; exact idle
  have calm' : (purgeOwed s x).stations[x].demand = false := by rw [here]; exact calm
  have owed : 0 < (purgeOwed s x).stations[x].debt := by
    rw [here]
    dsimp only
    rw [bumped]
    exact Nat.succ_pos _
  have started := startPurge_owed idle' calm' owed
  have whole : (purgeOwed s x).startPurge x =
      s.updStation x fun q => { q with debt := q.debt + 1, accumulation := 0, state := .purging,
                                       purgeEnd := some (s.now + q.purgeTime * 1000) } := by
    refine started.trans ((updStation_twice s x _ _).trans (congrArg (fun v => { s with stations := v }) ?_))
    refine updAt_congr s.stations x ?_
    rw [bumped]
    rfl
  rw [told, ← whole]
  refine finish_station_of_no_waiters (judge_idle hm idle' calm') ?_
  rw [whole]
  exact updStation_no_waiters none rfl

/-- A purge that has ended (R122, R123). -/
def purgeDone (s : State) (x : StationId) : State :=
  (s.updStation x fun q => { q with state := .idle, purgeEnd := none, debt := q.debt - 1 }).refreshPlaced .purgeOverdue
    (.station x)

theorem purgeEnd_due {s : State} {x : StationId} {stop : Tick} (high : s.resetLow = false)
    (purging : s.stations[x].state = .purging) (ends : s.stations[x].purgeEnd = some stop) (due : stop ≤ s.now) :
    exec (.purgeEnd x) s = .next ((purgeDone s x).begin.push (.station x)).finish := by
  refine congrArg Host.Outcome.next (event_due s _ _ high ?_)
  unfold State.purgeEndDue
  rw [purging, ends]
  exact decide_eq_true due

theorem purgeDone_wrote (s : State) (x : StationId) :
    Wrote s (purgeDone s x) x { s.stations[x] with state := .idle, purgeEnd := none, debt := s.stations[x].debt - 1 } :=
  (Wrote.updStation s x (fun q => { q with state := .idle, purgeEnd := none, debt := q.debt - 1 }) rfl).left
    (refreshPlaced_kept _ .purgeOverdue (.station x) nofun)

/-- Settles O41: by what the event writes into the station's record and what its deliveries keep of it. -/
theorem purges : Obligations.Purges := by
  refine ⟨fun s x high hm use due => ?_, fun s x stop high purging ends due => ?_⟩
  · have before := purgeTold_wrote s x
    have written := (before.push (w := State.begin _) (.station x)).finish
    have kept := finish_kept ((purgeTold s x).begin.push (.station x))
    rw [push_st] at kept
    exact ⟨_, purgeDue_due high hm use due, written.here.debt, written.here.accumulation,
      fun limit => kept.raised _ (purgeTold_raised limit), written.framed,
      fun y e => ⟨(written.others y e).debt, (written.others y e).accumulation⟩,
      fun idle calm below none => purgeTold_runs hm idle calm below none⟩
  · have written := ((purgeDone_wrote s x).push (w := State.begin _) (.station x)).finish
    exact ⟨_, purgeEnd_due high purging ends due, written.here.debt, written.framed, fun y e => (written.others y e).debt⟩

end Sys2Proof.Laws
end


section
/-! PROOFS. The Pressure Arbiter (06): its queue, what it grants and suspends, and what the events of served entries leave. -/
namespace Sys2Proof.Laws
open Sys2Proof.Machine

/-! ## The queue (R108) -/

/-- The place of a station in the queue: its key class, then its key, then its number. -/
def placeOf (s : State) (x : StationId) : ℕ ×ₗ ℕ ×ₗ StationId :=
  toLex ((s.stations[x].key s.now).1.rank, toLex ((s.stations[x].key s.now).2, x))

theorem placeOf_lt {s : State} {x y : StationId} : placeOf s x < placeOf s y ↔
    (s.stations[x].key s.now).1.rank < (s.stations[y].key s.now).1.rank ∨
      (s.stations[x].key s.now).1.rank = (s.stations[y].key s.now).1.rank ∧
        ((s.stations[x].key s.now).2 < (s.stations[y].key s.now).2 ∨
          (s.stations[x].key s.now).2 = (s.stations[y].key s.now).2 ∧ x.val < y.val) := by
  unfold placeOf
  rw [Prod.Lex.toLex_lt_toLex, Prod.Lex.toLex_lt_toLex, Fin.lt_def]

theorem placeOf_injective (s : State) {x y : StationId} (e : placeOf s x = placeOf s y) : x = y :=
  (Prod.mk.inj (Prod.mk.inj e).2).2

theorem before_eq (s : State) (x y : StationId) : s.before x y = decide (placeOf s x < placeOf s y) := by
  rw [Bool.eq_iff_iff, decide_eq_true_eq, placeOf_lt]
  unfold State.before
  dsimp only
  split
  · rename_i differ
    rw [decide_eq_true_eq]
    omega
  · rename_i same
    rw [not_not] at same
    split
    · rename_i differ
      rw [decide_eq_true_eq, or_iff_right (same.symm ▸ lt_irrefl _), and_iff_right same,
        or_iff_left fun both => differ both.1]
    · rename_i equal
      rw [not_not] at equal
      rw [decide_eq_true_eq, or_iff_right (same.symm ▸ lt_irrefl _), and_iff_right same,
        or_iff_right (equal.symm ▸ lt_irrefl _), and_iff_right equal]

/-- The queue is the waiting stations sorted by their places. -/
theorem arbiterQueue_eq (s : State) : s.arbiterQueue =
    ((List.finRange 24).filter fun x => s.stations[x].waits).reverse.insertionSort fun x y => placeOf s x ≤ placeOf s y := by
  unfold State.arbiterQueue List.insertionSort
  rw [List.foldr_reverse]
  congr 1
  funext queue x
  rw [List.orderedInsert_eq_take_drop]
  simp only [before_eq, not_le]

theorem arbiterQueue_perm (s : State) :
    s.arbiterQueue.Perm ((List.finRange 24).filter fun x => s.stations[x].waits) := by
  rw [arbiterQueue_eq]
  exact (List.perm_insertionSort _ _).trans (List.reverse_perm _)

theorem mem_arbiterQueue {s : State} {x : StationId} : x ∈ s.arbiterQueue ↔ s.stations[x].waits = true := by
  rw [(arbiterQueue_perm s).mem_iff, List.mem_filter]
  exact and_iff_right (List.mem_finRange x)

theorem arbiterQueue_nodup (s : State) : s.arbiterQueue.Nodup :=
  (arbiterQueue_perm s).nodup_iff.mpr ((List.nodup_finRange 24).filter _)

theorem arbiterQueue_sorted (s : State) : s.arbiterQueue.Pairwise fun x y => placeOf s x < placeOf s y := by
  have sorted : s.arbiterQueue.Pairwise fun x y => placeOf s x ≤ placeOf s y := by
    rw [arbiterQueue_eq]
    exact List.pairwise_insertionSort _ _
  exact sorted.imp₂ (fun _ _ le ne => lt_of_le_of_ne le fun e => ne (placeOf_injective s e)) (arbiterQueue_nodup s)

theorem waits_iff {q : Station} : q.waits = true ↔ q.state = .requesting ∨ q.state = .suspended := by
  simp [Station.waits]

/-- One station waits, and no other. -/
theorem arbiterQueue_single {s : State} {x : StationId} :
    s.arbiterQueue = [x] ↔ ∀ y : StationId, s.stations[y].waits = true ↔ y = x := by
  constructor
  · intro single y
    rw [← mem_arbiterQueue, single, List.mem_singleton]
  · intro only
    have same := List.perm_ext_iff_of_nodup (arbiterQueue_nodup s) (List.nodup_singleton x)
    refine List.perm_singleton.mp (same.mpr fun y => ?_)
    rw [mem_arbiterQueue, only, List.mem_singleton]

/-! ## Grants (R109) -/

section
variable {w : Work} {s : State} {x : StationId} (hw : w.st = s) (head : s.arbiterQueue.head? = some x) (n : Nat)
include hw head

/-- The head is granted where its draw is free. -/
theorem grantHeads_fits (fits : s.drawOf x ≤ s.freeUnits) :
    Work.grantHeads (n + 1) w = Work.grantHeads n (w.mod fun s => s.grant x) := by
  subst hw
  rw [Work.grantHeads, head]
  dsimp only
  rw [if_pos (Or.inl fits), if_pos fits]

/-- A head of class FLOOD that does not fit waits, and everything behind it. -/
theorem grantHeads_flood (flood : (s.stations[x].key s.now).1 = .flood) (short : s.freeUnits < s.drawOf x) :
    Work.grantHeads (n + 1) w = w := by
  subst hw
  rw [Work.grantHeads, head]
  dsimp only
  rw [if_pos (Or.inr flood), if_neg (not_le.mpr short)]

/-- A keyed head that does not fit has floods suspended. -/
theorem grantHeads_keyed (keyed : (s.stations[x].key s.now).1 ≠ .flood) (short : s.freeUnits < s.drawOf x) :
    Work.grantHeads (n + 1) w =
      if s.drawOf x ≤ (w.suspendFor (s.drawOf x)).st.freeUnits then
        Work.grantHeads n ((w.suspendFor (s.drawOf x)).mod fun s => s.grant x)
      else w.suspendFor (s.drawOf x) := by
  subst hw
  rw [Work.grantHeads, head]
  dsimp only
  rw [if_neg (not_or.mpr ⟨not_le.mpr short, keyed⟩)]

end

theorem grantHeads_none (n : Nat) {w : Work} (none : ∀ x : StationId, w.st.stations[x].waits = false) :
    Work.grantHeads n w = w := by
  cases n with
  | zero => rfl
  | succ n => simp only [Work.grantHeads, arbiterQueue_of_no_waiters _ none, List.head?_nil]


theorem arbitrate_guarded {s : State} (hm : s.mode = .guarded) : s.begin.arbitrate = Work.grantHeads 64 s.begin := if_pos hm

theorem arbitrate_unguarded {s : State} (hm : s.mode ≠ .guarded) : s.begin.arbitrate = s.begin := if_neg hm

/-! ## Every waiting station granted (R109) -/

/-- The stations that wait. -/
def waitingSet (s : State) : Finset StationId := Finset.univ.filter fun x => s.stations[x].waits = true

theorem mem_waitingSet {s : State} {x : StationId} : x ∈ waitingSet s ↔ s.stations[x].waits = true := by
  rw [waitingSet, Finset.mem_filter]
  exact and_iff_right (Finset.mem_univ x)

/-- What the waiting stations would draw together. -/
def waitingDraw (s : State) : Nat := ∑ x ∈ waitingSet s, s.drawOf x

/-- Every waiting station granted at once. -/
def grantAll (s : State) : State :=
  { s with stations := Vector.ofFn fun y : StationId =>
             if s.stations[y].waits then granted s s.stations[y] else s.stations[y],
           freeUnits := s.freeUnits - waitingDraw s }

theorem grant_drawOf (s : State) (x y : StationId) : (s.grant x).drawOf y = s.drawOf y := by
  unfold State.drawOf
  rw [grant_station]
  split <;> rfl

theorem grant_waitingSet (s : State) (x : StationId) : waitingSet (s.grant x) = (waitingSet s).erase x := by
  ext y
  rw [Finset.mem_erase, mem_waitingSet, mem_waitingSet, grant_station]
  by_cases e : y = x
  · rw [if_pos e]
    exact iff_of_false nofun fun both => both.1 e
  · rw [if_neg e]
    exact (and_iff_right e).symm

/-- A grant takes the station's draw from what still waits. -/
theorem grant_waitingDraw {s : State} {x : StationId} (waits : s.stations[x].waits = true) :
    s.drawOf x + waitingDraw (s.grant x) = waitingDraw s := by
  unfold waitingDraw
  simp only [grant_waitingSet, grant_drawOf]
  exact Finset.add_sum_erase _ _ (mem_waitingSet.mpr waits)

theorem grantAll_none {s : State} (none : ∀ x : StationId, s.stations[x].waits = false) : grantAll s = s := by
  have empty : waitingSet s = ∅ := Finset.filter_false_of_mem fun x _ waits => by
    rw [none x] at waits
    cases waits
  have draw : waitingDraw s = 0 := by
    rw [waitingDraw, empty]
    rfl
  have same : (Vector.ofFn fun y : StationId =>
      if s.stations[y].waits then granted s s.stations[y] else s.stations[y]) = s.stations := by
    refine Vector.ext fun i hi => ?_
    rw [Vector.getElem_ofFn, if_neg (ne_true_of_eq_false (none ⟨i, hi⟩))]
    rfl
  rw [grantAll, draw, same]
  rfl

theorem grantAll_grant {s : State} {x : StationId} (waits : s.stations[x].waits = true) :
    grantAll (s.grant x) = grantAll s := by
  have draw := grant_waitingDraw waits
  have free : (s.grant x).freeUnits - waitingDraw (s.grant x) = s.freeUnits - waitingDraw s := by
    change s.freeUnits - s.drawOf x - waitingDraw (s.grant x) = _
    omega
  have records : (Vector.ofFn fun y : StationId =>
      if (s.grant x).stations[y].waits then granted (s.grant x) (s.grant x).stations[y] else (s.grant x).stations[y]) =
      Vector.ofFn fun y : StationId => if s.stations[y].waits then granted s s.stations[y] else s.stations[y] := by
    congr 1
    funext y
    rw [grant_station]
    by_cases e : y = x
    · rw [if_pos e, if_neg nofun, e, if_pos waits]
    · rw [if_neg e]
      rfl
  rw [grantAll, free, records]
  rfl

/-- While the units last the arbiter grants every station that waits. -/
theorem grantHeads_all (n : Nat) : ∀ w : Work, (waitingSet w.st).card ≤ n → waitingDraw w.st ≤ w.st.freeUnits →
    Work.grantHeads n w = w.mod grantAll := by
  have done : ∀ w : Work, (∀ x : StationId, w.st.stations[x].waits = false) → w = w.mod grantAll := fun w none =>
    congrArg (fun s => ({ w with st := s } : Work)) (grantAll_none none).symm
  have idle : ∀ w : Work, w.st.arbiterQueue = [] → ∀ x : StationId, w.st.stations[x].waits = false := by
    intro w empty x
    rw [← Bool.not_eq_true, ← mem_arbiterQueue, empty]
    exact List.not_mem_nil
  induction n with
  | zero =>
    intro w few _
    refine done w fun x => ?_
    rw [← Bool.not_eq_true, ← mem_waitingSet, Finset.card_eq_zero.mp (Nat.le_zero.mp few)]
    exact Finset.notMem_empty x
  | succ n ih =>
    intro w few fits
    cases queue : w.st.arbiterQueue with
    | nil => exact (grantHeads_none (n + 1) (idle w queue)).trans (done w (idle w queue))
    | cons x rest =>
      have waits : w.st.stations[x].waits = true := mem_arbiterQueue.mp (queue ▸ List.mem_cons_self)
      have draw := grant_waitingDraw waits
      have fewer : (waitingSet (w.st.grant x)).card ≤ n := by
        rw [grant_waitingSet, Finset.card_erase_of_mem (mem_waitingSet.mpr waits)]
        omega
      have fits' : waitingDraw (w.st.grant x) ≤ (w.st.grant x).freeUnits := by
        change _ ≤ w.st.freeUnits - w.st.drawOf x
        omega
      rw [grantHeads_fits rfl (by rw [queue]; rfl) n (by omega), ih (w.mod fun s => s.grant x) fewer fits']
      exact congrArg (fun s => ({ w with st := s } : Work)) (grantAll_grant waits)

theorem arbitrate_all {s : State} (hm : s.mode = .guarded) (fits : waitingDraw s ≤ s.freeUnits) :
    s.begin.arbitrate = (grantAll s).begin := by
  rw [arbitrate_guarded hm]
  exact grantHeads_all 64 s.begin ((Finset.card_le_univ _).trans (by decide)) fits

/-- One station waits, and its draw is free. -/
theorem arbitrate_one {s : State} {x : StationId} (hm : s.mode = .guarded) (only : s.arbiterQueue = [x])
    (fits : s.drawOf x ≤ s.freeUnits) : s.begin.arbitrate = (s.grant x).begin := by
  have head : s.arbiterQueue.head? = some x := by
    rw [only]
    rfl
  have waits : s.stations[x].waits = true := mem_arbiterQueue.mp (only ▸ List.mem_cons_self)
  have none : ∀ y : StationId, (s.grant x).stations[y].waits = false := by
    intro y
    rw [← Bool.not_eq_true, ← mem_waitingSet, grant_waitingSet, Finset.mem_erase, mem_waitingSet,
      arbiterQueue_single.mp only]
    exact fun both => both.1 both.2
  rw [arbitrate_guarded hm, grantHeads_fits (w := s.begin) (s := s) rfl head 63 fits]
  exact grantHeads_none 63 (w := s.begin.mod fun s => s.grant x) none

/-! ## Records updated, and the units and the queue -/

section
variable (s : State) (x : StationId) (f : Station → Station)

theorem updStation_drawOf (draw : (f s.stations[x]).draw = s.stations[x].draw) (y : StationId) :
    (s.updStation x f).drawOf y = s.drawOf y := by
  unfold State.drawOf
  rw [updStation_station]
  by_cases e : y = x
  · rw [if_pos e, e, draw]
    rfl
  · rw [if_neg e]
    rfl

theorem updStation_waits (waits : (f s.stations[x]).waits = s.stations[x].waits) (y : StationId) :
    (s.updStation x f).stations[y].waits = s.stations[y].waits := by
  rw [updStation_station]
  by_cases e : y = x
  · rw [if_pos e, e, waits]
  · rw [if_neg e]

/-- A station that is updated and then leaves RELEASING: the whole state. -/
theorem updStation_returnUnits (draw : (f s.stations[x]).draw = s.stations[x].draw) (dest : StationState) :
    (s.updStation x f).returnUnits x dest =
      { s with stations := updAt s.stations x fun q => (f q).released dest, freeUnits := s.freeUnits + s.drawOf x } := by
  have free : (s.updStation x f).freeUnits + (s.updStation x f).drawOf x = s.freeUnits + s.drawOf x := by
    rw [updStation_drawOf s x f draw]
    rfl
  exact (congrArg (fun n => { s with stations := updAt (updAt s.stations x f) x fun q => q.released dest, freeUnits := n })
    free).trans
    (congrArg (fun v => { s with stations := v, freeUnits := s.freeUnits + s.drawOf x }) (updAt_twice _ _ _ _))

/-- A station that is updated and then granted: the whole state. -/
theorem updStation_grant (draw : (f s.stations[x]).draw = s.stations[x].draw) :
    (s.updStation x f).grant x =
      { s with stations := updAt s.stations x fun q => granted s (f q), freeUnits := s.freeUnits - s.drawOf x } := by
  have free : (s.updStation x f).freeUnits - (s.updStation x f).drawOf x = s.freeUnits - s.drawOf x := by
    rw [updStation_drawOf s x f draw]
    rfl
  exact (congrArg (fun n => { s with stations := updAt (updAt s.stations x f) x (granted s), freeUnits := n }) free).trans
    (congrArg (fun v => { s with stations := v, freeUnits := s.freeUnits - s.drawOf x }) (updAt_twice _ _ _ _))

end

/-! ## Plan entries of a station that stops releasing (R89) -/

/-- No live track has a COVERING entry at a station. -/
def uncovering (s : State) (x : StationId) : Prop :=
  ∀ (i : SlotId) (k : Track), s.track? i = some k → ∀ r ∈ k.route, r.item = .station x → r.covering = false

theorem stopCovering_bare {w : Work} {x : StationId} (bare : uncovering w.st x) (reason : Uncovered) :
    w.stopCovering x reason = w := by
  refine foldl_same _ _ fun i _ => ?_
  have no_entry : ((w.st.track? i).bind fun t => t.entryAt x fun r => r.covering) = none := by
    cases hk : w.st.track? i with
    | none => rfl
    | some k =>
      refine List.findIdx?_eq_none_iff.mpr fun r hr => ?_
      by_cases here : r.item = .station x
      · change (r.joined && r.item == .station x && r.covering) = false
        rw [bare i k hk r hr here, Bool.and_false]
      · rw [beq_eq_false_iff_ne.mpr here, Bool.and_false, Bool.false_and]
  unfold Work.stopEntries
  rw [no_entry]

/-! ## Served entries (R102) -/

/-- The served entries of a station replaced. -/
def servedWith (s : State) (x : StationId) (l : List Served) : State := s.updStation x fun q => { q with served := l }

theorem servedWith_station (s : State) (x : StationId) (l : List Served) :
    (servedWith s x l).stations[x] = { s.stations[x] with served := l } :=
  (updStation_station s x x _).trans (if_pos rfl)

theorem servedWith_waits (s : State) (x : StationId) (l : List Served) (y : StationId) :
    (servedWith s x l).stations[y].waits = s.stations[y].waits :=
  updStation_waits s x (fun q => { q with served := l }) rfl y

theorem servedWith_drawOf (s : State) (x : StationId) (l : List Served) (y : StationId) :
    (servedWith s x l).drawOf y = s.drawOf y :=
  updStation_drawOf s x (fun q => { q with served := l }) rfl y

section
variable {s : State} {x : StationId} {e : Served} (high : s.resetLow = false) (served : s.stations[x].served = [e])
include served

theorem servedFor_alone {p : Served → Bool} (due : p e = true) : s.stations[x].servedFor e.handle.slot p = true := by
  unfold Station.servedFor
  rw [served]
  simp [due]

/-- The one served entry of a station rewritten. -/
theorem updServed_alone (f : Served → Served) :
    (s.updStation x fun q =>
        { q with served := q.served.map fun k => if k.handle.slot = e.handle.slot then f k else k }) =
      servedWith s x [f e] := by
  refine congrArg (fun v => { s with stations := v }) (updAt_congr s.stations x ?_)
  rw [served]
  simp

/-- The one served entry of a station removed. -/
theorem dropServed_alone :
    (s.updStation x fun q => { q with served := q.served.filter fun k => k.handle.slot != e.handle.slot }) =
      servedWith s x [] := by
  refine congrArg (fun v => { s with stations := v }) (updAt_congr s.stations x ?_)
  rw [served]
  simp

include high

theorem servedEntryOpen_due (pending : e.active = false) (due : e.opens ≤ s.now) :
    exec (.servedEntryOpen x e.handle.slot) s =
      .next ((servedWith s x [{ e with active := true }]).begin.push (.station x)).finish := by
  have holds : s.stations[x].servedFor e.handle.slot (openDue s.now) = true :=
    servedFor_alone served (by unfold openDue; rw [pending]; exact decide_eq_true due)
  refine congrArg Host.Outcome.next ((event_due s _ _ high holds).trans ?_)
  rw [updServed_alone served fun k => { k with active := true }]

theorem servedEntryClose_due (due : e.closes ≤ s.now) :
    exec (.servedEntryClose x e.handle.slot) s =
      .next ((servedWith s x []).begin.push (.station x)).finish := by
  have holds : s.stations[x].servedFor e.handle.slot (closeDue s.now) = true :=
    servedFor_alone served (decide_eq_true due)
  refine congrArg Host.Outcome.next ((event_due s _ _ high holds).trans ?_)
  rw [dropServed_alone served]

theorem deadlinePassed_due (fresh : e.noted = false) (due : e.deadline < s.now) :
    exec (.deadlinePassed x e.handle.slot) s =
      .next ((servedWith s x [{ e with noted := true }]).begin.push .arbiter).finish := by
  have holds : s.stations[x].servedFor e.handle.slot (deadlineDue s.now) = true :=
    servedFor_alone served (by unfold deadlineDue; rw [fresh]; exact decide_eq_true due)
  refine congrArg Host.Outcome.next ((event_due s _ _ high holds).trans ?_)
  rw [updServed_alone served fun k => { k with noted := true }]

end

/-- A station that comes to wait where no other does. -/
theorem arbiterQueue_joined {s : State} {x : StationId} {f : Station → Station} (waits : (f s.stations[x]).waits = true)
    (none : ∀ y : StationId, s.stations[y].waits = false) : (s.updStation x f).arbiterQueue = [x] := by
  refine arbiterQueue_single.mpr fun y => ?_
  rw [updStation_station]
  by_cases e : y = x
  · subst e
    rw [if_pos rfl, waits]
    exact iff_of_true rfl rfl
  · rw [if_neg e, none y]
    exact iff_of_false nofun e

section
variable {s : State} {x : StationId} (hm : s.mode = .guarded) (idle : s.stations[x].state = .idle)
  (demand : s.stations[x].demand = true) (none : ∀ y : StationId, s.stations[y].waits = false)
  (fits : s.drawOf x ≤ s.freeUnits)
include hm idle demand none fits

/-- The demand of a station that stands IDLE with nothing else waiting is granted at once where its units are free. -/
theorem run_station_granted (n : Nat) :
    Work.run (n + 2) (s.begin.push (.station x)) = ((s.updStation x fun q => q.request s.now).grant x).begin :=
  run_station_arbitrated n (judge_request hm idle demand)
    (arbitrate_one hm (arbiterQueue_joined rfl none) ((updStation_drawOf s x _ rfl x).trans_le fits))

theorem finish_station_granted : (s.begin.push (.station x)).finish = (s.updStation x fun q => q.request s.now).grant x := by
  have fuel : Config.deliveryFuel = 999998 + 2 := rfl
  unfold Work.finish
  rw [fuel, run_station_granted hm idle demand none fits]
  rfl

end

theorem finish_station_locked {s : State} {x : StationId} (hm : s.mode = .guarded) (locked : s.stations[x].state = .locked)
    (none : ∀ y : StationId, s.stations[y].waits = false) : (s.begin.push (.station x)).finish = s :=
  finish_station_of_no_waiters (judge_locked hm locked) none

/-- The release of a station that has lost its last demand ends (R106). -/
theorem finish_station_ended {s : State} {x : StationId} (hm : s.mode = .guarded)
    (releasing : s.stations[x].state = .releasing) (calm : s.stations[x].demand = false) (paid : s.stations[x].debt = 0)
    (bare : uncovering s x) (none : ∀ y : StationId, s.stations[y].waits = false) :
    (s.begin.push (.station x)).finish = s.returnUnits x .idle := by
  have paid' : (s.returnUnits x .idle).stations[x].debt = 0 := by
    rw [returnUnits_station, if_pos rfl]
    exact paid
  refine finish_station_of_no_waiters ?_ (updStation_no_waiters none rfl)
  rw [judge_release_end hm releasing calm, stopCovering_bare (w := (s.returnUnits x .idle).begin) bare]
  change ((s.returnUnits x .idle).startPurge x).begin.push .arbiter = _
  rw [startPurge_paid paid']

/-- The demand of an entry that opens at a station that stands IDLE (log row 17). -/
theorem entryOpened_granted {s : State} {x : StationId} {e : Served} (hm : s.mode = .guarded)
    (idle : s.stations[x].state = .idle) (flood : s.stations[x].floodDemand = false)
    (none : ∀ y : StationId, s.stations[y].waits = false) (active : e.active = true) (fits : s.drawOf x ≤ s.freeUnits) :
    ((servedWith s x [e]).begin.push (.station x)).finish = { s with
      stations := updAt s.stations x fun q =>
        { q with
          served := [e], state := .releasing, requestTick := some s.now, releaseStart := some s.now,
          confirm := if q.pressure then .confirmed else .waiting s.now, cutStart := some s.now,
          minRunAt := some (s.now + s.limits.floodMin * 1000), purgeEnd := .none },
      freeUnits := s.freeUnits - s.drawOf x } := by
  have demand : (servedWith s x [e]).stations[x].demand = true := by
    rw [servedWith_station]
    simp [Station.demand, Station.keyed, Station.trackDemand, active]
  rw [finish_station_granted (s := servedWith s x [e]) hm (by rw [servedWith_station]; exact idle) demand
    (by simpa only [servedWith_waits] using none)
    (by rw [servedWith_drawOf]; exact fits), servedWith, updStation_twice, updStation_grant s x _ rfl]
  refine congrArg (fun v => { s with stations := v, freeUnits := s.freeUnits - s.drawOf x }) (updAt_congr s.stations x ?_)
  simp only [granted, Station.request, flood]
  rfl

/-- Settles O36: by the state in which the entry's open and its close find the station. -/
theorem servedEntryEvents : Obligations.ServedEntryEvents := by
  intro s x e high hm served manual flood none
  have none' : ∀ (l : List Served) (y : StationId), (servedWith s x l).stations[y].waits = false := fun l y =>
    (servedWith_waits s x l y).trans (none y)
  refine ⟨fun pending due idle fits => ?_, fun pending due locked => ?_, fun due releasing paid bare => ?_⟩
  · rw [servedEntryOpen_due high served pending due]
    exact congrArg Host.Outcome.next (entryOpened_granted hm idle flood none rfl fits)
  · have here : (servedWith s x [{ e with active := true }]).stations[x].state = .locked := by
      rwa [servedWith_station]
    rw [servedEntryOpen_due high served pending due, finish_station_locked (s := servedWith s x _) hm here (none' _)]
    rfl
  · have calm : (servedWith s x []).stations[x].demand = false := by
      rw [servedWith_station]
      unfold Station.demand Station.keyed
      rw [manual, flood]
      rfl
    have releasing' : (servedWith s x []).stations[x].state = .releasing := by rwa [servedWith_station]
    have paid' : (servedWith s x []).stations[x].debt = 0 := by rwa [servedWith_station]
    rw [servedEntryClose_due high served due,
      finish_station_ended (s := servedWith s x []) hm releasing' calm paid' bare (none' _), servedWith,
      updStation_returnUnits s x _ rfl]
    rfl

/-! ## Keys (R108) -/

theorem leastOf_eq_min? (l : List Nat) : leastOf l = l.min? := by
  have fold : ∀ (l : List Nat) (m : Nat), l.foldl (fun acc n => some (leastWith n acc)) (some m) = some (l.foldl min m) := by
    intro l
    induction l with
    | nil => exact fun _ => rfl
    | cons n l ih => exact fun m => (ih (min n m)).trans (by rw [List.foldl_cons, Nat.min_comm])
  cases l with
  | nil => rfl
  | cons n l => exact fold l n

/-- The ticks that a station's deadline key is the least of: its order's tick, and the deadlines that have not passed. -/
def keyTick (q : Station) (now k : Tick) : Prop :=
  (∃ m, q.manual = some m ∧ k = m.orderTick) ∨ ∃ e ∈ q.served, k = e.deadline ∧ now ≤ e.deadline

theorem mem_keyTicks {q : Station} {now k : Tick} :
    k ∈ (q.manual.map fun m => m.orderTick).toList ++ (q.served.map fun e => e.deadline).filter (fun d => decide (now ≤ d)) ↔
      keyTick q now k := by
  rw [List.mem_append, Option.mem_toList, Option.map_eq_some_iff, List.mem_filter, List.mem_map,
    decide_eq_true_eq]
  refine or_congr (exists_congr fun m => and_congr_right fun _ => eq_comm) ?_
  constructor
  · rintro ⟨⟨e, he, rfl⟩, due⟩
    exact ⟨e, he, rfl, due⟩
  · rintro ⟨e, he, rfl, due⟩
    exact ⟨⟨e, he, rfl⟩, due⟩

theorem leastDeadline_some {q : Station} {now k : Tick} (here : keyTick q now k) (least : ∀ j, keyTick q now j → k ≤ j) :
    q.leastDeadline now = some k := by
  rw [Station.leastDeadline, leastOf_eq_min?, List.min?_eq_some_iff]
  exact ⟨mem_keyTicks.mpr here, fun j hj => least j (mem_keyTicks.mp hj)⟩

theorem leastDeadline_none {q : Station} {now : Tick} (none : ∀ k, ¬keyTick q now k) : q.leastDeadline now = .none := by
  rw [Station.leastDeadline, leastOf_eq_min?, List.min?_eq_none_iff, List.eq_nil_iff_forall_not_mem]
  exact fun k hk => none k (mem_keyTicks.mp hk)

theorem keyed_iff {q : Station} : q.keyed = true ↔ (∃ e ∈ q.served, e.active = true) ∨ q.manual ≠ none := by
  rw [Station.keyed, Station.trackDemand, Bool.or_eq_true, List.any_eq_true, Option.isSome_iff_ne_none]

theorem key_deadline {q : Station} {now k : Tick} (keyed : q.keyed = true) (least : q.leastDeadline now = some k) :
    q.key now = (.deadline, k) := by
  rw [Station.key, if_pos keyed, least]

theorem key_overdue {q : Station} {now : Tick} (keyed : q.keyed = true) (none : q.leastDeadline now = .none) :
    q.key now = (.overdue, q.requestTick.getD 0) := by
  rw [Station.key, if_pos keyed, none]

theorem key_flood {q : Station} {now : Tick} (unkeyed : ¬q.keyed = true) : q.key now = (.flood, q.requestTick.getD 0) := by
  rw [Station.key, if_neg unkeyed]

/-! ## Suspension (R110, R111) -/

theorem unkeyed_iff {q : Station} : q.keyed = false ↔ q.manual = none ∧ ∀ e ∈ q.served, e.active = false := by
  rw [← Bool.not_eq_true, keyed_iff, not_or, not_ne_iff, and_comm]
  simp

theorem eligible_iff {s : State} {y : StationId} : s.eligible y = true ↔
    s.stations[y].state = .releasing ∧ s.stations[y].floodDemand = true ∧ s.stations[y].manual = none ∧
      (∀ e ∈ s.stations[y].served, e.active = false) ∧
      ∃ t, s.stations[y].releaseStart = some t ∧ t + s.limits.floodMin * 1000 ≤ s.now := by
  unfold State.eligible
  rw [Bool.and_eq_true, Bool.and_eq_true, Bool.and_eq_true, beq_iff_eq, Bool.not_eq_true', unkeyed_iff, and_assoc, and_assoc]
  refine and_congr_right fun _ => and_congr_right fun _ => ?_
  rw [and_assoc]
  refine and_congr_right fun _ => and_congr_right fun _ => ?_
  cases s.stations[y].releaseStart with
  | none => exact iff_of_false nofun fun ⟨_, e, _⟩ => nomatch e
  | some t => exact decide_eq_true_iff.trans ⟨fun due => ⟨t, rfl, due⟩, fun ⟨_, e, due⟩ => Option.some.inj e ▸ due⟩

/-- The sum of a filtered list. -/
theorem sum_filter_map {α : Type} (p : α → Bool) (f : α → Nat) (l : List α) :
    ((l.filter p).map f).sum = (l.map fun a => if p a then f a else 0).sum := by
  induction l with
  | nil => rfl
  | cons a l ih =>
    rw [List.map_cons, List.sum_cons, ← ih, List.filter_cons]
    split
    · rw [List.map_cons, List.sum_cons]
    · rw [Nat.zero_add]

/-- The units that the eligible floods hold together. -/
theorem eligible_units (s : State) :
    s.eligibleOrder.foldl (fun n x => n + s.drawOf x) s.freeUnits =
      s.freeUnits + ((List.finRange 24).map fun y => if s.eligible y then s.drawOf y else 0).sum := by
  have fold : ∀ (l : List StationId) (n : Nat), l.foldl (fun n x => n + s.drawOf x) n = n + (l.map s.drawOf).sum := by
    intro l
    induction l with
    | nil => exact fun _ => rfl
    | cons x l ih =>
      intro n
      rw [List.foldl_cons, ih, List.map_cons, List.sum_cons, Nat.add_assoc]
  rw [fold, State.eligibleOrder, ((sortAfter_perm _ _).map s.drawOf).sum_eq, sum_filter_map]

/-- A head that does not fit even with the units of the eligible floods suspends nothing (R110). -/
theorem suspendFor_short {w : Work} {need : Nat}
    (short : w.st.freeUnits + ((List.finRange 24).map fun y => if w.st.eligible y then w.st.drawOf y else 0).sum < need) :
    w.suspendFor need = w := by
  unfold Work.suspendFor
  exact if_pos ((eligible_units w.st).trans_lt short)

theorem arbitrate_flood {s : State} {x : StationId} (head : s.arbiterQueue.head? = some x)
    (flood : (s.stations[x].key s.now).1 = .flood) (short : s.freeUnits < s.drawOf x) : s.begin.arbitrate = s.begin := by
  by_cases hm : s.mode = .guarded
  · rw [arbitrate_guarded hm, grantHeads_flood (w := s.begin) (s := s) rfl head 63 flood short]
  · exact arbitrate_unguarded hm

theorem arbitrate_short {s : State} {x : StationId} (head : s.arbiterQueue.head? = some x) :
    s.freeUnits + ((List.finRange 24).map fun y => if s.eligible y then s.drawOf y else 0).sum < s.drawOf x →
    s.begin.arbitrate = s.begin := by
  by_cases flood : (s.stations[x].key s.now).1 = .flood
  · exact fun short => arbitrate_flood head flood ((Nat.le_add_right _ _).trans_lt short)
  · intro short
    have short' : s.freeUnits < s.drawOf x := (Nat.le_add_right _ _).trans_lt short
    by_cases hm : s.mode = .guarded
    · rw [arbitrate_guarded hm, grantHeads_keyed (w := s.begin) (s := s) rfl head 63 flood short',
        suspendFor_short (w := s.begin) short]
      exact if_neg (not_le.mpr short')
    · exact arbitrate_unguarded hm

/-! ## One flood suspended (R110, R111) -/

/-- The record of a flood release that is suspended. -/
def suspendedState (s : State) (y : StationId) : State :=
  (s.returnUnits y .suspended).updStation y fun q => { q with requestTick := some s.now }

theorem suspendOne_bare {w : Work} {y : StationId} (bare : uncovering w.st y) :
    w.suspendOne y = w.mod fun s => suspendedState s y :=
  stopCovering_bare (w := w.mod fun s => suspendedState s y) bare _

theorem eligibleOrder_single {s : State} {y : StationId} (eligible : s.eligible y = true)
    (only : ∀ z : StationId, z ≠ y → s.eligible z = false) : s.eligibleOrder = [y] := by
  have same := List.perm_ext_iff_of_nodup (eligibleOrder_nodup s) (List.nodup_singleton y)
  refine List.perm_singleton.mp (same.mpr fun z => ?_)
  rw [State.eligibleOrder, (sortAfter_perm _ _).mem_iff, List.mem_filter, List.mem_singleton,
    and_iff_right (List.mem_finRange z)]
  constructor
  · intro holds
    by_contra other
    rw [only z other] at holds
    cases holds
  · rintro rfl
    exact eligible

/-- The one eligible flood is suspended where its units make up for the draw. -/
theorem suspendFor_one {w : Work} {y : StationId} {need : Nat} (eligible : w.st.eligible y = true)
    (only : ∀ z : StationId, z ≠ y → w.st.eligible z = false) (bare : uncovering w.st y) (short : w.st.freeUnits < need)
    (enough : need ≤ w.st.freeUnits + w.st.drawOf y) : w.suspendFor need = w.mod fun s => suspendedState s y := by
  unfold Work.suspendFor
  rw [eligibleOrder_single eligible only]
  exact (if_neg (not_lt.mpr enough)).trans ((if_pos short).trans (suspendOne_bare bare))

theorem suspendedState_station (s : State) (y z : StationId) : (suspendedState s y).stations[z] =
    if z = y then { s.stations[z].released .suspended with requestTick := some s.now } else s.stations[z] := by
  rw [suspendedState, updStation_station, returnUnits_station]
  split <;> rfl

/-- The units of a flood go to the one station that waits, and the flood then waits for them. -/
theorem arbitrate_suspends {s : State} {x y : StationId} (hm : s.mode = .guarded) (queue : s.arbiterQueue = [x])
    (keyed : (s.stations[x].key s.now).1 ≠ .flood) (eligible : s.eligible y = true)
    (only : ∀ z : StationId, z ≠ y → s.eligible z = false) (bare : uncovering s y) (short : s.freeUnits < s.drawOf x)
    (enough : s.drawOf x ≤ s.freeUnits + s.drawOf y) :
    s.begin.arbitrate = ((suspendedState s y).grant x).begin := by
  obtain ⟨releasing, -, manual, pending, -⟩ := eligible_iff.mp eligible
  have waits := arbiterQueue_single.mp queue
  have apart : y ≠ x := by
    intro e
    have w := (waits y).mpr e
    rw [Station.waits, releasing] at w
    cases w
  have here : ((suspendedState s y).grant x).stations[y] =
      { s.stations[y].released .suspended with requestTick := some s.now } := by
    rw [grant_station, if_neg apart, suspendedState_station, if_pos rfl]
  have queue' : ((suspendedState s y).grant x).arbiterQueue = [y] := by
    refine arbiterQueue_single.mpr fun z => ?_
    rw [grant_station]
    by_cases hx : z = x
    · rw [if_pos hx]
      exact iff_of_false nofun fun hy => apart (hy.symm.trans hx)
    · rw [if_neg hx, suspendedState_station]
      by_cases hy : z = y
      · rw [if_pos hy]
        exact iff_of_true rfl hy
      · rw [if_neg hy]
        exact iff_of_false (fun w => hx ((waits z).mp w)) hy
  have flood : (((suspendedState s y).grant x).stations[y].key ((suspendedState s y).grant x).now).1 = .flood := by
    rw [here, key_flood]
    rw [Bool.not_eq_true]
    exact unkeyed_iff.mpr ⟨manual, pending⟩
  have draw : ((suspendedState s y).grant x).drawOf y = s.drawOf y := by
    unfold State.drawOf
    rw [here]
    rfl
  have draw' : (suspendedState s y).drawOf x = s.drawOf x := by
    unfold State.drawOf
    rw [suspendedState_station, if_neg apart.symm]
    rfl
  have short' : ((suspendedState s y).grant x).freeUnits < ((suspendedState s y).grant x).drawOf y := by
    rw [draw]
    change s.freeUnits + s.drawOf y - (suspendedState s y).drawOf x < _
    omega
  have head : s.arbiterQueue.head? = some x := by rw [queue]; rfl
  have head' : ((suspendedState s y).grant x).arbiterQueue.head? = some y := by rw [queue']; rfl
  have suspended := suspendFor_one (w := s.begin) eligible only bare short enough
  rw [arbitrate_guarded hm, grantHeads_keyed (w := s.begin) (s := s) rfl head 63 keyed short, suspended]
  refine (if_pos enough).trans ?_
  exact grantHeads_flood (w := ((suspendedState s y).grant x).begin) rfl head' 62 flood short'

/-! ## Minimum runs and deadlines (R108, R110) -/

/-- A minimum run noted. -/
def runNoted (s : State) (y : StationId) : State := s.updStation y fun q => { q with minRunAt := none }

theorem floodMinimumRun_due {s : State} {y : StationId} {due : Tick} (high : s.resetLow = false)
    (eligible : s.eligible y = true) (runs : s.stations[y].minRunAt = some due) (reached' : due ≤ s.now) :
    exec (.floodMinimumRun y) s = .next ((runNoted s y).begin.push .arbiter).finish := by
  refine congrArg Host.Outcome.next (event_due s _ _ high ?_)
  unfold State.minRunDue
  rw [eligible, runs]
  exact decide_eq_true reached'

theorem runNoted_waits (s : State) (y z : StationId) : (runNoted s y).stations[z].waits = s.stations[z].waits :=
  updStation_waits s y (fun q => { q with minRunAt := none }) rfl z

theorem runNoted_drawOf (s : State) (y z : StationId) : (runNoted s y).drawOf z = s.drawOf z :=
  updStation_drawOf s y (fun q => { q with minRunAt := none }) rfl z

theorem runNoted_eligible (s : State) (y z : StationId) : (runNoted s y).eligible z = s.eligible z := by
  unfold State.eligible runNoted
  rw [updStation_station]
  split <;> rfl

theorem runNoted_queue (s : State) (y : StationId) {x : StationId} (queue : s.arbiterQueue = [x]) :
    (runNoted s y).arbiterQueue = [x] :=
  arbiterQueue_single.mpr fun z => by rw [runNoted_waits, arbiterQueue_single.mp queue]

/-- A flood whose minimum run is noted and that is then suspended: the whole state. -/
theorem suspendedState_runNoted (s : State) (y : StationId) : suspendedState (runNoted s y) y = { s with
    stations := updAt s.stations y fun q =>
      { q with state := .suspended, releaseStart := none, cutStart := none, confirm := .absent, minRunAt := none,
               requestTick := some s.now },
    freeUnits := s.freeUnits + s.drawOf y } := by
  rw [suspendedState, returnUnits_updStation, runNoted_drawOf]
  exact congrArg (fun v => { s with stations := v, freeUnits := s.freeUnits + s.drawOf y })
    (updAt_twice s.stations y (fun q => { q with minRunAt := none }) fun q =>
      { q.released .suspended with requestTick := some s.now })

/-- The end of a minimum run has the flood's units go to the one station that waits. -/
theorem runNoted_suspends {s : State} {x y : StationId} (hm : s.mode = .guarded) (queue : s.arbiterQueue = [x])
    (keyed : (s.stations[x].key s.now).1 ≠ .flood) (eligible : s.eligible y = true)
    (only : ∀ z : StationId, z ≠ y → s.eligible z = false) (bare : uncovering s y) (short : s.freeUnits < s.drawOf x)
    (enough : s.drawOf x ≤ s.freeUnits + s.drawOf y) :
    ((runNoted s y).begin.push .arbiter).finish = { s with
      stations := updAt (updAt s.stations y fun q =>
          { q with state := .suspended, releaseStart := none, cutStart := none, confirm := .absent, minRunAt := none,
                   requestTick := some s.now }) x (granted s),
      freeUnits := s.freeUnits + s.drawOf y - s.drawOf x } := by
  have apart : x ≠ y := by
    rintro rfl
    have waits := (arbiterQueue_single.mp queue x).mpr rfl
    rw [Station.waits, (eligible_iff.mp eligible).1] at waits
    cases waits
  have keyed' : ((runNoted s y).stations[x].key (runNoted s y).now).1 ≠ .flood := by
    rw [runNoted, updStation_station, if_neg apart]
    exact keyed
  have draw : (suspendedState (runNoted s y) y).drawOf x = s.drawOf x := by
    unfold State.drawOf
    rw [suspendedState_station, if_neg apart, runNoted, updStation_station, if_neg apart]
    rfl
  have acted := arbitrate_suspends (s := runNoted s y) hm (runNoted_queue s y queue) keyed'
    (by rw [runNoted_eligible]; exact eligible) (fun z other => by rw [runNoted_eligible]; exact only z other) bare
    (by rw [runNoted_drawOf]; exact short) (by rw [runNoted_drawOf, runNoted_drawOf]; exact enough)
  rw [finish_arbiter acted, State.grant, draw, suspendedState_runNoted]
  rfl

theorem waitingDraw_eq_sum (s : State) :
    waitingDraw s = ((List.finRange 24).map fun y => if s.stations[y].waits then s.drawOf y else 0).sum := by
  rw [waitingDraw, waitingSet, Finset.sum_filter, Fin.sum_univ_def]

theorem servedWith_waitingDraw (s : State) (x : StationId) (l : List Served) :
    waitingDraw (servedWith s x l) = waitingDraw s := by
  unfold waitingDraw waitingSet
  simp only [servedWith_waits, servedWith_drawOf]

/-- Settles O37: the queue by its sorting, the keys and the eligible floods by their definitions, and each action of the
arbiter by what stands at the head. -/
theorem arbiterQueueOrdered : Obligations.ArbiterQueueOrdered := by
  refine ⟨fun s x => mem_arbiterQueue.trans waits_iff, fun s => (arbiterQueue_sorted s).imp placeOf_lt.mp,
    fun s x head flood short => congrArg Work.st (arbitrate_flood head flood short),
    fun s x e high none served fresh due => ?_,
    fun s x start due high none releasing flood manual pending started ran runs late => ?_,
    fun q now => ⟨fun k keyed here least => ?_, fun keyed none => ?_, fun unkeyed => ?_⟩, rfl, fun s y => eligible_iff,
    fun s x head short => congrArg Work.st (arbitrate_short head short),
    fun s x e high hm served fresh due => ?_,
    fun s x y due high hm queue keyed eligible runs late only short enough bare => ?_⟩
  · rw [deadlinePassed_due high served fresh due,
      finish_arbiter_of_no_waiters _ fun y => (servedWith_waits s x _ y).trans (none y)]
    rfl
  · rw [floodMinimumRun_due high (eligible_iff.mpr ⟨releasing, flood, manual, pending, start, started, ran⟩) runs late,
      finish_arbiter_of_no_waiters _ fun y => (runNoted_waits s x y).trans (none y)]
    rfl
  · exact key_deadline (keyed_iff.mpr keyed) (leastDeadline_some here least)
  · exact key_overdue (keyed_iff.mpr keyed) (leastDeadline_none none)
  · exact key_flood fun keyed => unkeyed (keyed_iff.mp keyed)
  · intro taken fits
    have draw : waitingDraw (servedWith s x [{ e with noted := true }]) = taken :=
      (servedWith_waitingDraw s x _).trans (waitingDraw_eq_sum s)
    rw [deadlinePassed_due high served fresh due,
      finish_arbiter (arbitrate_all (s := servedWith s x _) hm (draw.trans_le fits)), grantAll, draw]
    simp only [servedWith, updStation_station]
    rfl
  · rw [floodMinimumRun_due high eligible runs late]
    exact congrArg Host.Outcome.next (runNoted_suspends hm queue keyed eligible only bare short enough)

end Sys2Proof.Laws
end


section
/-! PROOFS. The levels of a zone (08), what a change of level hands over, and the lines that FIRE in a zone shuts down. -/
namespace Sys2Proof.Laws
open Sys2Proof.Machine

/-! ## Levels (R147, R148, R150, R152) -/

theorem computed_eq (q : Zone) : q.computed = if q.live ≠ 0 ∧ q.latched = .normal then .watch else q.latched := by
  have sup : q.latched.sup .watch = if q.latched = .normal then .watch else q.latched := by
    cases q.latched <;> rfl
  unfold Zone.computed
  rw [sup]
  by_cases none : q.live = 0
  · rw [if_pos none, if_neg fun both => both.1 none]
  · rw [if_neg none]
    simp only [ne_eq, none, not_false_eq_true, true_and]

section
variable (s : State) (z : ZoneId)

theorem tempFire_iff : s.tempFire z = true ↔
    ∃ i : TempId, s.temps[i].inUse = true ∧ s.temps[i].zone = z ∧ s.temps[i].fire = true := by
  unfold State.tempFire
  rw [Vector.any_eq_true]
  simp only [Bool.and_eq_true, beq_iff_eq, and_assoc]
  exact ⟨fun ⟨i, hi, h⟩ => ⟨⟨i, hi⟩, h⟩, fun ⟨i, h⟩ => ⟨i.val, i.isLt, h⟩⟩

theorem tempAlarm_iff : s.tempAlarm z = true ↔
    ∃ i : TempId, s.temps[i].inUse = true ∧ s.temps[i].zone = z ∧ s.temps[i].alarm = true := by
  unfold State.tempAlarm
  rw [Vector.any_eq_true]
  simp only [Bool.and_eq_true, beq_iff_eq, and_assoc]
  exact ⟨fun ⟨i, hi, h⟩ => ⟨⟨i, hi⟩, h⟩, fun ⟨i, h⟩ => ⟨i.val, i.isLt, h⟩⟩

theorem standingLevel_eq : s.standingLevel z =
    if (∃ i : TempId, s.temps[i].inUse = true ∧ s.temps[i].zone = z ∧ s.temps[i].fire = true) ∨
        s.zones[z].callActive = true then .fire
    else if (∃ i : TempId, s.temps[i].inUse = true ∧ s.temps[i].zone = z ∧ s.temps[i].alarm = true) ∨
        s.zones[z].escaped ≠ 0 then .alarm
    else .normal := by
  unfold State.standingLevel
  simp only [Bool.or_eq_true, tempFire_iff, tempAlarm_iff, bne_iff_ne]

end

theorem sup_val (a b : Level) : (a.sup b).val = max a.val b.val := by cases a <;> cases b <;> rfl

theorem sup_fire (a : Level) : a.sup .fire = .fire := by cases a <;> rfl

/-- A level that is latched stays latched where another one arrives. -/
theorem fire_sup (a : Level) : Level.fire.sup a = .fire := by cases a <;> rfl

/-! ## What a change of level hands over (R150, R156) -/

/-- A zone at its new level: dated, and ZONE raised. -/
def leveled (s : State) (z : ZoneId) : State :=
  (s.updZone z fun q => { q with level := s.zones[z].computed, levelChanged := some s.now }).raise .zone

theorem recompute_moves {s : State} {z : ZoneId} (moves : s.zones[z].level ≠ s.zones[z].computed) :
    s.begin.recompute z = (leveled s z).begin.push (.zoneLevel z s.zones[z].level s.zones[z].computed) :=
  if_neg moves

/-- The first delivery of an event is acted on, and then those that it has made. -/
theorem finish_first (s : State) (d : Delivery) : ((s.begin.push d).finish) = (Work.run 999999 (s.begin.act d)).st := by
  have fuel : Config.deliveryFuel = 999999 + 1 := rfl
  have first : (s.begin.push d).out = [d] := by
    unfold Work.push
    rw [if_neg (by simp)]
    rfl
  have taken : { s.begin.push d with out := [] } = s.begin := by
    unfold Work.push
    split <;> rfl
  unfold Work.finish
  rw [fuel, run_cons _ _ d [] first, taken]

theorem act_zoneLevel (w : Work) (z : ZoneId) (old new : Level) : w.act (.zoneLevel z old new) =
    ((w.linesSee z new).stationsSee z old new).mod fun s => (s.shuttersSee z new).sirensSee z := rfl

/-! ## The zones of the small steps: a zone at FIRE stays there (R150) -/

/-- A zone that stands at FIRE since a tick, with FIRE latched. -/
def FireSince (since : Option Tick) (q : Zone) : Prop := q.latched = .fire ∧ q.level = .fire ∧ q.levelChanged = since

theorem FireSince.judged {since : Option Tick} {q : Zone} (h : FireSince since q) (now : Tick) :
    FireSince since (judgedZone now q) := by
  obtain ⟨latched, level, changed⟩ := h
  have computed : q.computed = .fire := (computed_fire_iff q).mpr latched
  refine ⟨latched, computed, ?_⟩
  rw [judgedZone, computed, level, if_pos rfl]
  exact changed

theorem FireSince.latch {since : Option Tick} {q : Zone} (h : FireSince since q) (l : Level) :
    FireSince since (q.latch l) := by
  obtain ⟨latched, level, changed⟩ := h
  exact ⟨by rw [Zone.latch, latched, fire_sup], level, changed⟩

section
variable {s : State} {z : ZoneId} {since : Option Tick} (h : FireSince since s.zones[z])
include h

theorem FireSince.updZone {y : ZoneId} {f : Zone → Zone} (keeps : ∀ q, FireSince since q → FireSince since (f q)) :
    FireSince since (s.updZone y f).zones[z] := by
  rcases updAt_cases s.zones y z f with ⟨-, r⟩ | ⟨-, r⟩
  · rw [updZone_zones, r]
    exact keeps _ h
  · rwa [updZone_zones, r]

theorem FireSince.leave (m : Membership) : FireSince since (s.leave m).zones[z] := by
  cases m <;> exact h.updZone fun _ k => k

theorem FireSince.join (m : Membership) : FireSince since (s.join m).zones[z] := by
  cases m <;> exact h.updZone fun _ k => k

end

theorem FireSince.recompute {w : Work} {z : ZoneId} {since : Option Tick} (h : FireSince since w.st.zones[z]) (y : ZoneId) :
    FireSince since (w.recompute y).st.zones[z] := by
  rw [recompute_zone_at]
  split
  · exact h.judged _
  · exact h

theorem FireSince.memberMove {w : Work} {z : ZoneId} {since : Option Tick} (h : FireSince since w.st.zones[z])
    (old new : Option Membership) : FireSince since (w.memberMove old new).st.zones[z] := by
  unfold Work.memberMove
  extract_lets left come told moved
  have hleft : FireSince since left.st.zones[z] := by
    cases old with
    | none => exact h
    | some m => exact h.leave m
  have hcome : FireSince since come.st.zones[z] := by
    cases new with
    | none => exact hleft
    | some m => exact hleft.join m
  clear_value come
  have htold : FireSince since told.st.zones[z] := by
    unfold told
    split
    · exact hcome.updZone fun _ k => k.latch _
    · exact hcome
  clear_value told
  have hmoved : FireSince since moved.st.zones[z] := by
    unfold moved
    cases old with
    | none => exact htold
    | some m => exact htold.recompute m.zone
  clear_value moved
  cases new with
  | none => exact hmoved
  | some m => exact hmoved.recompute m.zone

theorem Quiet.fireSince {s t : State} (k : Quiet s t) {z : ZoneId} {since : Option Tick} (h : FireSince since s.zones[z]) :
    FireSince since t.zones[z] := by
  cases k with
  | raise n => exact h
  | track i f _ _ => exact h
  | member old new => exact h.memberMove (w := s.begin) old new
  | served x l _ => exact h

theorem lineTo_zones (s : State) (l : LineId) (f : Line → Line) : (s.lineTo l f).zones = s.zones := by
  unfold State.lineTo
  dsimp only
  split <;> rfl

theorem checkRunning_zones (s : State) (l : LineId) : (s.checkRunning l).zones = s.zones := by
  unfold State.checkRunning
  split
  · exact lineTo_zones s l _
  · rfl

theorem startLine_zones (s : State) (l : LineId) : (s.startLine l).zones = s.zones := by
  unfold State.startLine
  simp only [checkRunning_zones, lineTo_zones]

theorem sound_of_open {q : Shutter} (up : q.state = .opened ∨ q.state = .opening) : q.state ≠ .fault := by
  rcases up with e | e <;> rw [e] <;> exact ShutterState.noConfusion

theorem sound_of_up {q : Shutter} (up : q.state = .opened ∨ q.state = .opening ∨ q.state = .closing ∨ q.state = .paused) :
    q.state ≠ .fault := by
  rcases up with e | e | e | e <;> rw [e] <;> exact ShutterState.noConfusion

theorem toDropping_sound (q : Shutter) (now : Tick) : (q.toDropping now).state ≠ .fault := ShutterState.noConfusion

theorem Step.fireSince {s t : State} (k : Step s t) {z : ZoneId} {since : Option Tick} (h : FireSince since s.zones[z]) :
    FireSince since t.zones[z] := by
  cases k with
  | quiet k => exact k.fireSince h
  | station x f _ => exact h
  | release x dest _ _ _ => exact h
  | grant x _ _ _ => exact h
  | gate g f _ => exact h
  | coast l c _ _ => rwa [lineTo_zones]
  | unqueue l c _ _ => rwa [lineTo_zones]
  | cold l c _ _ => rwa [lineTo_zones]
  | start l rest _ _ _ => rwa [startLine_zones]
  | close i _ up => rwa [(moveShutter_signalled s i _ (sound_of_open up) (toClosing_state _ _)).zones]
  | drop i up => rwa [(moveShutter_signalled s i _ (sound_of_up up) (toDropping_sound _ _)).zones]
  | sirens y => exact h

theorem Steps.fireSince {s t : State} (k : Steps s t) {z : ZoneId} {since : Option Tick} (h : FireSince since s.zones[z]) :
    FireSince since t.zones[z] :=
  Chain.holds (P := fun u => FireSince since u.zones[z]) (fun _ _ k h => k.fireSince h) k h

/-- FIRE latched in a zone takes it to FIRE, and it stands there when the deliveries have been acted on. -/
theorem finish_burns {s : State} {z : ZoneId} (latched : s.zones[z].latched = .fire) :
    FireSince (if s.zones[z].level = .fire then s.zones[z].levelChanged else some s.now)
      (s.begin.recompute z).finish.zones[z] := by
  refine Steps.fireSince (finish_steps _) ?_
  have computed : s.zones[z].computed = .fire := (computed_fire_iff _).mpr latched
  rw [recompute_zone_at, if_pos rfl]
  refine ⟨latched, computed, ?_⟩
  rw [judgedZone, begin_st, computed]
  exact if_congr eq_comm rfl rfl

/-! ## FIRE shuts the lines of its zone down (R138, R139) -/

/-- A line that FIRE has stopped and that waits in no queue. -/
structure FireStopped (s : State) (l : LineId) : Prop where
  state : s.lines[l].state = .stopped
  cause : s.lines[l].cause = .fire
  unqueued : l ∉ s.startQueue

/-- The start queue holds each line once, and only lines in START_WAIT. -/
structure QueueWaits (s : State) : Prop where
  once : s.startQueue.Nodup
  waits : ∀ l ∈ s.startQueue, s.lines[l].state = .startWait

section
variable {s : State} {l : LineId} (h : QueueWaits s)
include h

theorem QueueWaits.up_unqueued (up : s.lines[l].state = .running ∨ s.lines[l].state = .starting) : l ∉ s.startQueue := by
  intro queued
  rcases up with e | e <;> rw [h.waits l queued] at e <;> cases e

theorem QueueWaits.down_unqueued (down : s.lines[l].state = .stopped ∨ s.lines[l].state = .stopping) :
    l ∉ s.startQueue := by
  intro queued
  rcases down with e | e <;> rw [h.waits l queued] at e <;> cases e

end

theorem FireStopped.not_up {s : State} {l : LineId} (h : FireStopped s l)
    (up : s.lines[l].state = .running ∨ s.lines[l].state = .starting) : False := by
  rcases up with e | e <;> rw [h.state] at e <;> cases e

theorem lineTo_queue (s : State) (l : LineId) (f : Line → Line) : (s.lineTo l f).startQueue = s.startQueue := by
  unfold State.lineTo
  dsimp only
  split <;> rfl

theorem lineTo_line (s : State) (l k : LineId) (f : Line → Line) :
    (s.lineTo l f).lines[k] = if k = l then f s.lines[k] else s.lines[k] := by
  have lines : (s.lineTo l f).lines = updAt s.lines l f := by
    unfold State.lineTo
    dsimp only
    split <;> rfl
  rw [lines]
  rcases updAt_cases s.lines l k f with ⟨e, r⟩ | ⟨e, r⟩
  · rw [r, if_pos e]
  · rw [r, if_neg e]

theorem checkRunning_queue (s : State) (l : LineId) : (s.checkRunning l).startQueue = s.startQueue := by
  unfold State.checkRunning
  split
  · exact lineTo_queue s l _
  · rfl

theorem checkRunning_line (s : State) {l k : LineId} (other : k ≠ l) : (s.checkRunning l).lines[k] = s.lines[k] := by
  unfold State.checkRunning
  split
  · rw [lineTo_line, if_neg other]
  · rfl

theorem startLine_queue (s : State) (l : LineId) : (s.startLine l).startQueue = s.startQueue.erase l := by
  unfold State.startLine
  simp only [checkRunning_queue, lineTo_queue]

theorem startLine_line (s : State) {l k : LineId} (other : k ≠ l) : (s.startLine l).lines[k] = s.lines[k] := by
  unfold State.startLine
  simp only [checkRunning_line _ other, lineTo_line, if_neg other]

theorem moveShutter_lines (s : State) (i : ShutterId) (f : Shutter → Shutter) (before : s.shutters[i].state ≠ .fault)
    (after : (f s.shutters[i]).state ≠ .fault) :
    (s.moveShutter i f).lines = s.lines ∧ (s.moveShutter i f).startQueue = s.startQueue := by
  have rest := (moveShutter_signalled s i f before after).rest
  exact ⟨(congrArg State.lines rest :), (congrArg State.startQueue rest :)⟩

/-- A small step starts lines of the queue and takes lines out of it, and puts none in. -/
structure LinesMove (s t : State) : Prop where
  stopped : ∀ l, FireStopped s l → FireStopped t l
  queue : QueueWaits s → QueueWaits t

theorem LinesMove.of_same {s t : State} (lines : t.lines = s.lines) (queue : t.startQueue = s.startQueue) :
    LinesMove s t where
  stopped l h := ⟨by rw [lines]; exact h.state, by rw [lines]; exact h.cause, by rw [queue]; exact h.unqueued⟩
  queue h := ⟨by rw [queue]; exact h.once, fun l hl => by rw [lines]; exact h.waits l (queue ▸ hl)⟩

/-- A line that is not FireStopped and waits in no queue changes. -/
theorem LinesMove.lineTo {s : State} {l : LineId} {f : Line → Line} (unqueued : QueueWaits s → l ∉ s.startQueue)
    (stays : FireStopped s l → (f s.lines[l]).state = .stopped ∧ (f s.lines[l]).cause = .fire) :
    LinesMove s (s.lineTo l f) where
  stopped k h := by
    refine ⟨?_, ?_, by rw [lineTo_queue]; exact h.unqueued⟩ <;> rw [lineTo_line] <;> split
    · rename_i e
      subst e
      exact (stays h).1
    · exact h.state
    · rename_i e
      subst e
      exact (stays h).2
    · exact h.cause
  queue h := by
    refine ⟨by rw [lineTo_queue]; exact h.once, fun k hk => ?_⟩
    rw [lineTo_queue] at hk
    rw [lineTo_line, if_neg fun e : k = l => unqueued h (e ▸ hk)]
    exact h.waits k hk

/-- A line that stands in no queue any more. -/
theorem LinesMove.erase {s t : State} {l : LineId} (queue : t.startQueue = s.startQueue.erase l)
    (others : ∀ k, k ≠ l → t.lines[k] = s.lines[k]) (running : ¬FireStopped s l) : LinesMove s t where
  stopped k h := by
    have other : k ≠ l := fun e => running (e ▸ h)
    exact ⟨by rw [others k other]; exact h.state, by rw [others k other]; exact h.cause,
      by rw [queue]; exact fun hk => h.unqueued (List.mem_of_mem_erase hk)⟩
  queue h := by
    refine ⟨by rw [queue]; exact h.once.erase l, fun k hk => ?_⟩
    rw [queue, h.once.mem_erase_iff] at hk
    rw [others k hk.1]
    exact h.waits k hk.2

theorem Quiet.linesMove {s t : State} (k : Quiet s t) : LinesMove s t := by
  cases k with
  | raise n => exact .of_same rfl rfl
  | track i f _ _ => exact .of_same rfl rfl
  | member old new =>
    have rest := (memberMove_zonesOnly s.begin old new).rest
    exact .of_same (congrArg State.lines rest :) (congrArg State.startQueue rest :)
  | served x l _ => exact .of_same rfl rfl

theorem Step.linesMove {s t : State} (k : Step s t) : LinesMove s t := by
  cases k with
  | quiet k => exact k.linesMove
  | station x f _ => exact .of_same rfl rfl
  | release x dest _ _ _ => exact .of_same rfl rfl
  | grant x _ _ _ => exact .of_same rfl rfl
  | gate g f _ => exact .of_same rfl rfl
  | coast l c _ up => exact .lineTo (fun h => h.up_unqueued up) fun h => (h.not_up up).elim
  | unqueue l c _ waits =>
    refine .erase (lineTo_queue _ l _) (fun k other => ?_) fun h => ?_
    · rw [lineTo_line, if_neg other]
    · rw [h.state] at waits
      cases waits
  | cold l c _ down =>
    refine .lineTo (fun h => h.down_unqueued down.symm) fun h => ?_
    unfold Line.coldCause
    split
    · exact ⟨rfl, rfl⟩
    · exact ⟨h.state, h.cause⟩
  | start l rest _ head _ =>
    exact .erase (startLine_queue s l) (fun k other => startLine_line s other)
      fun h => h.unqueued (head ▸ List.mem_cons_self)
  | close i _ up =>
    obtain ⟨lines, queue⟩ := moveShutter_lines s i (fun q => q.toClosing s.now) (sound_of_open up) (toClosing_state _ _)
    exact .of_same lines queue
  | drop i up =>
    obtain ⟨lines, queue⟩ := moveShutter_lines s i (fun q => q.toDropping s.now) (sound_of_up up) (toDropping_sound _ _)
    exact .of_same lines queue
  | sirens y => exact .of_same rfl rfl

theorem Steps.linesMove {s t : State} (k : Steps s t) : LinesMove s t :=
  Chain.keeps (fun _ => .of_same rfl rfl)
    (fun _ _ _ h k => ⟨fun l p => k.stopped l (h.stopped l p), fun p => k.queue (h.queue p)⟩) (fun _ _ k => k.linesMove) k

/-! ### A shutdown by the state of the line -/

/-- A waiting line that a cause has taken out of the start queue (R139). -/
def lineLeft (s : State) (l : LineId) (c : StopCause) : State :=
  { s with startQueue := s.startQueue.erase l }.lineTo l fun q => { q with cause := c }.halt

/-- The start queue tested where its head has left it in GUARD (R142). -/
def headLeft (w : Work) (wasHead : Bool) : Work :=
  if wasHead && w.st.mode == .guarded then w.mod State.testStarts else w

section
variable {w : Work} {l : LineId} (c : StopCause)

theorem shutdown_unused (use : w.st.lines[l].inUse = false) : w.shutdown l c = w := by
  unfold Work.shutdown
  rw [use]
  exact if_pos rfl

variable (use : w.st.lines[l].inUse = true)
include use

theorem shutdown_running (state : w.st.lines[l].state = .running ∨ w.st.lines[l].state = .starting) :
    w.shutdown l c = (w.mod fun s => s.lineTo l fun q => q.coast c s.now).driveLineGates l := by
  unfold Work.shutdown
  rw [use]
  rcases state with e | e <;> rw [e] <;> rfl

theorem shutdown_waiting (state : w.st.lines[l].state = .startWait) : w.shutdown l c =
    headLeft ((w.mod fun s => lineLeft s l c).driveLineGates l) (w.st.startQueue.head? == some l) := by
  unfold Work.shutdown
  rw [if_neg (by rw [use]; decide)]
  split
  · rename_i running
    rw [state] at running
    cases running
  · rename_i starting
    rw [state] at starting
    cases starting
  · unfold headLeft lineLeft
    rfl
  · rename_i no
    exact absurd state no

theorem shutdown_cold (state : w.st.lines[l].state = .stopped ∨ w.st.lines[l].state = .stopping) :
    w.shutdown l c = w.mod fun s => s.lineTo l fun q => q.coldCause c := by
  unfold Work.shutdown
  rw [use]
  rcases state with e | e <;> rw [e] <;> rfl

end

theorem lineState_cases (q : LineState) :
    (q = .running ∨ q = .starting) ∨ q = .startWait ∨ (q = .stopped ∨ q = .stopping) := by
  cases q <;> simp

theorem headLeft_steps (w : Work) (wasHead : Bool) : Steps w.st (headLeft w wasHead).st := by
  unfold headLeft
  split
  · rename_i tests
    rw [Bool.and_eq_true, beq_iff_eq] at tests
    exact testStarts_steps w.st tests.2
  · exact .refl _

/-- FIRE stops a line in use, whatever its state (R139, R140). -/
theorem shutdown_fire {w : Work} {l : LineId} (queue : QueueWaits w.st) (use : w.st.lines[l].inUse = true) :
    FireStopped (w.shutdown l .fire).st l := by
  have halted : ∀ {f : Line → Line}, (f w.st.lines[l]).state = .stopped → (f w.st.lines[l]).cause = .fire →
      l ∉ w.st.startQueue → FireStopped (w.st.lineTo l f) l := by
    intro f state cause unqueued
    refine ⟨?_, ?_, by rwa [lineTo_queue]⟩
    · rwa [lineTo_line, if_pos rfl]
    · rwa [lineTo_line, if_pos rfl]
  rcases lineState_cases w.st.lines[l].state with up | waits | down
  · rw [shutdown_running .fire use up]
    exact (Steps.linesMove (driveLineGates_steps _ l)).stopped l (halted rfl rfl (queue.up_unqueued up))
  · rw [shutdown_waiting .fire use waits]
    have left : FireStopped (lineLeft w.st l .fire) l := by
      refine ⟨?_, ?_, ?_⟩
      · rw [lineLeft, lineTo_line, if_pos rfl]
        rfl
      · rw [lineLeft, lineTo_line, if_pos rfl]
        rfl
      · rw [lineLeft, lineTo_queue]
        exact queue.once.not_mem_erase
    have freed := (Steps.linesMove (driveLineGates_steps (w.mod fun s => lineLeft s l .fire) l)).stopped l left
    exact (Steps.linesMove (headLeft_steps _ _)).stopped l freed
  · rw [shutdown_cold .fire use down]
    exact halted rfl rfl (queue.down_unqueued down)

theorem linesSee_stops {w : Work} (z : ZoneId) (queue : QueueWaits w.st) {l : LineId} (use : w.st.lines[l].inUse = true)
    (holds : inSet w.st.lines[l].zones z.val = true) : FireStopped (w.linesSee z .fire).st l := by
  unfold Work.linesSee
  rw [if_pos rfl]
  have step : ∀ (w : Work) (k : LineId),
      Steps w.st (if inSet w.st.lines[k].zones z.val then w.shutdown k .fire else w).st := by
    intro w k
    split
    · exact shutdown_steps w k .fire
    · exact .refl _
  have all : ∀ (ls : List LineId) (w : Work), l ∈ ls → QueueWaits w.st → w.st.lines[l].inUse = true →
      inSet w.st.lines[l].zones z.val = true →
      FireStopped (ls.foldl (fun w k => if inSet w.st.lines[k].zones z.val then w.shutdown k .fire else w) w).st l := by
    intro ls
    induction ls with
    | nil => exact fun _ no => nomatch no
    | cons k ls ih =>
      intro w here queue use holds
      rw [List.foldl_cons]
      by_cases e : l = k
      · subst e
        refine (Steps.linesMove (foldl_chain _ ls step _)).stopped l ?_
        rw [if_pos holds]
        exact shutdown_fire queue use
      · have moved := step w k
        have kept := moved.kept.lines l
        refine ih _ ((List.mem_cons.mp here).resolve_left e) (moved.linesMove.queue queue) ?_ ?_
        · rw [kept.inUse]
          exact use
        · rw [kept.zones]
          exact holds
  exact all _ w (List.mem_finRange l) queue use holds

/-! ## What the lines leave alone -/

/-- A state that differs from another in its lines, gates and start queue and in the notices raised. -/
structure LinesOnly (s t : State) : Prop where
  rest : { t with gates := s.gates, lines := s.lines, startQueue := s.startQueue, startList := s.startList,
                  notices := s.notices } = s

theorem LinesOnly.same (s : State) : LinesOnly s s := ⟨rfl⟩

theorem LinesOnly.trans {s t u : State} (h : LinesOnly s t) (k : LinesOnly t u) : LinesOnly s u :=
  ⟨(congrArg (fun v : State => { v with gates := s.gates, lines := s.lines, startQueue := s.startQueue,
                                        startList := s.startList, notices := s.notices }) k.rest).trans h.rest⟩

theorem lineTo_linesOnly (s : State) (l : LineId) (f : Line → Line) : LinesOnly s (s.lineTo l f) := by
  unfold State.lineTo
  dsimp only
  split <;> exact ⟨rfl⟩

theorem startLine_linesOnly (s : State) (l : LineId) : LinesOnly s (s.startLine l) := by
  have taken : LinesOnly s { s with startQueue := s.startQueue.erase l, startList := s.recentStarts ++ [s.now] } := ⟨rfl⟩
  unfold State.startLine State.checkRunning
  dsimp only
  split
  · exact (taken.trans (lineTo_linesOnly _ l _)).trans (lineTo_linesOnly _ l _)
  · exact taken.trans (lineTo_linesOnly _ l _)

theorem startHeads_linesOnly (n : Nat) (s : State) : LinesOnly s (State.startHeads n s) := by
  induction n generalizing s with
  | zero => exact .same s
  | succ n ih =>
    unfold State.startHeads
    split
    · exact .same s
    · split
      · exact (startLine_linesOnly s _).trans (ih _)
      · exact .same s

theorem driveAbort_linesOnly (w : Work) (g : GateId) : LinesOnly w.st (w.driveAbort g).st := by
  unfold Work.driveAbort Work.travelGate
  split
  · rw [push_st, push_st]
    exact ⟨rfl⟩
  · rw [push_st, push_st]
    exact ⟨rfl⟩
  · exact .same _

theorem driveLineGates_linesOnly (w : Work) (l : LineId) : LinesOnly w.st (w.driveLineGates l).st := by
  unfold Work.driveLineGates
  refine foldl_related (R := fun v w : Work => LinesOnly v.st w.st) (fun _ => .same _) .trans (fun w g => ?_) _ w
  dsimp only
  split
  · exact driveAbort_linesOnly w g
  · exact .same _

theorem lineLeft_linesOnly (s : State) (l : LineId) (c : StopCause) : LinesOnly s (lineLeft s l c) := by
  have left : LinesOnly s { s with startQueue := s.startQueue.erase l } := ⟨rfl⟩
  exact left.trans (lineTo_linesOnly _ l _)

theorem headLeft_linesOnly (w : Work) (wasHead : Bool) : LinesOnly w.st (headLeft w wasHead).st := by
  unfold headLeft
  split
  · exact startHeads_linesOnly _ w.st
  · exact .same _

theorem shutdown_linesOnly (w : Work) (l : LineId) (c : StopCause) : LinesOnly w.st (w.shutdown l c).st := by
  by_cases use : w.st.lines[l].inUse = true
  · rcases lineState_cases w.st.lines[l].state with up | waits | down
    · rw [shutdown_running c use up]
      have coasts := lineTo_linesOnly w.st l fun q => q.coast c w.st.now
      exact coasts.trans (driveLineGates_linesOnly (w.mod fun s => s.lineTo l fun q => q.coast c s.now) l)
    · rw [shutdown_waiting c use waits]
      have freed := (lineLeft_linesOnly w.st l c).trans (driveLineGates_linesOnly (w.mod fun s => lineLeft s l c) l)
      exact freed.trans (headLeft_linesOnly _ _)
    · rw [shutdown_cold c use down]
      exact lineTo_linesOnly w.st l _
  · rw [shutdown_unused c (Bool.not_eq_true _ ▸ use)]
    exact .same _

theorem linesSee_linesOnly (w : Work) (z : ZoneId) (new : Level) : LinesOnly w.st (w.linesSee z new).st := by
  unfold Work.linesSee
  split
  · refine foldl_related (R := fun v w : Work => LinesOnly v.st w.st) (fun _ => .same _) .trans (fun w l => ?_) _ w
    split
    · exact shutdown_linesOnly w l .fire
    · exact .same _
  · exact .same _

theorem linesSee_below {w : Work} (z : ZoneId) {new : Level} (below : new ≠ .fire) : w.linesSee z new = w := if_neg below

/-- A zone that no line holds has none shut down. -/
theorem linesSee_none {w : Work} {z : ZoneId} (none : ∀ l : LineId, inSet w.st.lines[l].zones z.val = false) (new : Level) :
    w.linesSee z new = w := by
  unfold Work.linesSee
  split
  · exact foldl_same _ w fun l _ => if_neg (by rw [none l]; exact Bool.false_ne_true)
  · rfl

end Sys2Proof.Laws
end


section
/-! PROOFS. How far a change of level reaches among the flood stations and the shutters of the zone (R104, R156, R161 to
R163). -/
namespace Sys2Proof.Laws
open Sys2Proof.Machine

/-! ## The flood stations of a zone (R104) -/

/-- A flood station in use that lies in a zone. -/
def floodsIn (s : State) (z : ZoneId) (x : StationId) : Prop :=
  s.stations[x].inUse = true ∧ s.stations[x].flood = true ∧ s.zoneOfPlaced (.station x) = some z

/-- One station told of a change to FIRE or from it. -/
def floodSeen (z : ZoneId) (new : Level) (w : Work) (x : StationId) : Work :=
  if w.st.stations[x].inUse && w.st.stations[x].flood && w.st.zoneOfPlaced (.station x) == some z then
    (w.mod fun s => s.updStation x fun q => { q with floodDemand := decide (new = .fire) }).push (.station x)
  else w

theorem stationsSee_eq (w : Work) (z : ZoneId) (old new : Level) : w.stationsSee z old new =
    if old = .fire ∨ new = .fire then (List.finRange 24).foldl (floodSeen z new) w else w := rfl

theorem floodSeen_in {z : ZoneId} {new : Level} {w : Work} {x : StationId} (lies : floodsIn w.st z x) : floodSeen z new w x =
    (w.mod fun s => s.updStation x fun q => { q with floodDemand := decide (new = .fire) }).push (.station x) := by
  obtain ⟨use, flood, zone⟩ := lies
  unfold floodSeen
  rw [use, flood, zone, if_pos (by simp)]

theorem floodSeen_out {z : ZoneId} {new : Level} {w : Work} {x : StationId} (lies : ¬floodsIn w.st z x) :
    floodSeen z new w x = w := by
  unfold floodSeen
  refine if_neg fun holds => lies ?_
  rw [Bool.and_eq_true, Bool.and_eq_true, beq_iff_eq] at holds
  obtain ⟨⟨use, flood⟩, zone⟩ := holds
  exact ⟨use, flood, zone⟩

/-- What a station's record and its zone are, read together. -/
def placedStation (w : Work) (x : StationId) : Station × Option ZoneId :=
  (w.st.stations[x], w.st.zoneOfPlaced (.station x))

/-- A record with its zone, told of a change of the zone's level. -/
def floodTold (z : ZoneId) (new : Level) (p : Station × Option ZoneId) : Station × Option ZoneId :=
  if p.1.inUse = true ∧ p.1.flood = true ∧ p.2 = some z then ({ p.1 with floodDemand := decide (new = .fire) }, p.2) else p

theorem floodSeen_place (z : ZoneId) (new : Level) (w : Work) (x y : StationId) :
    placedStation (floodSeen z new w x) y = if y = x then floodTold z new (placedStation w y) else placedStation w y := by
  by_cases lies : floodsIn w.st z x
  · rw [floodSeen_in lies]
    unfold placedStation
    rw [push_st, mod_st, updStation_station]
    by_cases e : y = x
    · subst e
      rw [if_pos rfl, if_pos rfl]
      exact (if_pos lies).symm
    · rw [if_neg e, if_neg e]
      rfl
  · rw [floodSeen_out lies]
    by_cases e : y = x
    · subst e
      rw [if_pos rfl]
      exact (if_neg lies).symm
    · rw [if_neg e]

/-- A state that differs from another in its stations. -/
structure StationsOnly (s t : State) : Prop where
  rest : { t with stations := s.stations } = s

theorem StationsOnly.same (s : State) : StationsOnly s s := ⟨rfl⟩

theorem StationsOnly.trans {s t u : State} (h : StationsOnly s t) (k : StationsOnly t u) : StationsOnly s u :=
  ⟨(congrArg (fun v : State => { v with stations := s.stations }) k.rest).trans h.rest⟩

theorem StationsOnly.eq {s t : State} (h : StationsOnly s t) : t = { s with stations := t.stations } :=
  (congrArg (fun v : State => { v with stations := t.stations }) h.rest :)

theorem floodSeen_stationsOnly (z : ZoneId) (new : Level) (w : Work) (x : StationId) :
    StationsOnly w.st (floodSeen z new w x).st := by
  by_cases lies : floodsIn w.st z x
  · rw [floodSeen_in lies, push_st]
    exact ⟨rfl⟩
  · rw [floodSeen_out lies]
    exact .same _

theorem stationsSee_stationsOnly (w : Work) (z : ZoneId) (old new : Level) :
    StationsOnly w.st (w.stationsSee z old new).st := by
  rw [stationsSee_eq]
  split
  · exact foldl_related (R := fun v w : Work => StationsOnly v.st w.st) (fun _ => .same _) .trans
      (floodSeen_stationsOnly z new) _ w
  · exact .same _

/-- Flood demand follows the changes to FIRE and from it (R104, R156). -/
theorem stationsSee_stations (w : Work) (z : ZoneId) (old new : Level) (x : StationId) :
    (w.stationsSee z old new).st.stations[x] =
      if (old = .fire ∨ new = .fire) ∧ w.st.stations[x].inUse = true ∧ w.st.stations[x].flood = true ∧
          w.st.zoneOfPlaced (.station x) = some z then
        { w.st.stations[x] with floodDemand := decide (new = .fire) }
      else w.st.stations[x] := by
  rw [stationsSee_eq]
  by_cases fire : old = .fire ∨ new = .fire
  · rw [if_pos fire]
    have told := foldl_places (read := placedStation) (floodSeen_place z new) (List.nodup_finRange 24) w x
    rw [if_pos (List.mem_finRange x)] at told
    refine (congrArg Prod.fst told).trans ?_
    unfold floodTold
    by_cases lies : floodsIn w.st z x
    · exact (congrArg Prod.fst (if_pos lies)).trans (if_pos ⟨fire, lies⟩).symm
    · exact (congrArg Prod.fst (if_neg lies)).trans (if_neg fun both => lies both.2).symm
  · rw [if_neg fire]
    exact (if_neg fun both => fire both.1).symm

theorem stationsSee_whole (w : Work) (z : ZoneId) (old new : Level) : (w.stationsSee z old new).st = { w.st with
    stations := Vector.ofFn fun x : StationId =>
      if (old = .fire ∨ new = .fire) ∧ w.st.stations[x].inUse = true ∧ w.st.stations[x].flood = true ∧
          w.st.zoneOfPlaced (.station x) = some z then
        { w.st.stations[x] with floodDemand := decide (new = .fire) }
      else w.st.stations[x] } := by
  rw [(stationsSee_stationsOnly w z old new).eq]
  refine congrArg (fun v => { w.st with stations := v }) (Vector.ext fun i hi => ?_)
  rw [Vector.getElem_ofFn]
  exact stationsSee_stations w z old new ⟨i, hi⟩

/-- A change of level that no flood station hears of. -/
theorem stationsSee_none {w : Work} {z : ZoneId} {old new : Level}
    (none : old = .fire ∨ new = .fire → ∀ x : StationId, ¬floodsIn w.st z x) : w.stationsSee z old new = w := by
  rw [stationsSee_eq]
  split
  · rename_i fire
    exact foldl_same _ w fun x _ => floodSeen_out (none fire x)
  · rfl

/-- A fold in which one element alone does anything. -/
theorem foldl_one {α β : Type} {f : β → α → β} {l : List α} {a : α} {b : β} (once : l.Nodup) (here : a ∈ l)
    (before : ∀ c, c ≠ a → f b c = b) (after : ∀ c, c ≠ a → f (f b a) c = f b a) : l.foldl f b = f b a := by
  obtain ⟨p, q, rfl⟩ := List.append_of_mem here
  have apart := List.nodup_middle.mp once
  have new : a ∉ p ++ q := (List.nodup_cons.mp apart).1
  rw [List.foldl_append, foldl_same p b fun c hc => before c fun e => new (e ▸ List.mem_append_left q hc), List.foldl_cons]
  exact foldl_same q _ fun c hc => after c fun e => new (e ▸ List.mem_append_right p hc)

/-- FIRE in a zone with one flood station. -/
theorem stationsSee_one {w : Work} {z : ZoneId} {old : Level} {x : StationId} (lies : floodsIn w.st z x)
    (only : ∀ y : StationId, y ≠ x → ¬floodsIn w.st z y) : w.stationsSee z old .fire =
      (w.mod fun s => s.updStation x fun q => { q with floodDemand := true }).push (.station x) := by
  rw [stationsSee_eq, if_pos (Or.inr rfl), foldl_one (List.nodup_finRange 24) (List.mem_finRange x)
    (fun y other => floodSeen_out (only y other)), floodSeen_in lies]
  · rfl
  · refine fun y other => floodSeen_out fun told => only y other ?_
    have place := floodSeen_place z .fire w x y
    rw [if_neg other] at place
    have record : (floodSeen z .fire w x).st.stations[y] = w.st.stations[y] := congrArg Prod.fst place
    have zone : (floodSeen z .fire w x).st.zoneOfPlaced (.station y) = w.st.zoneOfPlaced (.station y) :=
      congrArg Prod.snd place
    obtain ⟨use, flood, here⟩ := told
    exact ⟨record ▸ use, record ▸ flood, zone ▸ here⟩

/-! ## The shutters of a zone (R156, R161 to R163) -/

/-- A shutter with a side in a zone. -/
def sidesOn (q : Shutter) (z : ZoneId) : Prop := q.sideA = z ∨ q.sideB = some z

/-- A shutter that a change to FIRE leaves. -/
def fallen (q : Shutter) : Prop := q.state = .closed ∨ q.state = .dropping ∨ q.state = .fault

/-- One shutter sees a change of level. -/
def shutterSeen (z : ZoneId) (new : Level) (s : State) (i : ShutterId) : State :=
  if s.shutters[i].sideA = z ∨ s.shutters[i].sideB = some z then
    if new = .fire ∨ s.sideBurns s.shutters[i] = true then s.dropShutter i else s.judgeShutter i
  else s

theorem shuttersSee_eq (s : State) (z : ZoneId) (new : Level) :
    s.shuttersSee z new = (List.finRange 12).foldl (shutterSeen z new) s := rfl

theorem moveShutter_sound {s : State} {i : ShutterId} {f : Shutter → Shutter} (before : s.shutters[i].state ≠ .fault)
    (after : (f s.shutters[i]).state ≠ .fault) : s.moveShutter i f =
      if s.shutters[i].entered (f s.shutters[i]) then (s.updShutter i f).raise .shutter else s.updShutter i f := by
  have same : ((s.shutters[i].state == .fault) == ((f s.shutters[i]).state == .fault)) = true := by
    rw [beq_eq_false_iff_ne.mpr before, beq_eq_false_iff_ne.mpr after]
    rfl
  have record : (s.updShutter i fun _ => f s.shutters[i]) = s.updShutter i f :=
    congrArg (fun v => { s with shutters := v }) (updAt_congr s.shutters i rfl)
  unfold State.moveShutter
  dsimp only
  rw [same, Bool.true_or, if_pos rfl, record]

theorem moveShutter_shutter {s : State} {i : ShutterId} {f : Shutter → Shutter} (before : s.shutters[i].state ≠ .fault)
    (after : (f s.shutters[i]).state ≠ .fault) (j : ShutterId) : (s.moveShutter i f).shutters[j] =
      if j = i then f s.shutters[j] else s.shutters[j] := by
  have shutters : (s.moveShutter i f).shutters = updAt s.shutters i f := by
    rw [moveShutter_sound before after]
    split <;> rfl
  rw [shutters]
  rcases updAt_cases s.shutters i j f with ⟨e, r⟩ | ⟨e, r⟩
  · rw [r, if_pos e]
  · rw [r, if_neg e]

theorem dropShutter_fallen {s : State} {i : ShutterId} (down : fallen s.shutters[i]) : s.dropShutter i = s := by
  unfold State.dropShutter
  rcases down with e | e | e <;> rw [e]

theorem dropShutter_up {s : State} {i : ShutterId} (up : ¬fallen s.shutters[i]) :
    s.dropShutter i = s.moveShutter i fun h => h.toDropping s.now := by
  unfold State.dropShutter
  split
  case h_5 c o p g =>
    refine absurd ?_ up
    unfold fallen
    revert c o p g
    cases s.shutters[i].state <;> simp
  all_goals rfl

theorem judgeShutter_calm {s : State} {i : ShutterId} (calm : s.shutterDemand s.shutters[i] = false) :
    s.judgeShutter i = s := by
  unfold State.judgeShutter
  exact if_neg (by rw [calm, Bool.false_and]; exact Bool.false_ne_true)

theorem judgeShutter_set {s : State} {i : ShutterId} (opened : s.shutters[i].state ≠ .opened)
    (opening : s.shutters[i].state ≠ .opening) : s.judgeShutter i = s := by
  unfold State.judgeShutter
  refine if_neg ?_
  rw [beq_eq_false_iff_ne.mpr opened, beq_eq_false_iff_ne.mpr opening, Bool.or_false, Bool.and_false]
  exact Bool.false_ne_true

theorem sideBurns_iff {s : State} {q : Shutter} : s.sideBurns q = true ↔
    s.zones[q.sideA].level = .fire ∨ ∃ y, q.sideB = some y ∧ s.zones[y].level = .fire := by
  unfold State.sideBurns
  rw [Bool.or_eq_true, beq_iff_eq]
  refine or_congr .rfl ?_
  cases q.sideB with
  | none => exact iff_of_false nofun fun ⟨_, e, _⟩ => nomatch e
  | some y => exact beq_iff_eq.trans ⟨fun e => ⟨y, rfl, e⟩, fun ⟨_, same, e⟩ => Option.some.inj same ▸ e⟩

theorem sideHigh_iff {s : State} {q : Shutter} : s.sideHigh q = true ↔
    q.closeLevel.val ≤ s.zones[q.sideA].level.val ∨
      ∃ y, q.sideB = some y ∧ q.closeLevel.val ≤ s.zones[y].level.val := by
  unfold State.sideHigh Level.atLeast
  rw [Bool.or_eq_true, decide_eq_true_eq]
  refine or_congr .rfl ?_
  cases q.sideB with
  | none => exact iff_of_false nofun fun ⟨_, e, _⟩ => nomatch e
  | some y => exact decide_eq_true_iff.trans ⟨fun e => ⟨y, rfl, e⟩, fun ⟨_, same, e⟩ => Option.some.inj same ▸ e⟩

theorem shutterDemand_granted {s : State} {q : Shutter} (hm : s.mode = .guarded) (granted : q.granted = true) :
    s.shutterDemand q = s.sideHigh q := by
  unfold State.shutterDemand
  rw [hm, granted]
  rfl

theorem shutterSeen_apart {s : State} {z : ZoneId} {new : Level} {i : ShutterId} (apart : ¬sidesOn s.shutters[i] z) :
    shutterSeen z new s i = s := if_neg apart

theorem shutterSeen_burns {s : State} {z : ZoneId} {i : ShutterId} (side : sidesOn s.shutters[i] z) :
    shutterSeen z .fire s i = s.dropShutter i := (if_pos side).trans (if_pos (.inl rfl))

theorem shutterSeen_judged {s : State} {z : ZoneId} {new : Level} {i : ShutterId} (side : sidesOn s.shutters[i] z)
    (below : new ≠ .fire) (cool : ¬s.sideBurns s.shutters[i] = true) : shutterSeen z new s i = s.judgeShutter i :=
  (if_pos side).trans (if_neg (not_or.mpr ⟨below, cool⟩))

/-- A shutter that stands CLOSED, drops or has failed sees no change of level. -/
theorem shutterSeen_fallen {s : State} {z : ZoneId} {new : Level} {i : ShutterId} (down : fallen s.shutters[i]) :
    shutterSeen z new s i = s := by
  have judged : s.judgeShutter i = s := by
    refine judgeShutter_set (fun e => ?_) fun e => ?_ <;>
    · unfold fallen at down
      rw [e] at down
      simp at down
  unfold shutterSeen
  rw [dropShutter_fallen down, judged, ite_self, ite_self]

/-- A change of level below FIRE that moves no shutter. -/
theorem shuttersSee_calm {s : State} {z : ZoneId} {new : Level} (hm : s.mode = .guarded) (below : new ≠ .fire)
    (calm : ∀ i : ShutterId, sidesOn s.shutters[i] z → fallen s.shutters[i] ∨ ¬s.sideBurns s.shutters[i] = true ∧
      (s.shutters[i].state = .closing ∨ s.shutters[i].state = .paused ∨
        s.shutters[i].granted = true ∧ ¬s.sideHigh s.shutters[i] = true)) : s.shuttersSee z new = s := by
  rw [shuttersSee_eq]
  refine foldl_same _ s fun i _ => ?_
  by_cases side : sidesOn s.shutters[i] z
  · rcases calm i side with down | ⟨cool, set⟩
    · exact shutterSeen_fallen down
    · rw [shutterSeen_judged side below cool]
      rcases set with closing | paused | ⟨granted, low⟩
      · exact judgeShutter_set (by rw [closing]; decide) (by rw [closing]; decide)
      · exact judgeShutter_set (by rw [paused]; decide) (by rw [paused]; decide)
      · exact judgeShutter_calm ((shutterDemand_granted hm granted).trans (Bool.not_eq_true _ ▸ low))
  · exact shutterSeen_apart side

theorem shuttersSee_none {s : State} {z : ZoneId} (none : ∀ i : ShutterId, ¬sidesOn s.shutters[i] z) (new : Level) :
    s.shuttersSee z new = s := by
  rw [shuttersSee_eq]
  exact foldl_same _ s fun i _ => shutterSeen_apart (none i)

/-! ### FIRE drops shutters (R163) -/

/-- A shutter as FIRE at one of its sides leaves it. -/
def droppedBy (now : Tick) (q : Shutter) : Shutter :=
  if q.state = .closed ∨ q.state = .dropping ∨ q.state = .fault then q else q.toDropping now

/-- A shutter's record and the tick, read together. -/
def timedShutter (s : State) (i : ShutterId) : Shutter × Tick := (s.shutters[i], s.now)

/-- A shutter told of FIRE in a zone. -/
def fireTold (z : ZoneId) (p : Shutter × Tick) : Shutter × Tick :=
  if p.1.sideA = z ∨ p.1.sideB = some z then (droppedBy p.2 p.1, p.2) else p

theorem shutterSeen_fire (z : ZoneId) (s : State) (i j : ShutterId) : timedShutter (shutterSeen z .fire s i) j =
    if j = i then fireTold z (timedShutter s j) else timedShutter s j := by
  by_cases side : sidesOn s.shutters[i] z
  · have told : fireTold z (timedShutter s i) = (droppedBy s.now s.shutters[i], s.now) := if_pos side
    rw [shutterSeen_burns side]
    by_cases down : fallen s.shutters[i]
    · have stays : droppedBy s.now s.shutters[i] = s.shutters[i] := if_pos down
      rw [dropShutter_fallen down]
      split
      · rename_i e
        rw [e, told, stays]
        rfl
      · rfl
    · have sound : s.shutters[i].state ≠ .fault := fun e => down (.inr (.inr e))
      have drops : droppedBy s.now s.shutters[i] = s.shutters[i].toDropping s.now := if_neg down
      have after := toDropping_sound s.shutters[i] s.now
      have now : (s.moveShutter i fun h => h.toDropping s.now).now = s.now :=
        (congrArg State.now (moveShutter_signalled s i (fun h => h.toDropping s.now) sound after).rest :)
      rw [dropShutter_up down]
      unfold timedShutter at told ⊢
      rw [moveShutter_shutter sound after, now]
      split
      · rename_i e
        rw [e, told, drops]
      · rfl
  · have told : fireTold z (timedShutter s i) = timedShutter s i := if_neg side
    rw [shutterSeen_apart side]
    split
    · rename_i e
      rw [e, told]
    · rfl

theorem shuttersSee_fire {s : State} {z : ZoneId} {i : ShutterId} (side : sidesOn s.shutters[i] z) :
    (s.shuttersSee z .fire).shutters[i] = droppedBy s.now s.shutters[i] := by
  have told := foldl_places (read := timedShutter) (shutterSeen_fire z) (List.nodup_finRange 12) s i
  rw [if_pos (List.mem_finRange i)] at told
  rw [shuttersSee_eq]
  exact (congrArg Prod.fst told).trans (congrArg Prod.fst (if_pos side))

theorem droppedBy_fallen (now : Tick) (q : Shutter) : fallen (droppedBy now q) := by
  unfold droppedBy
  split
  · rename_i down
    exact down
  · exact .inr (.inl rfl)

/-! ### ALARM closes shutters (R162) -/

/-- A fold that changes each shutter by itself. -/
theorem foldl_shutters {s : State} {f : State → ShutterId → State} {g : Shutter → Shutter}
    (step : ∀ (v : Vector Shutter 12) (i : ShutterId), v[i] = s.shutters[i] →
      f { s with shutters := v } i = { s with shutters := updAt v i g }) :
    (List.finRange 12).foldl f s = { s with shutters := Vector.ofFn fun i : ShutterId => g s.shutters[i] } := by
  have all : ∀ (l : List ShutterId) (v : Vector Shutter 12), l.Nodup → (∀ i ∈ l, v[i] = s.shutters[i]) →
      l.foldl f { s with shutters := v } = { s with shutters := l.foldl (fun v i => updAt v i g) v } := by
    intro l
    induction l with
    | nil => exact fun _ _ _ => rfl
    | cons i l ih =>
      intro v once same
      obtain ⟨new, once⟩ := List.nodup_cons.mp once
      rw [List.foldl_cons, step v i (same i List.mem_cons_self), List.foldl_cons]
      refine ih _ once fun j hj => ?_
      rw [updAt_other v i j g fun e => new (e ▸ hj)]
      exact same j (List.mem_cons_of_mem i hj)
  have place : ∀ (v : Vector Shutter 12) (i j : ShutterId), (updAt v i g)[j] = if j = i then g v[j] else v[j] := by
    intro v i j
    rcases updAt_cases v i j g with ⟨e, r⟩ | ⟨e, r⟩
    · rw [r, if_pos e]
    · rw [r, if_neg e]
  refine (all _ s.shutters (List.nodup_finRange 12) fun _ _ => rfl).trans ?_
  refine congrArg (fun v => { s with shutters := v }) (Vector.ext fun i hi => ?_)
  rw [Vector.getElem_ofFn]
  have told := foldl_places (read := fun (v : Vector Shutter 12) (i : ShutterId) => v[i]) place (List.nodup_finRange 12)
    s.shutters ⟨i, hi⟩
  rwa [if_pos (List.mem_finRange _)] at told

/-- A shutter that ALARM in a zone closes. -/
def alarmTold (z : ZoneId) (now : Tick) (q : Shutter) : Shutter :=
  if (q.sideA = z ∨ q.sideB = some z) ∧ q.closeLevel = .alarm ∧ (q.state = .opened ∨ q.state = .opening) then
    { q with state := .closing, travel := .running (now + q.timeout * 10000), stateChanged := some now }
  else q

theorem toClosing_clear {q : Shutter} (clear : q.obstructed = false) (now : Tick) : q.toClosing now =
    { q with state := .closing, travel := .running (now + q.timeout * 10000), stateChanged := some now } := by
  unfold Shutter.toClosing
  exact if_neg (by rw [clear]; exact Bool.false_ne_true)

theorem judgeShutter_closes {s : State} {i : ShutterId} (demand : s.shutterDemand s.shutters[i] = true)
    (up : s.shutters[i].state = .opened ∨ s.shutters[i].state = .opening) :
    s.judgeShutter i = s.moveShutter i fun h => h.toClosing s.now := by
  unfold State.judgeShutter
  refine if_pos ?_
  rw [demand, Bool.true_and, Bool.or_eq_true, beq_iff_eq, beq_iff_eq]
  exact up

/-- A shutter whose side stands at ALARM closes exactly where its close level is ALARM (R161). -/
theorem sideHigh_alarm {s : State} {z : ZoneId} {q : Shutter} (level : s.zones[z].level = .alarm) (side : sidesOn q z)
    (cool : ¬s.sideBurns q = true) (close : q.closeLevel = .fire ∨ q.closeLevel = .alarm) :
    s.sideHigh q = true ↔ q.closeLevel = .alarm := by
  have burns : ∀ l : Level, Level.fire.val ≤ l.val → l = .fire := fun l => by cases l <;> decide
  rw [sideHigh_iff]
  rcases close with fire | alarm
  · rw [fire]
    refine iff_of_false (fun high => cool (sideBurns_iff.mpr ?_)) Level.noConfusion
    exact high.imp (burns _) fun ⟨y, b, h⟩ => ⟨y, b, burns _ h⟩
  · rw [alarm]
    refine iff_of_true ?_ rfl
    rcases side with a | b
    · subst a
      exact .inl (by rw [level])
    · exact .inr ⟨z, b, by rw [level]⟩

theorem shutterSeen_alarm {s : State} {z : ZoneId} {i : ShutterId} (hm : s.mode = .guarded)
    (level : s.zones[z].level = .alarm)
    (calm : sidesOn s.shutters[i] z → s.shutters[i].granted = true ∧ s.shutters[i].obstructed = false ∧
      ¬s.sideBurns s.shutters[i] = true)
    (close : sidesOn s.shutters[i] z → s.shutters[i].closeLevel = .fire ∨ s.shutters[i].closeLevel = .alarm) :
    shutterSeen z .alarm s i = s.updShutter i (alarmTold z s.now) := by
  have leaves : alarmTold z s.now s.shutters[i] = s.shutters[i] → s = s.updShutter i (alarmTold z s.now) := fun same =>
    congrArg (fun v => { s with shutters := v }) (updAt_id s.shutters i _ same).symm
  by_cases side : sidesOn s.shutters[i] z
  · obtain ⟨granted, clear, cool⟩ := calm side
    have high := sideHigh_alarm level side cool (close side)
    rw [← shutterDemand_granted hm granted] at high
    rw [shutterSeen_judged side Level.noConfusion cool]
    by_cases up : s.shutters[i].state = .opened ∨ s.shutters[i].state = .opening
    · by_cases alarm : s.shutters[i].closeLevel = .alarm
      · have closes := toClosing_clear clear s.now
        have told : alarmTold z s.now s.shutters[i] = s.shutters[i].toClosing s.now :=
          (if_pos ⟨side, alarm, up⟩).trans closes.symm
        have quiet : s.shutters[i].entered (s.shutters[i].toClosing s.now) = false := by
          rw [closes]
          rfl
        rw [judgeShutter_closes (high.mpr alarm) up, moveShutter_sound (sound_of_open up) (toClosing_state _ _), quiet,
          if_neg Bool.false_ne_true]
        exact congrArg (fun v => { s with shutters := v })
          (updAt_congr s.shutters i (f := fun h => h.toClosing s.now) (g := alarmTold z s.now) told.symm)
      · rw [judgeShutter_calm (Bool.eq_false_iff.mpr fun demand => alarm (high.mp demand))]
        exact leaves (if_neg fun all => alarm all.2.1)
    · rw [judgeShutter_set (fun e => up (.inl e)) fun e => up (.inr e)]
      exact leaves (if_neg fun all => up all.2.2)
  · rw [shutterSeen_apart side]
    exact leaves (if_neg fun all => side all.1)

/-- ALARM closes the shutters of its zone whose close level it reaches, and moves no other. -/
theorem shuttersSee_alarm {s : State} {z : ZoneId} (hm : s.mode = .guarded) (level : s.zones[z].level = .alarm)
    (calm : ∀ i : ShutterId, sidesOn s.shutters[i] z → s.shutters[i].granted = true ∧ s.shutters[i].obstructed = false ∧
      ¬s.sideBurns s.shutters[i] = true)
    (close : ∀ i : ShutterId, sidesOn s.shutters[i] z →
      s.shutters[i].closeLevel = .fire ∨ s.shutters[i].closeLevel = .alarm) :
    s.shuttersSee z .alarm =
      { s with shutters := Vector.ofFn fun i : ShutterId => alarmTold z s.now s.shutters[i] } := by
  rw [shuttersSee_eq]
  refine foldl_shutters fun v i same => ?_
  refine shutterSeen_alarm (s := { s with shutters := v }) hm level (fun side => ?_) fun side => ?_
  · have side' : sidesOn s.shutters[i] z := same ▸ side
    obtain ⟨granted, clear, cool⟩ := calm i side'
    exact ⟨by rwa [same], by rwa [same], by rwa [same]⟩
  · have side' : sidesOn s.shutters[i] z := same ▸ side
    rw [same]
    exact close i side'

end Sys2Proof.Laws
end


section
/-! PROOFS. ACK ZONE, CALL ZONE and the call points (08): what they write into the zone, and what the change of level that
they make leaves when its deliveries have been acted on. -/
namespace Sys2Proof.Laws
open Sys2Proof.Machine

/-! ## A zone's record written -/

theorem updZone_zone (s : State) (z : ZoneId) (f : Zone → Zone) : (s.updZone z f).zones[z] = f s.zones[z] := updAt_same _ _ _

theorem updZone_framed (s : State) (z : ZoneId) {f : Zone → Zone} (raw : ∀ q, (f q).callRaw = q.callRaw)
    (changed : ∀ q, (f q).callChanged = q.callChanged) : s.Framed (s.updZone z f) :=
  { (Kept.same s).framed with
    callRaw := fun y => by
      rcases updAt_cases s.zones z y f with ⟨-, r⟩ | ⟨-, r⟩ <;> rw [updZone_zones, r]
      exact raw _
    callChanged := fun y => by
      rcases updAt_cases s.zones z y f with ⟨-, r⟩ | ⟨-, r⟩ <;> rw [updZone_zones, r]
      exact changed _ }

theorem updZone_twice (s : State) (z : ZoneId) (f g : Zone → Zone) :
    (s.updZone z f).updZone z g = s.updZone z fun q => g (f q) :=
  congrArg (fun v => { s with zones := v }) (updAt_twice _ _ _ _)

/-- A zone's record as an event writes it, the frame and what its recomputed level and the deliveries keep of it. -/
structure ZoneWrote (s u : State) (z : ZoneId) (q : Zone) : Prop where
  here : ZoneKept q u.zones[z]
  framed : s.Framed u
  nextSeq : u.nextSeq = s.nextSeq

theorem zoneWrote_finish (s : State) (z : ZoneId) {f : Zone → Zone} (raw : ∀ q, (f q).callRaw = q.callRaw)
    (changed : ∀ q, (f q).callChanged = q.callChanged) :
    ZoneWrote s ((s.updZone z f).begin.recompute z).finish z (f s.zones[z]) := by
  have kept : Kept (s.updZone z f) ((s.updZone z f).begin.recompute z).finish :=
    (recompute_kept (s.updZone z f).begin z).trans (finish_kept _)
  refine ⟨?_, framed_trans (updZone_framed s z raw changed) kept.framed, kept.nextSeq⟩
  have here := kept.zones z
  rwa [updZone_zone] at here

/-- A zone written whose level is then another one. -/
theorem leveled_updZone (s : State) (z : ZoneId) (f : Zone → Zone) : leveled (s.updZone z f) z = { s with
    zones := updAt s.zones z fun q => { f q with level := (f s.zones[z]).computed, levelChanged := some s.now },
    notices := { s.notices with flags := s.notices.flags ||| Notice.zone.flag } } := by
  unfold leveled
  rw [updZone_zone, updZone_twice]
  rfl

/-- A change of level that lines and stations do not hear of is over with the shutters and sirens. -/
theorem finish_level {s : State} {z : ZoneId} {old new : Level} (lines : s.begin.linesSee z new = s.begin)
    (stations : s.begin.stationsSee z old new = s.begin) :
    (s.begin.push (.zoneLevel z old new)).finish = (s.shuttersSee z new).sirensSee z := by
  rw [finish_first, act_zoneLevel, lines, stations, run_none _ _ (by rfl)]
  rfl

/-! ## ACK ZONE (R152) -/

/-- What ACK ZONE answers, from the state it leaves. -/
def ackAnswer (u : State) (z : ZoneId) : Reply :=
  .ok (u8 u.zones[z].level.val ++ u8 u.zones[z].latched.val ++ u.causesField z)

/-- An acknowledged zone, before its level is recomputed. -/
def ackedZone (s : State) (z : ZoneId) (q : Zone) : Zone :=
  { q with burst := false, tableFull := false, linkCall := none, latched := s.standingLevel z, acknowledged := true }

theorem acknowledge_eq (s : State) (z : ZoneId) : s.acknowledge z = (s.updZone z (ackedZone s z)).begin.recompute z := rfl

section
variable {s : State} {t : Half} {z : ZoneId} (h : s.listens) (hm : s.mode = .guarded) (ht : t.toNat = z.val)
include h hm ht

theorem ackZone_taken {u : State} (left : ((s.updZone z (ackedZone s z)).begin.recompute z).finish = u) :
    exec (.ackZone t []) s = .next (u.replyWith (ackAnswer u z)) := by
  rw [← acknowledge_eq] at left
  subst left
  exact request_answer h rfl (fun e => nomatch e) <|
    (bind_of_ok (takenInGuard_of_guarded hm)).trans <| bind_of_ok (targetOf_ok.mpr ht)

/-- The level that the causes give stands already. -/
theorem ackZone_same (same : s.zones[z].level = (ackedZone s z s.zones[z]).computed) :
    exec (.ackZone t []) s = .next ((s.updZone z (ackedZone s z)).replyWith (ackAnswer (s.updZone z (ackedZone s z)) z)) := by
  refine ackZone_taken h hm ht ?_
  rw [recompute_idle _ z (by rw [begin_st, updZone_zone]; exact same), begin_finish]

end

/-! ## CALL ZONE (R149, R154) -/

/-- What CALL ZONE answers, from the state it leaves. -/
def callAnswer (u : State) (z : ZoneId) : Reply := .ok (u8 u.zones[z].level.val ++ u8 u.zones[z].latched.val)

/-- A zone at which LINK_CALL has arrived, before its level is recomputed. -/
def calledZone (l : Level) (q : Zone) : Zone := Zone.latch l { q with linkCall := some ((q.linkCall.getD l).sup l) }

theorem arriveCall_eq (s : State) (z : ZoneId) (l : Level) :
    s.begin.arriveCall z l = (s.updZone z (calledZone l)).begin.recompute z :=
  congrArg (fun v => ({ s with zones := v } : State).begin.recompute z) (updAt_twice s.zones z _ _)

section
variable {s : State} {t : Half} {z : ZoneId} {v : Byte} (h : s.listens) (hm : s.mode = .guarded) (ht : t.toNat = z.val)
include h hm ht

theorem callZone_badField (bad : v.toNat ≠ 2 ∧ v.toNat ≠ 3) :
    exec (.callZone t [v]) s = .next (s.replyWith (.refused .badField)) := by
  have refused := (levelAmong_judges [.alarm, .fire] v.toNat).badField id fun l hl => by
    rcases List.mem_cons.mp hl with rfl | hl
    · exact bad.1.symm
    · obtain rfl := List.mem_singleton.mp hl
      exact bad.2.symm
  exact request_refused h rfl (fun e => nomatch e) <|
    (bind_of_ok (takenInGuard_of_guarded hm)).trans <| (bind_of_ok (targetOf_ok.mpr ht)).trans <| bind_of_error refused

theorem callZone_taken {l : Level} {u : State} (value : l.val = v.toNat) (among : l = .alarm ∨ l = .fire)
    (left : ((s.updZone z (calledZone l)).begin.recompute z).finish = u) :
    exec (.callZone t [v]) s = .next (u.replyWith (callAnswer u z)) := by
  have judged : levelAmong [.alarm, .fire] v.toNat = .ok l := by
    rw [← value]
    exact levelAmong_of_val (by rcases among with e | e <;> rw [e] <;> decide)
  rw [← arriveCall_eq] at left
  subst left
  exact request_answer h rfl (fun e => nomatch e) <|
    (bind_of_ok (takenInGuard_of_guarded hm)).trans <| (bind_of_ok (targetOf_ok.mpr ht)).trans <| bind_of_ok judged

end

/-- The level of LINK_CALL is the higher of the two. -/
theorem calledZone_linkCall (l : Level) (q : Zone) : ∃ c, (calledZone l q).linkCall = some c ∧
    c.val = max ((q.linkCall.map Level.val).getD 0) l.val := by
  refine ⟨(q.linkCall.getD l).sup l, rfl, ?_⟩
  rw [sup_val]
  cases q.linkCall with
  | none => exact (Nat.max_self _).trans (Nat.zero_max _).symm
  | some c => rfl

/-! ## What FIRE leaves (R138, R149, R156, R163) -/

/-- What a zone that comes to FIRE leaves of its lines and shutters. -/
structure Burnt (s u : State) (z : ZoneId) : Prop where
  lines : ∀ l : LineId, s.lines[l].inUse = true → inSet s.lines[l].zones z.val = true →
    u.lines[l].state = .stopped ∧ u.lines[l].cause = .fire
  shutters : ∀ i : ShutterId, sidesOn s.shutters[i] z → u.shutters[i] = droppedBy s.now s.shutters[i]

/-- Once the lines have been stopped and the shutters dropped, the deliveries that follow keep both. -/
theorem burnt_of_steps {s a b u : State} {z : ZoneId}
    (stopped : ∀ l : LineId, s.lines[l].inUse = true → inSet s.lines[l].zones z.val = true → FireStopped a l)
    (told : Steps a b) (drops : ∀ i : ShutterId, sidesOn s.shutters[i] z → b.shutters[i] = droppedBy s.now s.shutters[i])
    (rest : Steps b u) : Burnt s u z := by
  refine ⟨fun l use holds => ?_, fun i side => ?_⟩
  · have final := (Steps.linesMove (told.trans rest)).stopped l (stopped l use holds)
    exact ⟨final.state, final.cause⟩
  · have down := droppedBy_fallen s.now s.shutters[i]
    rw [← drops i side] at down
    have still := (rest.kept.shutters i).still (down.imp_right Or.symm)
    exact still.trans (drops i side)

theorem sirensSee_shutters (s : State) (z : ZoneId) : (s.sirensSee z).shutters = s.shutters := rfl

/-- Once lines and stations have been told, the shutters drop. -/
theorem shuttersSee_drops {s t : State} {z : ZoneId} (shutters : t.shutters = s.shutters) (now : t.now = s.now)
    {i : ShutterId} (side : sidesOn s.shutters[i] z) :
    ((t.shuttersSee z .fire).sirensSee z).shutters[i] = droppedBy s.now s.shutters[i] := by
  have seen := shuttersSee_fire (s := t) (z := z) (i := i) (by rw [shutters]; exact side)
  rw [sirensSee_shutters, seen]
  simp only [shutters, now]

theorem finish_burnt {s : State} {z : ZoneId} (old : Level) (ordered : QueueWaits s) :
    Burnt s (s.begin.push (.zoneLevel z old .fire)).finish z := by
  have lines := linesSee_linesOnly s.begin z .fire
  have stations := stationsSee_stationsOnly (s.begin.linesSee z .fire) z old .fire
  have stationsTold := stationsSee_steps (s.begin.linesSee z .fire) z old .fire
  have stopped : ∀ l : LineId, s.lines[l].inUse = true → inSet s.lines[l].zones z.val = true →
      FireStopped (s.begin.linesSee z .fire).st l := fun l use holds => linesSee_stops (w := s.begin) z ordered use holds
  rw [finish_first, act_zoneLevel]
  generalize s.begin.linesSee z .fire = seen at lines stations stationsTold stopped
  generalize seen.stationsSee z old .fire = flooded at stations stationsTold
  have told := stationsTold.trans ((shuttersSee_steps flooded.st z .fire).tail (.sirens _ z))
  have rest := run_steps 999999 (flooded.mod fun s => (s.shuttersSee z .fire).sirensSee z)
  refine burnt_of_steps stopped told (fun i side => shuttersSee_drops ?_ ?_ side) rest
  · exact (congrArg State.shutters stations.rest :).trans (congrArg State.shutters lines.rest :)
  · exact (congrArg State.now stations.rest :).trans (congrArg State.now lines.rest :)

/-! ## A change of level below FIRE -/

/-- A change to a level below FIRE that no flood station hears of is over with the shutters and sirens. -/
theorem finish_moves {s : State} {z : ZoneId} (moves : s.zones[z].level ≠ s.zones[z].computed)
    (below : s.zones[z].computed ≠ .fire) (floods : s.zones[z].level = .fire → ∀ x : StationId, ¬floodsIn s z x) :
    (s.begin.recompute z).finish = ((leveled s z).shuttersSee z s.zones[z].computed).sirensSee z := by
  rw [recompute_moves moves]
  refine finish_level (linesSee_below z below) (stationsSee_none fun fire x => ?_)
  exact floods (fire.resolve_right below) x

/-- ACK ZONE where the level falls or rises below FIRE and moves no shutter. -/
theorem finish_acked {s : State} {z : ZoneId} (hm : s.mode = .guarded)
    (moves : s.zones[z].level ≠ (ackedZone s z s.zones[z]).computed) (below : (ackedZone s z s.zones[z]).computed ≠ .fire)
    (floods : s.zones[z].level = .fire → ∀ x : StationId, ¬floodsIn s z x)
    (calm : ∀ i : ShutterId, sidesOn s.shutters[i] z → fallen s.shutters[i] ∨
      ¬(leveled (s.updZone z (ackedZone s z)) z).sideBurns s.shutters[i] = true ∧
        (s.shutters[i].state = .closing ∨ s.shutters[i].state = .paused ∨
          s.shutters[i].granted = true ∧ ¬(leveled (s.updZone z (ackedZone s z)) z).sideHigh s.shutters[i] = true)) :
    ((s.updZone z (ackedZone s z)).begin.recompute z).finish = (leveled (s.updZone z (ackedZone s z)) z).sirensSee z := by
  have here := updZone_zone s z (ackedZone s z)
  rw [finish_moves (by rw [here]; exact moves) (by rw [here]; exact below) (by rw [here]; exact floods), here]
  rw [shuttersSee_calm (s := leveled (s.updZone z (ackedZone s z)) z) hm below calm]

/-! ## LINK_CALL at ALARM and at FIRE -/

/-- A zone that LINK_CALL has taken to FIRE. -/
def fireLeveled (s : State) (z : ZoneId) : State := { s with
  zones := updAt s.zones z fun q =>
    { q with linkCall := some .fire, latched := .fire, acknowledged := false, level := .fire, levelChanged := some s.now },
  notices := { s.notices with flags := s.notices.flags ||| Notice.zone.flag } }

/-- A zone that LINK_CALL has taken to ALARM. -/
def alarmLeveled (s : State) (z : ZoneId) : State := { s with
  zones := updAt s.zones z fun q =>
    { q with linkCall := some (if q.linkCall = some .fire then .fire else .alarm), latched := .alarm,
             acknowledged := false, level := .alarm, levelChanged := some s.now },
  notices := { s.notices with flags := s.notices.flags ||| Notice.zone.flag } }

theorem calledZone_fire (q : Zone) :
    calledZone .fire q = { q with linkCall := some .fire, latched := .fire, acknowledged := false } := by
  unfold calledZone Zone.latch
  rw [sup_fire, sup_fire]

theorem calledZone_alarm {q : Zone} (below : q.latched.val ≤ 2) : calledZone .alarm q =
    { q with linkCall := some (if q.linkCall = some .fire then .fire else .alarm), latched := .alarm,
             acknowledged := false } := by
  have latched : ∀ l : Level, l.val ≤ 2 → l.sup .alarm = .alarm := fun l => by cases l <;> decide
  have call : ∀ c : Option Level, (c.getD .alarm).sup .alarm = if c = some .fire then .fire else .alarm := by
    rintro (_ | c)
    · rfl
    · cases c <;> rfl
  unfold calledZone Zone.latch
  rw [latched _ below, call]

theorem calledFire_computed (q : Zone) : (calledZone .fire q).computed = .fire :=
  (computed_fire_iff _).mpr (by rw [calledZone_fire])

theorem calledAlarm_computed {q : Zone} (below : q.latched.val ≤ 2) : (calledZone .alarm q).computed = .alarm := by
  rw [computed_eq, calledZone_alarm below]
  exact if_neg fun both => Level.noConfusion both.2

theorem leveled_calledFire (s : State) (z : ZoneId) : leveled (s.updZone z (calledZone .fire)) z = fireLeveled s z := by
  rw [leveled_updZone, calledFire_computed]
  refine congrArg (fun v => { s with
    zones := v, notices := { s.notices with flags := s.notices.flags ||| Notice.zone.flag } }) (updAt_congr s.zones z ?_)
  rw [calledZone_fire]

theorem leveled_calledAlarm {s : State} {z : ZoneId} (below : s.zones[z].latched.val ≤ 2) :
    leveled (s.updZone z (calledZone .alarm)) z = alarmLeveled s z := by
  rw [leveled_updZone, calledAlarm_computed below]
  refine congrArg (fun v => { s with
    zones := v, notices := { s.notices with flags := s.notices.flags ||| Notice.zone.flag } }) (updAt_congr s.zones z ?_)
  rw [calledZone_alarm below]

theorem alarmLeveled_level (s : State) (z y : ZoneId) :
    (alarmLeveled s z).zones[y].level = if y = z then .alarm else s.zones[y].level := by
  have place := updAt_cases s.zones z y fun q : Zone =>
    { q with linkCall := some (if q.linkCall = some .fire then .fire else .alarm), latched := .alarm,
             acknowledged := false, level := .alarm, levelChanged := some s.now }
  unfold alarmLeveled
  rcases place with ⟨e, r⟩ | ⟨e, r⟩
  · rw [r, if_pos e]
  · rw [r, if_neg e]

/-- ALARM called in a zone below it. -/
theorem finish_alarm {s : State} {z : ZoneId} (hm : s.mode = .guarded) (low : s.zones[z].level.val < 2)
    (below : s.zones[z].latched.val ≤ 2)
    (calm : ∀ i : ShutterId, sidesOn s.shutters[i] z → s.shutters[i].granted = true ∧ s.shutters[i].obstructed = false ∧
      s.zones[s.shutters[i].sideA].level ≠ .fire ∧ ∀ y, s.shutters[i].sideB = some y → s.zones[y].level ≠ .fire)
    (close : ∀ i : ShutterId, sidesOn s.shutters[i] z →
      s.shutters[i].closeLevel = .fire ∨ s.shutters[i].closeLevel = .alarm) :
    ((s.updZone z (calledZone .alarm)).begin.recompute z).finish = State.sirensSee { alarmLeveled s z with
      shutters := Vector.ofFn fun i : ShutterId => alarmTold z s.now s.shutters[i] } z := by
  have here := updZone_zone s z (calledZone .alarm)
  have computed := calledAlarm_computed below
  have moves : s.zones[z].level ≠ .alarm := by
    intro e
    rw [e] at low
    exact absurd low (by decide)
  have cold : s.zones[z].level ≠ .fire := by
    intro e
    rw [e] at low
    exact absurd low (by decide)
  have cool : ∀ y : ZoneId, s.zones[y].level ≠ .fire → (alarmLeveled s z).zones[y].level ≠ .fire := by
    intro y below
    rw [alarmLeveled_level]
    split
    · exact Level.noConfusion
    · exact below
  rw [finish_moves (by rw [here, computed]; exact moves) (by rw [here, computed]; exact Level.noConfusion)
    (by rw [here]; exact fun e => absurd e cold), here, computed, leveled_calledAlarm below]
  rw [shuttersSee_alarm (s := alarmLeveled s z) hm ((alarmLeveled_level s z z).trans (if_pos rfl)) (fun i side => ?_) close]
  · rfl
  · obtain ⟨granted, clear, coolA, coolB⟩ := calm i side
    refine ⟨granted, clear, fun burns => ?_⟩
    rcases sideBurns_iff.mp burns with a | ⟨y, b, burning⟩
    · exact cool _ coolA a
    · exact cool y (coolB y b) burning

/-! ## FIRE in a zone with one flood station (R104, R105, R109) -/

theorem push_mod (w : Work) (d : Delivery) (f : State → State) : (w.push d).mod f = (w.mod f).push d := by
  unfold Work.push
  rw [mod_out]
  by_cases queued : (d.once && w.out.contains d) = true
  · rw [if_pos queued, if_pos queued]
  · rw [if_neg queued, if_neg queued]
    rfl

/-- A flood station given its demand, and the sirens of its zone. -/
def flooded (s : State) (z : ZoneId) (x : StationId) : State :=
  (s.sirensSee z).updStation x fun q => { q with floodDemand := true }

theorem updStation_sirensSee (s : State) (x : StationId) (f : Station → Station) (z : ZoneId) :
    (s.updStation x f).sirensSee z = (s.sirensSee z).updStation x f := rfl

/-- FIRE tells the one flood station of a zone without lines and shutters. -/
theorem act_floods {s : State} {z : ZoneId} {old : Level} {x : StationId}
    (lines : ∀ l : LineId, inSet s.lines[l].zones z.val = false) (shutters : ∀ i : ShutterId, ¬sidesOn s.shutters[i] z)
    (lies : floodsIn s z x) (only : ∀ y : StationId, y ≠ x → ¬floodsIn s z y) :
    s.begin.act (.zoneLevel z old .fire) = (flooded s z x).begin.push (.station x) := by
  have told : (s.updStation x fun q => { q with floodDemand := true }).shuttersSee z .fire =
      s.updStation x fun q => { q with floodDemand := true } :=
    shuttersSee_none (fun i => by rw [updStation_shutters]; exact shutters i) .fire
  have acted : (s.begin.mod fun s => s.updStation x fun q => { q with floodDemand := true }).mod
      (fun s => (s.shuttersSee z .fire).sirensSee z) =
        (((s.updStation x fun q => { q with floodDemand := true }).shuttersSee z .fire).sirensSee z).begin := rfl
  rw [act_zoneLevel, linesSee_none (w := s.begin) lines, stationsSee_one (w := s.begin) lies only, push_mod, acted, told,
    updStation_sirensSee]
  rfl

theorem flooded_station (s : State) (z : ZoneId) (x : StationId) :
    (flooded s z x).stations[x] = { s.stations[x] with floodDemand := true } :=
  (updStation_station (s.sirensSee z) x x _).trans (if_pos rfl)

/-- A flood station that FIRE has granted at once: the whole state. -/
theorem flooded_granted (s : State) (z : ZoneId) (x : StationId) :
    ((flooded s z x).updStation x fun q => q.request s.now).grant x = State.sirensSee { s with
      stations := updAt s.stations x fun q =>
        { q with floodDemand := true, state := .releasing, requestTick := some s.now, purgeEnd := none,
                 releaseStart := some s.now, confirm := if q.pressure then .confirmed else .waiting s.now,
                 cutStart := none, minRunAt := some (s.now + s.limits.floodMin * 1000) },
      freeUnits := s.freeUnits - s.drawOf x } z := by
  rw [flooded, updStation_twice, updStation_grant (s.sirensSee z) x _ rfl]
  rfl

/-- FIRE in a zone whose one flood station stands IDLE and can be granted. -/
theorem finish_floods {s : State} {z : ZoneId} {old : Level} {x : StationId} (hm : s.mode = .guarded)
    (lines : ∀ l : LineId, inSet s.lines[l].zones z.val = false) (shutters : ∀ i : ShutterId, ¬sidesOn s.shutters[i] z)
    (none : ∀ y : StationId, s.stations[y].waits = false) (lies : floodsIn s z x)
    (only : ∀ y : StationId, y ≠ x → ¬floodsIn s z y) (idle : s.stations[x].state = .idle)
    (fits : s.drawOf x ≤ s.freeUnits) :
    (s.begin.push (.zoneLevel z old .fire)).finish = State.sirensSee { s with
      stations := updAt s.stations x fun q =>
        { q with floodDemand := true, state := .releasing, requestTick := some s.now, purgeEnd := .none,
                 releaseStart := some s.now, confirm := if q.pressure then .confirmed else .waiting s.now,
                 cutStart := .none, minRunAt := some (s.now + s.limits.floodMin * 1000) },
      freeUnits := s.freeUnits - s.drawOf x } z := by
  have demand : (flooded s z x).stations[x].demand = true := by
    rw [flooded_station]
    exact Bool.or_true _
  have none' : ∀ y : StationId, (flooded s z x).stations[y].waits = false :=
    updStation_no_waiters (s := s.sirensSee z) none (none x)
  have fits' : (flooded s z x).drawOf x ≤ (flooded s z x).freeUnits :=
    (updStation_drawOf (s.sirensSee z) x (fun q => { q with floodDemand := true }) rfl x).trans_le fits
  rw [finish_first, act_floods lines shutters lies only,
    run_station_granted (s := flooded s z x) hm (by rw [flooded_station]; exact idle) demand none' fits' 999997]
  exact flooded_granted s z x

/-! ## Call points (R153) -/

theorem callDue_of {s : State} {z : ZoneId} (hm : s.mode = .guarded)
    (stood : max s.zones[z].callChanged (s.guardEntry.getD 0) + 500 ≤ s.now)
    (differ : s.zones[z].callRaw ≠ s.zones[z].callActive) : s.callDue z = true := by
  unfold State.callDue
  rw [hm, bne_iff_ne.mpr differ]
  exact decide_eq_true stood

theorem callFilter_falls {s : State} {z : ZoneId} (raw : s.zones[z].callRaw = false) :
    (s.callFilter z).finish = s.updZone z fun q => { q with callActive := false } := by
  unfold State.callFilter
  rw [raw, if_neg Bool.false_ne_true]
  refine (begin_finish _).trans (congrArg (fun v => { s with zones := v }) (updAt_congr s.zones z ?_))
  rw [raw]

/-- A zone whose call point has been filtered, CALL_POINT arriving in it. -/
def calledPoint (q : Zone) : Zone := Zone.latch .fire { q with callActive := q.callRaw }

theorem callFilter_rises {s : State} {z : ZoneId} (raw : s.zones[z].callRaw = true) :
    s.callFilter z = (s.updZone z calledPoint).begin.recompute z := by
  unfold State.callFilter
  rw [if_pos raw]
  exact congrArg (fun t : State => t.begin.recompute z) (updZone_twice s z _ _)

theorem callPointFilter_due {s : State} {z : ZoneId} (high : s.resetLow = false) (due : s.callDue z = true) :
    exec (.callPointFilter z) s = .next (s.callFilter z).finish :=
  congrArg Host.Outcome.next (event_due s _ _ high due)

end Sys2Proof.Laws
end


section
/-! PROOFS. The zone commands and the call points as O47 states them. -/
namespace Sys2Proof.Laws
open Sys2Proof.Machine

section
variable {s : State} {t : Half} {z : ZoneId} (h : s.listens) (hm : s.mode = .guarded) (ht : t.toNat = z.val)
include h hm ht

/-- ACK ZONE leaves no instant cause and latches no level below the standing one. -/
theorem ackZone_leaves : ∃ u : State, exec (.ackZone t []) s = .next (u.replyWith (ackAnswer u z)) ∧
    u.zones[z].burst = false ∧ u.zones[z].tableFull = false ∧ u.zones[z].linkCall = none ∧
    (s.standingLevel z).val ≤ u.zones[z].latched.val ∧ s.Framed u ∧ u.nextSeq = s.nextSeq := by
  obtain ⟨here, framed, seq⟩ := zoneWrote_finish s z (f := ackedZone s z) (fun _ => rfl) fun _ => rfl
  exact ⟨_, ackZone_taken h hm ht rfl, here.burst, here.tableFull, here.linkCall, here.latched, framed, seq⟩

/-- ACK ZONE where the level moves below FIRE and no shutter hears of it. -/
theorem ackZone_moves (moves : s.zones[z].level ≠ (ackedZone s z s.zones[z]).computed)
    (below : (ackedZone s z s.zones[z]).computed ≠ .fire)
    (floods : s.zones[z].level = .fire → ∀ x : StationId, ¬floodsIn s z x)
    (calm : ∀ i : ShutterId, sidesOn s.shutters[i] z → fallen s.shutters[i] ∨
      ¬(leveled (s.updZone z (ackedZone s z)) z).sideBurns s.shutters[i] = true ∧
        (s.shutters[i].state = .closing ∨ s.shutters[i].state = .paused ∨
          s.shutters[i].granted = true ∧ ¬(leveled (s.updZone z (ackedZone s z)) z).sideHigh s.shutters[i] = true)) :
    exec (.ackZone t []) s = .next (((leveled (s.updZone z (ackedZone s z)) z).sirensSee z).replyWith
      (ackAnswer ((leveled (s.updZone z (ackedZone s z)) z).sirensSee z) z)) :=
  ackZone_taken h hm ht (finish_acked hm moves below floods calm)

/-- CALL ZONE enters LINK_CALL, whatever its level. -/
theorem callZone_leaves {v : Byte} {l : Level} (value : l.val = v.toNat) (among : l = .alarm ∨ l = .fire) :
    let u := ((s.updZone z (calledZone l)).begin.recompute z).finish
    exec (.callZone t [v]) s = .next (u.replyWith (callAnswer u z)) ∧
      (∃ c, u.zones[z].linkCall = some c ∧ c.val = max ((s.zones[z].linkCall.map Level.val).getD 0) l.val) ∧
      l.val ≤ u.zones[z].latched.val ∧ s.zones[z].latched.val ≤ u.zones[z].latched.val ∧
      u.zones[z].acknowledged = false ∧ s.Framed u ∧ u.nextSeq = s.nextSeq := by
  obtain ⟨here, framed, seq⟩ := zoneWrote_finish s z (f := calledZone l) (fun _ => rfl) fun _ => rfl
  obtain ⟨c, entered, value'⟩ := calledZone_linkCall l s.zones[z]
  have arrived := (latch_arrived l { s.zones[z] with linkCall := some ((s.zones[z].linkCall.getD l).sup l) }).kept here
  have rises : s.zones[z].latched.val ≤ (calledZone l s.zones[z]).latched.val :=
    (Nat.le_max_left _ _).trans_eq (sup_val _ _).symm
  exact ⟨callZone_taken h hm ht value among rfl, ⟨c, here.linkCall.trans entered, value'⟩, arrived.1,
    rises.trans here.latched, arrived.2, framed, seq⟩

end

/-- FIRE called in a zone below it: the zone, its lines and its shutters. -/
theorem calledFire_burns {s : State} {z : ZoneId} (below : s.zones[z].level ≠ .fire) (ordered : s.linesOrdered) :
    let u := ((s.updZone z (calledZone .fire)).begin.recompute z).finish
    FireSince (some s.now) u.zones[z] ∧ u.raised .zone ∧ Burnt s u z := by
  have here := updZone_zone s z (calledZone .fire)
  have computed := calledFire_computed s.zones[z]
  have burns := finish_burns (s := s.updZone z (calledZone .fire)) (z := z) (by rw [here, calledZone_fire])
  rw [here, if_neg (by exact below)] at burns
  have moved := recompute_moves (s := s.updZone z (calledZone .fire)) (z := z) (by rw [here, computed]; exact below)
  rw [here, computed] at moved
  obtain ⟨once, waits, -, -⟩ := ordered
  have burnt := finish_burnt (s := leveled (s.updZone z (calledZone .fire)) z) (z := z) (calledZone .fire s.zones[z]).level
    ⟨once, fun l hl => (waits l).mp hl⟩
  refine ⟨burns, ?_, ?_⟩
  · rw [moved]
    have kept := finish_kept ((leveled (s.updZone z (calledZone .fire)) z).begin.push
      (.zoneLevel z (calledZone .fire s.zones[z]).level .fire))
    rw [push_st] at kept
    exact kept.raised .zone (raise_raised _ .zone)
  · rw [moved]
    exact ⟨burnt.lines, burnt.shutters⟩

theorem callPointInput_eq (s : State) (z : ZoneId) (active : Bool) :
    exec (.callPointInput z active) s = .next (if s.zones[z].callRaw = active then s else { s with
      zones := updAt s.zones z fun q => { q with callRaw := active, callChanged := s.now } }) := rfl

/-- The filter takes an active input: CALL_POINT takes the zone to FIRE (R153). -/
theorem callPointFilter_rises {s : State} {z : ZoneId} (high : s.resetLow = false) (due : s.callDue z = true)
    (raw : s.zones[z].callRaw = true) :
    ∃ u : State, exec (.callPointFilter z) s = .next u ∧ u.zones[z].callActive = true ∧
      u.zones[z].latched = .fire ∧ u.zones[z].level = .fire ∧ u.zones[z].acknowledged = false ∧ s.Framed u ∧
      u.nextSeq = s.nextSeq := by
  obtain ⟨here, framed, seq⟩ := zoneWrote_finish s z (f := calledPoint) (fun _ => rfl) fun _ => rfl
  have latched : (s.updZone z calledPoint).zones[z].latched = .fire := by
    rw [updZone_zone]
    exact sup_fire _
  obtain ⟨fire, level, -⟩ := finish_burns latched
  have arrived := (latch_arrived .fire { s.zones[z] with callActive := s.zones[z].callRaw }).kept here
  rw [callPointFilter_due high due, callFilter_rises raw]
  exact ⟨_, rfl, here.callActive.trans raw, fire, level, arrived.2, framed, seq⟩

/-- Settles O47: by what each command and call point writes into the zone's record and how far the change of level reaches. -/
theorem zoneCommandsAndCallPoints : Obligations.ZoneCommandsAndCallPoints := by
  refine ⟨computed_eq, fun s z => standingLevel_eq s z, fun s t z h hm ht => ?_, fun s t v z h hm ht => ?_, stationsSee_whole,
    callPointInput_eq, fun s z high hm stood => ⟨fun raw active => ?_, fun raw idle => ?_⟩⟩
  · refine ⟨ackZone_leaves h hm ht, ackZone_same h hm ht, fun moves below floods => ?_⟩
    intro leveled' burning high calm
    have level : leveled (s.updZone z (ackedZone s z)) z = leveled' := leveled_updZone s z (ackedZone s z)
    have quiet : s.zones[z].level = .fire → ∀ x : StationId, ¬floodsIn s z x := fun fire x ⟨use, flood, zone⟩ =>
      floods fire x use flood zone
    have acked := ackZone_moves h hm ht moves below quiet fun i side => ?_
    · rw [level] at acked
      exact acked
    · rw [level, sideBurns_iff, sideHigh_iff]
      rcases calm i side with closed | dropping | fault | set
      · exact .inl (.inl closed)
      · exact .inl (.inr (.inl dropping))
      · exact .inl (.inr (.inr fault))
      · exact .inr set
  · refine ⟨callZone_badField h hm ht, fun l value least => ?_, ?_, ?_⟩
    · have among : l = .alarm ∨ l = .fire := by
        rw [← value] at least
        revert least
        cases l <;> decide
      obtain ⟨taken, call, latched, rises, fresh, framed, seq⟩ := callZone_leaves h hm ht value among
      refine ⟨_, taken, call, latched, rises, fresh, framed, seq, fun fire below ordered => ?_⟩
      subst fire
      obtain ⟨⟨-, level, changed⟩, raised, lines, shutters⟩ := calledFire_burns below ordered
      exact ⟨level, changed, raised, lines, shutters⟩
    · intro x value below lines shutters none only use flood zone idle fits leveled'
      have here := updZone_zone s z (calledZone .fire)
      have computed := calledFire_computed s.zones[z]
      have moved := recompute_moves (s := s.updZone z (calledZone .fire)) (z := z) (by rw [here, computed]; exact below)
      rw [here, computed, leveled_calledFire] at moved
      refine callZone_taken h hm ht (l := .fire) (by rw [value]; rfl) (.inr rfl) ?_
      rw [moved]
      exact finish_floods (s := fireLeveled s z) hm lines (fun i side => side.elim (shutters i).1 (shutters i).2) none
        ⟨use, flood, zone⟩ (fun y other ⟨use', flood', zone'⟩ => only y other use' flood' zone') idle fits
    · intro value low below calm close leveled'
      exact callZone_taken h hm ht (l := .alarm) (by rw [value]; rfl) (.inl rfl) (finish_alarm hm low below calm close)
  · rw [callPointFilter_due high (callDue_of hm stood (by rw [raw, active]; exact Bool.false_ne_true)), callFilter_falls raw]
    rfl
  · exact callPointFilter_rises high (callDue_of hm stood (by rw [raw, idle]; exact Bool.false_ne_true.symm)) raw

end Sys2Proof.Laws
end


section
/-! PROOFS. The start queue and the states of the lines (R141, R142, R145): what one small step of a delivery does to them, and
that it keeps the two in accord. -/
namespace Sys2Proof.Laws
open Sys2Proof.Machine

/-! ## What the accord reads -/

/-- The start queue, and of each line whether it is in use and its state. -/
def queueOf (s : State) : List LineId × Vector (Bool × LineState) 8 :=
  (s.startQueue, s.lines.map fun q => (q.inUse, q.state))

/-- What the accord of start queue and lines reads of the part. -/
def linesOf (s : State) : Mode × List LineId × Vector (Bool × LineState) 8 := (s.mode, queueOf s)

/-- One line stands in accord with the start queue: it is queued exactly in START_WAIT, and STOPPED when not in use. -/
structure QueueMeets (s : State) (l : LineId) : Prop where
  queued : l ∈ s.startQueue ↔ s.lines[l].state = .startWait
  unused : s.lines[l].inUse = false → s.lines[l].state = .stopped

/-- A line is down: STOPPED or STOPPING. -/
def LineDown (q : Line) : Prop := q.state = .stopped ∨ q.state = .stopping

/-- The start queue holds the lines in START_WAIT, each once, and a line not in use is STOPPED, whatever the part mode. -/
structure Queued (s : State) : Prop where
  once : s.startQueue.Nodup
  meets : ∀ l, QueueMeets s l

theorem linesOrdered_iff (s : State) : s.linesOrdered ↔ Queued s ∧ (s.mode ≠ .guarded → LinesDown s) :=
  ⟨fun ⟨once, queued, unused, down⟩ => ⟨⟨once, fun l => ⟨queued l, unused l⟩⟩, down⟩,
   fun ⟨⟨once, meets⟩, down⟩ => ⟨once, fun l => (meets l).queued, fun l => (meets l).unused, down⟩⟩

theorem queueOf_line {s t : State} (e : queueOf t = queueOf s) (l : LineId) :
    t.lines[l].inUse = s.lines[l].inUse ∧ t.lines[l].state = s.lines[l].state :=
  Prod.mk.inj (map_get (congrArg Prod.snd e : t.lines.map _ = s.lines.map _) l)

theorem Queued.of_same {s t : State} (h : Queued s) (e : queueOf t = queueOf s) : Queued t := by
  have queue : t.startQueue = s.startQueue := congrArg Prod.fst e
  refine ⟨queue ▸ h.once, fun l => ?_⟩
  obtain ⟨use, state⟩ := queueOf_line e l
  exact ⟨by rw [queue, state]; exact (h.meets l).queued, by rw [use, state]; exact (h.meets l).unused⟩

theorem LinesDown.of_same {s t : State} (h : LinesDown s) (e : queueOf t = queueOf s) : LinesDown t := fun l => by
  rw [(queueOf_line e l).2]
  exact h l

theorem ordered_of_same {s t : State} (h : s.linesOrdered) (e : linesOf t = linesOf s) : t.linesOrdered := by
  rw [linesOrdered_iff] at *
  have mode : t.mode = s.mode := congrArg Prod.fst e
  have queue : queueOf t = queueOf s := congrArg Prod.snd e
  exact ⟨h.1.of_same queue, fun unguarded => (h.2 (mode ▸ unguarded)).of_same queue⟩

/-- Outside GUARD every line is down, so any part mode may follow. -/
theorem ordered_unguarded {s t : State} (h : s.linesOrdered) (hm : s.mode ≠ .guarded) (e : queueOf t = queueOf s) :
    t.linesOrdered := by
  rw [linesOrdered_iff] at *
  exact ⟨h.1.of_same e, fun _ => (h.2 hm).of_same e⟩

/-- With every line down the start queue is empty. -/
theorem ordered_of_down {s : State} (queue : s.startQueue = []) (down : LinesDown s)
    (unused : ∀ l : LineId, s.lines[l].inUse = false → s.lines[l].state = .stopped) : s.linesOrdered := by
  refine ⟨queue ▸ List.nodup_nil, fun l => iff_of_false (queue ▸ List.not_mem_nil) fun waits => ?_, unused, fun _ => down⟩
  rcases down l with e | e <;> rw [waits] at e <;> cases e

/-- In accord, a line that is up stands in a part in GUARD, and is in use. -/
theorem ordered_up {s : State} (h : s.linesOrdered) {l : LineId} (up : ¬LineDown s.lines[l]) :
    s.mode = .guarded ∧ s.lines[l].inUse = true := by
  obtain ⟨-, -, unused, down⟩ := h
  exact ⟨by_contra fun hm => up (down hm l), by_contra fun off => up (.inl (unused l (Bool.eq_false_iff.mpr off)))⟩

/-! ## One line moves -/

/-- A line moves and the others stand. -/
theorem Queued.one {s t : State} {l : LineId} (h : Queued s) (once : t.startQueue.Nodup)
    (others : ∀ k, k ≠ l → t.lines[k] = s.lines[k] ∧ (k ∈ t.startQueue ↔ k ∈ s.startQueue)) (here : QueueMeets t l) :
    Queued t := by
  refine ⟨once, fun k => ?_⟩
  by_cases e : k = l
  · exact e ▸ here
  · obtain ⟨line, queue⟩ := others k e
    exact ⟨by rw [queue, line]; exact (h.meets k).queued, by rw [line]; exact (h.meets k).unused⟩

theorem lineTo_mode (s : State) (l : LineId) (f : Line → Line) : (s.lineTo l f).mode = s.mode :=
  (congrArg State.mode (lineTo_linesOnly s l f).rest :)

theorem lineTo_here (s : State) (l : LineId) (f : Line → Line) : (s.lineTo l f).lines[l] = f s.lines[l] :=
  (lineTo_line s l l f).trans (if_pos rfl)

/-- A line moves outside the start queue. -/
theorem lineTo_queued {s : State} {l : LineId} {f : Line → Line} (h : Queued s) (before : s.lines[l].state ≠ .startWait)
    (after : (f s.lines[l]).state ≠ .startWait) (unused : (f s.lines[l]).inUse = false → (f s.lines[l]).state = .stopped) :
    Queued (s.lineTo l f) := by
  refine h.one (l := l) (by rw [lineTo_queue]; exact h.once) (fun k e => ⟨?_, ?_⟩) ⟨?_, ?_⟩
  · rw [lineTo_line, if_neg e]
  · rw [lineTo_queue]
  · rw [lineTo_queue, lineTo_here]
    exact iff_of_false (fun queued => before ((h.meets l).queued.mp queued)) after
  · rwa [lineTo_here]

/-- A line leaves the start queue. -/
theorem Queued.erase {s t : State} {l : LineId} (h : Queued s) (queue : t.startQueue = s.startQueue.erase l)
    (others : ∀ k, k ≠ l → t.lines[k] = s.lines[k]) (after : t.lines[l].state ≠ .startWait)
    (unused : t.lines[l].inUse = false → t.lines[l].state = .stopped) : Queued t := by
  refine h.one (l := l) (queue ▸ h.once.erase l) (fun k e => ⟨others k e, ?_⟩) ⟨iff_of_false ?_ after, unused⟩
  · rw [queue, h.once.mem_erase_iff]
    exact and_iff_right e
  · rw [queue]
    exact h.once.not_mem_erase

theorem coast_down (q : Line) (c : StopCause) (now : Tick) : LineDown (q.coast c now) := by
  unfold Line.coast
  dsimp only
  split
  · exact .inl rfl
  · exact .inr rfl

theorem coldCause_down {q : Line} (c : StopCause) (down : LineDown q) : LineDown (q.coldCause c) := by
  unfold Line.coldCause
  split
  · exact .inl rfl
  · exact down

theorem coldCause_stopped {q : Line} (c : StopCause) (rests : q.state = .stopped) : (q.coldCause c).state = .stopped := by
  unfold Line.coldCause
  split
  · rfl
  · exact rests

theorem LineDown.not_waiting {q : Line} (down : LineDown q) : q.state ≠ .startWait := by
  intro waits
  rcases down with e | e <;> rw [waits] at e <;> cases e

theorem LineDown.not_up {q : Line} (down : LineDown q) (up : q.state = .running ∨ q.state = .starting) : False := by
  rcases down with e | e <;> rcases up with e' | e' <;> rw [e] at e' <;> cases e'

theorem up_not_waiting {q : Line} (up : q.state = .running ∨ q.state = .starting) : q.state ≠ .startWait := by
  intro waits
  rcases up with e | e <;> rw [waits] at e <;> cases e

theorem checkRunning_up {s : State} {l : LineId} (starting : s.lines[l].state = .starting) :
    (s.checkRunning l).lines[l].state = .running ∨ (s.checkRunning l).lines[l].state = .starting := by
  unfold State.checkRunning
  split
  · rw [lineTo_here]
    exact .inl rfl
  · exact .inr starting

/-- The line that starts is STARTING, or RUNNING already (R142, R143). -/
theorem startLine_up (s : State) (l : LineId) :
    (s.startLine l).lines[l].state = .running ∨ (s.startLine l).lines[l].state = .starting := by
  unfold State.startLine
  exact checkRunning_up (by rw [lineTo_here])

/-! ## Small steps -/

section
variable (s : State)

theorem raise_lineView (n : Notice) : linesOf (s.raise n) = linesOf s := rfl

theorem ZonesOnly.lineView {s t : State} (h : ZonesOnly s t) : linesOf t = linesOf s := (congrArg linesOf h.rest :)

theorem Flagged.lineView {s t : State} (h : Flagged s t) : linesOf t = linesOf s := (congrArg linesOf h.rest :)

theorem refreshPlaced_lineView (k : FaultKind) (what : Placed) : linesOf (s.refreshPlaced k what) = linesOf s := by
  unfold State.refreshPlaced
  split
  · rfl
  · exact (refreshFault_flagged s k _).lineView

theorem moveShutter_lineView (i : ShutterId) (f : Shutter → Shutter) : linesOf (s.moveShutter i f) = linesOf s := by
  unfold State.moveShutter
  extract_lets before after shown told flagged
  have htold : linesOf told = linesOf s := by
    unfold told
    split <;> rfl
  clear_value told
  have hflagged : linesOf flagged = linesOf s := (refreshFault_flagged told .shutter _).lineView.trans htold
  split
  · exact htold
  · cases after.sideB with
    | none => exact hflagged
    | some z => exact (refreshFault_flagged flagged .shutter z).lineView.trans hflagged

end

theorem Quiet.lineView {s t : State} (k : Quiet s t) : linesOf t = linesOf s := by
  cases k with
  | raise n => rfl
  | track i f => rfl
  | member old new => exact (memberMove_zonesOnly s.begin old new).lineView
  | served x l room => rfl

theorem Quiets.lineView {s t : State} (k : Quiets s t) : linesOf t = linesOf s :=
  Chain.keeps (K := fun s t => linesOf t = linesOf s) (fun _ => rfl) (fun _ _ _ h k => k.trans h) (fun _ _ => Quiet.lineView) k

/-- What a small step does to the lines: nothing, or one line moves as R139, R140, R142 and R143 let it. -/
inductive LineStep (s t : State) : Prop
  | same (e : linesOf t = linesOf s)
  /-- a line that does not wait runs down, or stays down -/
  | down (l : LineId) (f : Line → Line) (e : t = s.lineTo l f) (before : s.lines[l].state ≠ .startWait)
      (after : LineDown (f s.lines[l])) (use : (f s.lines[l]).inUse = true)
      (rests : s.lines[l].state = .stopped → (f s.lines[l]).state = .stopped)
  /-- a waiting line leaves the start queue, down -/
  | left (l : LineId) (mode : t.mode = s.mode) (queue : t.startQueue = s.startQueue.erase l)
      (others : ∀ k, k ≠ l → t.lines[k] = s.lines[k]) (after : t.lines[l].state = .stopped)
  /-- the head of the start queue starts in GUARD -/
  | starts (l : LineId) (mode : s.mode = .guarded) (mode' : t.mode = .guarded) (head : l ∈ s.startQueue)
      (queue : t.startQueue = s.startQueue.erase l) (others : ∀ k, k ≠ l → t.lines[k] = s.lines[k])
      (after : t.lines[l].state = .running ∨ t.lines[l].state = .starting) (use : t.lines[l].inUse = s.lines[l].inUse)

theorem Step.lineStep {s t : State} (k : Step s t) : LineStep s t := by
  cases k with
  | quiet q => exact .same q.lineView
  | station x f => exact .same rfl
  | release x dest => exact .same rfl
  | grant x => exact .same rfl
  | gate g f => exact .same rfl
  | coast l c use up =>
    refine .down l _ rfl (up_not_waiting up) (coast_down _ c s.now) ((coast_kept _ c s.now).inUse.trans use) fun rests => ?_
    exact (LineDown.not_up (.inl rests) up).elim
  | unqueue l c =>
    refine .left l (lineTo_mode _ l _) (lineTo_queue _ l _) (fun k e => ?_) ?_
    · rw [lineTo_line, if_neg e]
    · rw [lineTo_here]
      rfl
  | cold l c use down =>
    exact .down l _ rfl (LineDown.not_waiting down.symm) (coldCause_down c down.symm) ((coldCause_kept _ c).inUse.trans use)
      (coldCause_stopped c)
  | start l rest hm head =>
    exact .starts l hm ((startLine_kept s l).mode.trans hm) (head ▸ .head _) (startLine_queue s l)
      (fun k e => startLine_line s e) (startLine_up s l) ((startLine_kept s l).lines l).inUse
  | close i => exact .same (moveShutter_lineView s i _)
  | drop i => exact .same (moveShutter_lineView s i _)
  | sirens z => exact .same rfl

theorem LineStep.queued {s t : State} (k : LineStep s t) (h : Queued s) : Queued t := by
  cases k with
  | same e => exact h.of_same (congrArg Prod.snd e)
  | down l f e before after use _ =>
    exact e ▸ lineTo_queued h before after.not_waiting fun off => absurd (use.symm.trans off) Bool.noConfusion
  | left l _ queue others after => exact h.erase queue others (by rw [after]; exact LineState.noConfusion) fun _ => after
  | starts l _ _ head queue others after use =>
    refine h.erase queue others (up_not_waiting after) fun off => ?_
    have waits := (h.meets l).queued.mp head
    rw [(h.meets l).unused (use ▸ off)] at waits
    cases waits

/-- Outside GUARD a line that is down stays down. -/
theorem LineStep.lineDown {s t : State} (k : LineStep s t) (hm : s.mode ≠ .guarded) {l : LineId}
    (h : LineDown s.lines[l]) : LineDown t.lines[l] := by
  cases k with
  | same e =>
    rw [LineDown, (queueOf_line (congrArg Prod.snd e) l).2]
    exact h
  | down k f e before after use _ =>
    rw [e, lineTo_line]
    split
    · rename_i same
      exact same ▸ after
    · exact h
  | left k _ _ others after =>
    by_cases e : l = k
    · exact e ▸ .inl after
    · rwa [others l e]
  | starts k mode => exact absurd mode hm

/-- A line that is STOPPED and waits in no queue rests so. -/
theorem LineStep.rests {s t : State} (k : LineStep s t) {l : LineId} (state : s.lines[l].state = .stopped)
    (unqueued : l ∉ s.startQueue) : t.lines[l].state = .stopped ∧ l ∉ t.startQueue := by
  cases k with
  | same e =>
    have queue : t.startQueue = s.startQueue := congrArg (·.2.1) e
    exact ⟨(queueOf_line (congrArg Prod.snd e) l).2.trans state, queue ▸ unqueued⟩
  | down k f e before after use rests =>
    rw [e, lineTo_queue, lineTo_line]
    split
    · rename_i same
      exact ⟨same ▸ rests (same ▸ state), unqueued⟩
    · exact ⟨state, unqueued⟩
  | left k _ queue others after =>
    refine ⟨?_, fun queued => unqueued (List.mem_of_mem_erase (queue ▸ queued))⟩
    by_cases e : l = k
    · exact e ▸ after
    · rwa [others l e]
  | starts k _ _ head queue others =>
    have other : l ≠ k := fun e => unqueued (e ▸ head)
    exact ⟨by rwa [others l other], fun queued => unqueued (List.mem_of_mem_erase (queue ▸ queued))⟩

theorem Step.ordered {s t : State} (k : Step s t) (h : s.linesOrdered) : t.linesOrdered := by
  rw [linesOrdered_iff] at *
  have mode := k.kept.mode
  exact ⟨k.lineStep.queued h.1, fun unguarded l => k.lineStep.lineDown (mode ▸ unguarded) (h.2 (mode ▸ unguarded) l)⟩

theorem Steps.queued {s t : State} (k : Steps s t) (h : Queued s) : Queued t :=
  Chain.holds (fun _ _ k h => k.lineStep.queued h) k h

theorem Steps.lineDown {s t : State} (k : Steps s t) (hm : s.mode ≠ .guarded) {l : LineId} (h : LineDown s.lines[l]) :
    LineDown t.lines[l] :=
  (Chain.holds (P := fun u => u.mode ≠ .guarded ∧ LineDown u.lines[l])
    (fun a b (k : Step a b) h => ⟨by rw [k.kept.mode]; exact h.1, k.lineStep.lineDown h.1 h.2⟩) k ⟨hm, h⟩).2

theorem Steps.rests {s t : State} (k : Steps s t) {l : LineId} (state : s.lines[l].state = .stopped)
    (unqueued : l ∉ s.startQueue) : t.lines[l].state = .stopped ∧ l ∉ t.startQueue :=
  Chain.holds (P := fun u => u.lines[l].state = .stopped ∧ l ∉ u.startQueue)
    (fun _ _ (k : Step _ _) h => k.lineStep.rests h.1 h.2) k ⟨state, unqueued⟩

theorem Steps.ordered {s t : State} (k : Steps s t) (h : s.linesOrdered) : t.linesOrdered :=
  Chain.holds (P := State.linesOrdered) (fun _ _ => Step.ordered) k h

theorem Quiets.ordered {s t : State} (k : Quiets s t) (h : s.linesOrdered) : t.linesOrdered := ordered_of_same h k.lineView

end Sys2Proof.Laws
end


section
/-! PROOFS. The accord of start queue and lines through every command and event (R141, R142, R145): the deliveries keep it, and
beside them only the line commands, LOAD LINE, the run-down end, the part modes and the resets touch the state of a line. -/
namespace Sys2Proof.Laws
open Sys2Proof.Machine

/-! ## Shared operations of the events -/

theorem finish_ordered {w : Work} (h : w.st.linesOrdered) : w.finish.linesOrdered := (finish_steps w).ordered h

theorem foldl_ordered {α : Type} {f : Work → α → Work} (step : ∀ w a, w.st.linesOrdered → (f w a).st.linesOrdered)
    {l : List α} {w : Work} (h : w.st.linesOrdered) : (l.foldl f w).st.linesOrdered :=
  foldl_keeps (P := fun w : Work => w.st.linesOrdered) step l w h

theorem push_ordered {w : Work} (h : w.st.linesOrdered) (d : Delivery) : (w.push d).st.linesOrdered := by
  rwa [push_st]

theorem ite_ordered {s t : State} {p : Prop} [Decidable p] (h : s.linesOrdered) (k : t.linesOrdered) :
    (if p then s else t).linesOrdered := by
  split
  · exact h
  · exact k

theorem updLine_lineView (s : State) (l : LineId) (f : Line → Line)
    (keeps : ∀ q, ((f q).inUse, (f q).state) = (q.inUse, q.state)) : linesOf (s.updLine l f) = linesOf s :=
  congrArg (fun v => (s.mode, s.startQueue, v)) (updAt_map s.lines l f _ keeps)

theorem channelTo_lineView (s : State) (d : ChanId) (c : ChanState) : linesOf (s.channelTo d c) = linesOf s := by
  unfold State.channelTo
  split
  · rfl
  · exact refreshPlaced_lineView _ _ _

theorem frameError_lineView (s : State) (d : ChanId) : linesOf (s.frameError d) = linesOf s := by
  unfold State.frameError
  dsimp only
  split
  · exact channelTo_lineView _ d .blind
  · rfl

theorem tempArrivals_lineView (s : State) (a b : Temperature) : linesOf (s.tempArrivals a b) = linesOf s := by
  unfold State.tempArrivals
  extract_lets t
  have ht : linesOf t = linesOf s := by
    unfold t
    split <;> rfl
  split
  · exact ht
  · exact ht

theorem unserve_lineView (h : Handle) (w : Work) (x : StationId) : linesOf (unserve h w x).st = linesOf w.st := by
  by_cases listed : (w.st.stations[x].served.any fun e => e.handle == h) = true
  · rw [unserve_taken listed]
    rfl
  · rw [unserve_none listed]

/-- A retirement is none of the lines' business. -/
theorem retire_lineView (w : Work) (i : SlotId) : linesOf (w.retire i).st = linesOf w.st := by
  cases k : w.st.track? i with
  | none => simp only [Work.retire, k]
  | some t =>
    have given : linesOf (unserveAll (w.st.handleOf i) (w.mod fun s => freed s i)).st = linesOf w.st :=
      foldl_keeps (P := fun v : Work => linesOf v.st = linesOf w.st) (fun v x e => (unserve_lineView _ v x).trans e) _ _ rfl
    rw [retire_eq k]
    cases t.member <;> dsimp only [Option.elim]
    case none => exact given
    case some m => exact (memberMove_zonesOnly _ (some m) none).lineView.trans given

/-- A STARTING line whose fans run is RUNNING: it stood up before, too (R143). -/
theorem checkRunning_ordered {s : State} (h : s.linesOrdered) (l : LineId) : (s.checkRunning l).linesOrdered := by
  unfold State.checkRunning
  split
  · rename_i starts
    have starting : s.lines[l].state ≠ .startWait := up_not_waiting (.inr starts.1)
    obtain ⟨guarded, use⟩ := ordered_up (l := l) h fun down => down.not_up (.inr starts.1)
    rw [linesOrdered_iff] at *
    refine ⟨lineTo_queued h.1 starting LineState.noConfusion fun off => ?_, fun unguarded => ?_⟩
    · exact absurd (use.symm.trans off) Bool.noConfusion
    · exact absurd ((lineTo_mode s l _).trans guarded) unguarded
  · exact h

/-- A line that is down stays down, and STOPPED if it is out of use. -/
theorem lineTo_ordered {s : State} (h : s.linesOrdered) {l : LineId} {f : Line → Line} (before : LineDown s.lines[l])
    (after : LineDown (f s.lines[l])) (unused : (f s.lines[l]).inUse = false → (f s.lines[l]).state = .stopped) :
    (s.lineTo l f).linesOrdered := by
  rw [linesOrdered_iff] at *
  refine ⟨lineTo_queued h.1 before.not_waiting after.not_waiting unused, fun unguarded k => ?_⟩
  rw [lineTo_line]
  split
  · rename_i same
    exact same ▸ after
  · exact h.2 (lineTo_mode s l f ▸ unguarded) k

section
variable {w : Work} (h : w.st.linesOrdered)
include h

/-- A change of the state of an event in progress that leaves the queue and the lines. -/
theorem mod_ordered {f : State → State} (e : linesOf (f w.st) = linesOf w.st) : (w.mod f).st.linesOrdered :=
  ordered_of_same h e

theorem recompute_ordered (z : ZoneId) : (w.recompute z).st.linesOrdered :=
  ordered_of_same h (recompute_zonesOnly w z).lineView

/-- A cause is entered in a zone and arrives there. -/
theorem caused_ordered (z : ZoneId) (f : Zone → Zone) (l : Level) :
    ((w.mod fun s => s.updZone z f).arrive z l).st.linesOrdered :=
  recompute_ordered (w := (w.mod fun s => s.updZone z f).mod fun s => s.updZone z (Zone.latch l)) (ordered_of_same h rfl) z

theorem shutdown_ordered (l : LineId) (c : StopCause) : (w.shutdown l c).st.linesOrdered := (shutdown_steps w l c).ordered h

theorem faultGate_ordered (g : GateId) (r : GateFault) : (w.faultGate g r).st.linesOrdered := by
  unfold Work.faultGate
  exact shutdown_ordered (push_ordered (mod_ordered h rfl) _) _ _

theorem travelGate_ordered (g : GateId) (d : GateState) : (w.travelGate g d).st.linesOrdered :=
  push_ordered (push_ordered (mod_ordered h rfl) _) _

theorem takeRoute_ordered (i : SlotId) (route : List RouteItem) : (w.takeRoute i route).st.linesOrdered :=
  (takeRoute_steps w i route).ordered h

theorem faultStation_ordered (x : StationId) (r : StationFault) : (w.faultStation x r).st.linesOrdered := by
  unfold Work.faultStation
  extract_lets left stopped
  have hstopped : stopped.st.linesOrdered := (stopCovering_steps left x .fault).ordered (ordered_of_same h rfl)
  clear_value stopped
  exact push_ordered (ordered_of_same hstopped (refreshPlaced_lineView stopped.st .station (.station x))) _

theorem cutStation_ordered (x : StationId) : (w.cutStation x).st.linesOrdered := by
  unfold Work.cutStation
  extract_lets removed left cut
  have hcut : cut.st.linesOrdered :=
    foldl_ordered (fun w i h => (stopEntries_steps w x _ .cut i).ordered h) (w := left) (ordered_of_same h rfl)
  clear_value cut
  exact push_ordered (mod_ordered hcut rfl) _

theorem escapeTrack_ordered (i : SlotId) (r : EscapeReason) : (w.escapeTrack i r).st.linesOrdered := by
  unfold Work.escapeTrack
  split
  · exact h
  · split
    · extract_lets escaped synced
      have hsynced : synced.st.linesOrdered := (syncMember_steps escaped i).ordered (mod_ordered h rfl)
      clear_value synced
      split
      · exact hsynced
      · exact push_ordered hsynced _
    · exact h

theorem feedback_ordered (m : FanId) (running : Bool) (l : LineId) : (w.feedback m running l).st.linesOrdered := by
  unfold Work.feedback
  dsimp only
  split
  · exact h
  · split
    · exact checkRunning_ordered h l
    · exact shutdown_ordered h l .fanFault
    · exact h

/-! ## Births -/

theorem findSlot_ordered : w.findSlot.1.st.linesOrdered := by
  unfold Work.findSlot
  split
  · exact h
  · split
    · exact ordered_of_same h (retire_lineView w _)
    · exact h

/-- A burst list is none of the queue's business; the burst it completes shuts its line down (R137). -/
theorem lineBirth_ordered (l : LineId) (time : Tick) : (w.lineBirth l time).st.linesOrdered := by
  unfold Work.lineBirth
  split
  · exact h
  · extract_lets joined arrived
    have hjoined : joined.st.linesOrdered := mod_ordered h (updLine_lineView w.st l _ fun _ => rfl)
    split
    · have harrived : arrived.st.linesOrdered := by
        refine foldl_ordered (fun w z h => ?_) hjoined
        split
        · exact caused_ordered h z _ .alarm
        · exact h
      refine shutdown_ordered ?_ l .burst
      exact mod_ordered harrived (updLine_lineView arrived.st l _ fun _ => rfl)
    · exact hjoined

theorem birth_ordered (seg : SegId) (position : Nat) (d : ChanId) (glow : Glow) (intensity : Byte) (time : Tick)
    (injected : Bool) : (w.birth seg position d glow intensity time injected).1.st.linesOrdered := by
  have found := findSlot_ordered h
  unfold Work.birth
  split
  · rename_i v hv
    rwa [hv] at found
  · rename_i v i hv
    rw [hv] at found
    extract_lets born placed routed
    have hplaced : placed.st.linesOrdered := mod_ordered found rfl
    have hrouted : routed.st.linesOrdered :=
      ordered_of_same (takeRoute_ordered hplaced i (placed.st.walkFromDetector seg position d)) (raise_lineView _ _)
    clear_value routed
    split
    · exact hrouted
    · exact lineBirth_ordered hrouted _ time

theorem tableFull_ordered (seg : SegId) : (w.tableFull seg).st.linesOrdered := by
  unfold Work.tableFull
  extract_lets g
  have full : (w.arriveTableFull g.zone).st.linesOrdered := caused_ordered h g.zone _ .alarm
  exact ordered_of_same (shutdown_ordered full g.line .tableFull) (raise_lineView _ _)

theorem qualified_ordered (d : ChanId) (glow : Glow) (intensity : Byte) (time : Tick) :
    (w.qualified d glow intensity time).st.linesOrdered := by
  unfold Work.qualified
  split
  · unfold Work.correlate
    split
    · exact h
    · exact takeRoute_ordered (mod_ordered h rfl) _ _
  · split
    · exact h
    · rename_i seg position _
      have born := birth_ordered h seg position d glow intensity time false
      split
      · rename_i v _ hv
        rwa [hv] at born
      · rename_i v hv
        rw [hv] at born
        exact tableFull_ordered born seg

/-! ## Stalls and zones -/

theorem enterStall_ordered (i : SlotId) : (w.enterStall i).st.linesOrdered := by
  unfold Work.enterStall
  split
  · exact h
  · split
    · exact (withdrawUnopened_steps _ i).ordered (mod_ordered h rfl)
    · exact h

theorem recover_ordered (i : SlotId) : (w.recover i).st.linesOrdered := by
  unfold Work.recover
  split
  · exact h
  · split
    · exact takeRoute_ordered (mod_ordered h rfl) i _
    · exact h

theorem stallEvent_ordered (c : AirId) (stall : StallState) : (w.stallEvent c stall).st.linesOrdered := by
  refine foldl_ordered (fun w i h => ?_) h
  split
  · exact h
  · split
    · cases stall with
      | stalled => exact enterStall_ordered h i
      | none => exact recover_ordered h i
      | flowing => exact recover_ordered h i
    · exact h

theorem releaseZone_ordered (z : ZoneId) : (w.releaseZone z).st.linesOrdered := by
  unfold Work.releaseZone
  extract_lets old v
  have hv : v.st.linesOrdered := mod_ordered h rfl
  split
  · exact hv
  · exact push_ordered (mod_ordered hv rfl) _

end

/-! ## What the events of time and of the inputs do -/

section
variable {s : State} (h : s.linesOrdered)
include h

/-- An event keeps the accord where it does so when it is due. -/
theorem event_ordered_due {d : Bool} {f : State → Work} (k : d = true → (f s).st.linesOrdered) :
    (s.event d f).linesOrdered := by
  unfold State.event
  split
  · rename_i due
    exact finish_ordered (k (Bool.and_eq_true_iff.mp due).2)
  · exact h

theorem event_ordered {d : Bool} {f : State → Work} (k : (f s).st.linesOrdered) : (s.event d f).linesOrdered :=
  event_ordered_due h fun _ => k

theorem entryEvent_ordered {i : SlotId} {place : Nat} {due : Tick → Tick → RouteItem → Bool}
    {f : Nat → RouteItem → Work → Work} (k : ∀ n r, Quiets s (f n r s.begin).st) :
    (s.entryEvent i place due f).linesOrdered := by
  unfold State.entryEvent
  split
  · exact event_ordered h (Quiets.ordered ((k _ _).trans (extend_steps _ i)) h)
  · exact h

theorem acceptFrame_ordered (d : ChanId) (glow : Glow) (time : Tick) (f : Frame) :
    (s.acceptFrame d glow time f).st.linesOrdered := by
  unfold State.acceptFrame
  extract_lets seen
  have hseen : seen.linesOrdered := ordered_of_same h rfl
  split
  · exact ordered_of_same hseen (channelTo_lineView _ d .blind)
  · exact ordered_of_same hseen (channelTo_lineView _ d .inService)
  · split
    · exact ordered_of_same hseen rfl
    · exact qualified_ordered (ordered_of_same hseen rfl) d glow _ time

theorem judgeFrame_ordered (d : ChanId) (glow : Glow) (time : Tick) (f : Option Frame) :
    (s.judgeFrame d glow time f).st.linesOrdered := by
  unfold State.judgeFrame
  split
  · exact ordered_of_same h rfl
  · cases f with
    | none => exact ordered_of_same h (frameError_lineView s d)
    | some f =>
      dsimp only
      split
      · exact h
      · exact acceptFrame_ordered h d glow time f

theorem bitArrives_ordered (d : ChanId) (bit : Bool) : (s.bitArrives d bit).st.linesOrdered := by
  unfold State.bitArrives
  split
  · dsimp only
    split <;> exact ordered_of_same h rfl
  · dsimp only
    split
    · exact ordered_of_same h rfl
    · exact judgeFrame_ordered (s := s.receiver d _) (ordered_of_same h rfl) d _ _ _

theorem gateBoundary_ordered : s.gateBoundary.st.linesOrdered := by
  unfold State.gateBoundary
  extract_lets t w1 w2 w3
  have ht : t.linesOrdered := ordered_of_same h rfl
  split
  · exact ht
  · have stalls : w1.st.linesOrdered := by
      refine foldl_ordered (w := t.begin) (fun w c h => ?_) ht
      split
      · exact h
      · exact stallEvent_ordered h c _
    clear_value w1
    have temps : w2.st.linesOrdered := mod_ordered stalls
      (foldl_keeps (P := fun u => linesOf u = linesOf w1.st)
        (fun u i e => (tempArrivals_lineView u s.temps[i] t.temps[i]).trans e) _ _ rfl)
    clear_value w2
    have levels : w3.st.linesOrdered := foldl_ordered (fun _ z h => recompute_ordered h z) temps
    clear_value w3
    exact mod_ordered levels (foldl_keeps (P := fun u => linesOf u = linesOf w3.st)
      (fun u z e => (refreshFault_flagged u .sensor z).lineView.trans e) _ _ rfl)

theorem pressureSeen_ordered (x : StationId) (shown : Bool) : (s.pressureSeen x shown).st.linesOrdered := by
  unfold State.pressureSeen
  split
  · exact ordered_of_same h rfl
  · exact faultStation_ordered (w := s.begin) h x .pressureLost
  · exact h

theorem execPurgeDue_ordered (x : StationId) : ∃ t, execPurgeDue x s = .next t ∧ t.linesOrdered := by
  refine ⟨_, rfl, event_ordered h ?_⟩
  extract_lets before owed told
  have howed : owed.linesOrdered := ordered_of_same h rfl
  have htold : told.linesOrdered := by
    unfold told
    split
    · exact ordered_of_same howed (refreshPlaced_lineView owed .purgeOverdue (.station x))
    · exact howed
  exact push_ordered (w := told.begin) htold _

theorem execFrameAbandoned_ordered (d : ChanId) : ∃ t, execFrameAbandoned d s = .next t ∧ t.linesOrdered := by
  refine ⟨_, rfl, event_ordered h ?_⟩
  split
  · exact judgeFrame_ordered (s := s.receiver d _) (ordered_of_same h rfl) d _ _ _
  · exact h

theorem execEchoWindowExpiry_ordered (d : ChanId) : ∃ t, execEchoWindowExpiry d s = .next t ∧ t.linesOrdered := by
  refine ⟨_, rfl, event_ordered h ?_⟩
  dsimp only
  split
  · exact ordered_of_same h (channelTo_lineView _ d .blind)
  · exact ordered_of_same h rfl

theorem execLingerExpiry_ordered (i : SlotId) : ∃ t, execLingerExpiry i s = .next t ∧ t.linesOrdered := by
  refine ⟨_, rfl, event_ordered h ?_⟩
  split
  · exact ordered_of_same h rfl
  · exact ordered_of_same h (retire_lineView s.begin i)

theorem limitsSeen_ordered (g : GateId) : (s.limitsSeen g).st.linesOrdered := by
  unfold State.limitsSeen
  split
  · exact faultGate_ordered (w := s.begin) h g .limitLost
  · exact (checkGate_steps s.begin g).ordered h

theorem execStartListExpiry_ordered : ∃ t, execStartListExpiry s = .next t ∧ t.linesOrdered := by
  refine ⟨_, rfl, event_ordered h ?_⟩
  extract_lets shorter
  have hshorter : shorter.linesOrdered := ordered_of_same h rfl
  split
  · exact (testStarts_steps shorter ‹_›).ordered hshorter
  · exact hshorter

/-- A run-down ends (R140). -/
theorem execRunDownEnd_ordered (l : LineId) : ∃ t, execRunDownEnd l s = .next t ∧ t.linesOrdered := by
  refine ⟨_, rfl, event_ordered_due h fun due => ?_⟩
  have stopping : s.lines[l].state = .stopping := beq_iff_eq.mp (Bool.and_eq_true_iff.mp due).1
  exact lineTo_ordered h (.inr stopping) (.inl rfl) fun _ => rfl

theorem callFilter_ordered (z : ZoneId) : (s.callFilter z).st.linesOrdered := by
  unfold State.callFilter
  extract_lets w
  have hw : w.st.linesOrdered := ordered_of_same h rfl
  split
  · exact recompute_ordered (w := w.mod fun s => s.updZone z (Zone.latch .fire)) (ordered_of_same hw rfl) z
  · exact hw

theorem transact_ordered {f : State → State} (e : linesOf (f s) = linesOf s) : (s.transact f).linesOrdered := by
  obtain ⟨_, r⟩ | ⟨_, r⟩ | ⟨_, r⟩ := transact_cases s f <;> rw [r]
  · exact h
  · exact ordered_of_same h rfl
  · exact ordered_of_same h e

theorem shutterEvent_ordered (i : ShutterId) (due : Shutter → Bool) (f : Shutter → Shutter) :
    (s.shutterEvent i due f).linesOrdered := by
  unfold State.shutterEvent
  exact ite_ordered (ordered_of_same h (moveShutter_lineView s i f)) h

theorem sirenPhaseEnd_ordered (i : SirenId) : (s.sirenPhaseEnd i).linesOrdered := by
  unfold State.sirenPhaseEnd
  split
  · split
    · exact ordered_of_same h rfl
    · dsimp only
      split <;> exact ordered_of_same h rfl
  · exact h

end

end Sys2Proof.Laws
end


section
/-! PROOFS. O58: the part modes, the resets, the judgements of the link commands, and then every command keep the start queue
and the line states in accord. -/
namespace Sys2Proof.Laws
open Sys2Proof.Machine

/-! ## Part modes and part resets -/

theorem guardRecords_queueOf (s : State) : queueOf s.guardRecords = queueOf s := by
  refine congrArg (Prod.mk s.startQueue) (Vector.ext fun l hl => ?_)
  simp [State.guardRecords, Line.guard]

/-- GUARD entry finds every line down, and leaves it so (R14). -/
theorem enterGuard_ordered {s : State} (h : s.linesOrdered) (hm : s.mode ≠ .guarded) : s.enterGuard.st.linesOrdered := by
  unfold State.enterGuard
  extract_lets entered faulted
  have hentered : entered.st.linesOrdered :=
    ordered_of_same (ordered_unguarded h hm (guardRecords_queueOf s)) (raise_lineView _ _)
  have hfaulted : faulted.st.linesOrdered := by
    refine foldl_ordered (fun w g h => ?_) hentered
    split
    · exact faultGate_ordered h g .limitLost
    · exact h
  clear_value faulted
  exact mod_ordered hfaulted (refreshAllFaults_flagged faulted.st).lineView

theorem execValidationWalkEnd_ordered {s : State} (h : s.linesOrdered) :
    ∃ t, execValidationWalkEnd s = .next t ∧ t.linesOrdered := by
  refine ⟨_, rfl, event_ordered_due h fun due => ?_⟩
  have hm : s.mode ≠ .guarded := by
    rw [((walkDue_iff s).mp due).1]
    nofun
  split
  · exact ordered_unguarded h hm rfl
  · exact enterGuard_ordered h hm

/-- RELEASE GUARD at one line: one that is up or waits is shut down (R17). -/
def releaseLine (w : Work) (l : LineId) : Work :=
  match w.st.lines[l].state with
  | .stopped | .stopping => w
  | _ => w.shutdown l .config

theorem releaseLine_down {w : Work} {l : LineId} (down : LineDown w.st.lines[l]) : releaseLine w l = w := by
  unfold releaseLine
  rcases down with e | e <;> rw [e]

theorem releaseLine_up {w : Work} {l : LineId} (up : ¬LineDown w.st.lines[l]) : releaseLine w l = w.shutdown l .config := by
  unfold releaseLine
  split
  · rename_i e
    exact absurd (.inl e) up
  · rename_i e
    exact absurd (.inr e) up
  · rfl

theorem releaseLine_steps (w : Work) (l : LineId) : Steps w.st (releaseLine w l).st := by
  by_cases down : LineDown w.st.lines[l]
  · rw [releaseLine_down down]
    exact .refl _
  · rw [releaseLine_up down]
    exact shutdown_steps w l .config

/-- A shutdown outside GUARD leaves its line down (R139). -/
theorem shutdown_lineDown {w : Work} {l : LineId} (c : StopCause) (hm : w.st.mode ≠ .guarded)
    (use : w.st.lines[l].inUse = true) : LineDown (w.shutdown l c).st.lines[l] := by
  rcases lineState_cases w.st.lines[l].state with up | waits | down
  · rw [shutdown_running c use up]
    refine (driveLineGates_steps _ l).lineDown ?_ ?_
    · exact (lineTo_mode w.st l _).symm ▸ hm
    · rw [mod_st, lineTo_here]
      exact coast_down _ c _
  · rw [shutdown_waiting c use waits]
    have mode : (lineLeft w.st l c).mode = w.st.mode := lineTo_mode _ l _
    have left : LineDown (lineLeft w.st l c).lines[l] := by
      rw [lineLeft, lineTo_here]
      exact .inl rfl
    have freed := (driveLineGates_steps (w.mod fun s => lineLeft s l c) l)
    have outside : ((w.mod fun s => lineLeft s l c).driveLineGates l).st.mode ≠ .guarded := by
      rw [freed.kept.mode]
      exact mode.symm ▸ hm
    exact (headLeft_steps _ _).lineDown outside (freed.lineDown (mode.symm ▸ hm) left)
  · rw [shutdown_cold c use down, mod_st, lineTo_here]
    exact coldCause_down c down

/-- Once RELEASE GUARD has been at every line, every line is down (R17). -/
theorem releaseLines_down (ls : List LineId) {w : Work} (hm : w.st.mode ≠ .guarded) (h : Queued w.st) {l : LineId}
    (reached : l ∈ ls ∨ LineDown w.st.lines[l]) : LineDown (ls.foldl releaseLine w).st.lines[l] := by
  induction ls generalizing w with
  | nil => exact reached.resolve_left List.not_mem_nil
  | cons k ls ih =>
    have steps := releaseLine_steps w k
    refine ih (by rw [steps.kept.mode]; exact hm) (steps.queued h) ?_
    by_cases down : LineDown w.st.lines[l]
    · exact .inr (steps.lineDown hm down)
    · rcases List.mem_cons.mp (reached.resolve_right down) with rfl | later
      · have use : w.st.lines[l].inUse = true :=
          by_contra fun off => down (.inl ((h.meets l).unused (Bool.eq_false_iff.mpr off)))
        rw [releaseLine_up down]
        exact .inr (shutdown_lineDown .config hm use)
      · exact .inl later

theorem retireAll_lineView (l : List SlotId) (w : Work) : linesOf (l.foldl Work.retire w).st = linesOf w.st :=
  foldl_keeps (P := fun v : Work => linesOf v.st = linesOf w.st) (fun v i e => (retire_lineView v i).trans e) l w rfl

theorem sirens_lineView (s : State) (v : Vector Siren 8) : linesOf { s with sirens := v } = linesOf s := rfl

theorem releaseWork_ordered {s : State} (h : s.linesOrdered) : s.releaseWork.st.linesOrdered := by
  unfold State.releaseWork
  extract_lets w0 w1 w2 w3 w4 w5
  have begun : linesOf w1.st = (.config, queueOf s) := rfl
  have retired : linesOf w2.st = (.config, queueOf s) := (retireAll_lineView (List.finRange 48) w1).trans begun
  clear_value w2
  have mode : w2.st.mode ≠ .guarded := by
    rw [show w2.st.mode = .config from congrArg Prod.fst retired]
    nofun
  have queued : Queued w2.st := ((linesOrdered_iff s).mp h).1.of_same (congrArg Prod.snd retired)
  have lines : w3 = (List.finRange 8).foldl releaseLine w2 := rfl
  have still : Queued w3.st := by
    rw [lines]
    exact Steps.queued (foldl_chain _ _ releaseLine_steps w2) queued
  have down : LinesDown w3.st := fun l => by
    rw [lines]
    exact releaseLines_down _ mode queued (.inl (List.mem_finRange l))
  clear_value w3
  have line : ∀ l : LineId, w4.st.lines[l] = { w3.st.lines[l] with burst := [] } := fun l => Vector.getElem_map _ _
  have records : w4.st.linesOrdered := by
    refine ordered_of_down rfl (fun l => ?_) fun l => ?_
    · rw [line]
      exact down l
    · rw [line]
      exact (still.meets l).unused
  clear_value w4
  have zones : w5.st.linesOrdered := foldl_ordered (fun _ z h => releaseZone_ordered h z) records
  clear_value w5
  have flagged : w5.st.refreshAllFaults.linesOrdered := ordered_of_same zones (refreshAllFaults_flagged w5.st).lineView
  exact ordered_of_same ((judgeShutters_steps _).ordered flagged) (sirens_lineView _ _)

theorem partReset_ordered (s : State) : s.partReset.linesOrdered := ordered_of_same reset_linesOrdered rfl

/-! ## Judgements of link commands -/

/-- A judgement leaves, if it answers a state at all, one whose start queue and lines are in accord. -/
def JudgedOrdered (j : Judged) : Prop := ∀ u r, j = .ok (u, r) → u.linesOrdered

theorem JudgedOrdered.ok {u : State} {r : Reply} (h : u.linesOrdered) : JudgedOrdered (.ok (u, r)) := by
  rintro _ _ ⟨⟩
  exact h

theorem JudgedOrdered.error {r : Reply} : JudgedOrdered (.error r) := fun _ _ e => nomatch e

/-- A step of a judgement changes nothing by itself. -/
theorem JudgedOrdered.bind {α : Type} {x : Except Reply α} {f : α → Judged} (h : ∀ a, x = .ok a → JudgedOrdered (f a)) :
    JudgedOrdered (x >>= f) := by
  intro u r e
  obtain ⟨a, hx, hf⟩ := bind_ok e
  exact h a hx u r hf

section
variable {s : State} (h : s.linesOrdered) (target : Half) (data : List Byte)
include h

/-- A judgement that leaves the queue and the lines as they are. -/
theorem JudgedOrdered.same {u : State} {r : Reply} (e : linesOf u = linesOf s) : JudgedOrdered (.ok (u, r)) :=
  .ok (ordered_of_same h e)

theorem request_ordered {n : Nat} {names : Names} {t : Half} {d : List Byte} {own : State → Judged}
    (j : JudgedOrdered (own s)) : (s.request n names t d own).linesOrdered := by
  obtain ⟨k, e⟩ | ⟨u, r, hu, _, e⟩ := request_cases s n names t d own <;> rw [e]
  · exact ordered_of_same h rfl
  · exact ordered_of_same (j u r hu) rfl

theorem loadPoint_ordered : JudgedOrdered (s.loadPoint target data) := by
  refine .bind fun _ _ => .bind fun _ _ => .bind fun _ _ => .bind fun placing _ => ?_
  dsimp only
  split
  · exact .bind fun _ _ => .bind fun _ _ => .bind fun _ _ => .same h rfl
  · exact .bind fun _ _ => .same h rfl

theorem loadGate_ordered : JudgedOrdered (s.loadGate target data) := by
  refine .bind fun _ _ => .bind fun g _ => .bind fun _ _ => .bind fun _ _ => .bind fun _ _ => .bind fun _ _ =>
    .bind fun _ _ => .ok (finish_ordered ?_)
  split
  · exact (checkGate_steps _ g).ordered (ordered_of_same h rfl)
  · exact ordered_of_same h rfl

omit h in
/-- What LOAD LINE makes of a line that is down (R145). -/
theorem load_down {q : Line} (inUse : Bool) (down : LineDown q) (unused : q.inUse = false → q.state = .stopped) :
    LineDown (q.load inUse) ∧ ((q.load inUse).inUse = false → (q.load inUse).state = .stopped) := by
  unfold Line.load
  cases inUse with
  | true =>
    cases use : q.inUse with
    | true => exact ⟨down, unused⟩
    | false => exact ⟨down, fun off => nomatch off⟩
  | false =>
    by_cases stopping : q.state = .stopping
    · rw [if_pos stopping]
      exact ⟨.inl rfl, fun _ => rfl⟩
    · rw [if_neg stopping]
      have stopped := down.resolve_right stopping
      exact ⟨.inl stopped, fun _ => stopped⟩

/-- LOAD LINE is taken in CONFIG, where every line is down. -/
theorem loadLine_ordered : JudgedOrdered (s.loadLine target data) := by
  refine .bind fun _ hm => .bind fun l _ => .bind fun _ _ => .bind fun _ _ => .bind fun inUse _ => .ok ?_
  have down : LineDown s.lines[l] := ((linesOrdered_iff s).mp h).2 (by rw [takenInConfig_ok.mp hm]; nofun) l
  obtain ⟨after, unused⟩ := load_down inUse down (((linesOrdered_iff s).mp h).1.meets l).unused
  exact lineTo_ordered h down after unused

theorem loadShutter_ordered : JudgedOrdered (s.loadShutter target data) := by
  refine .bind fun _ _ => .bind fun _ _ => .bind fun a _ => .bind fun _ _ => ?_
  cases a with
  | none => exact .error
  | some a => exact .bind fun _ _ => .same h rfl

theorem injectTrack_ordered : JudgedOrdered (s.injectTrack target data) := by
  refine .bind fun _ _ => .bind fun d _ => .bind fun glow _ => .bind fun _ _ => ?_
  split
  · exact .error
  · rename_i seg position _
    have born := birth_ordered (w := s.begin) h seg position d glow (byteAt data 1) s.now true
    split
    · exact .error
    · rename_i v _ hv
      rw [hv] at born
      exact .ok (finish_ordered born)

theorem callZone_ordered : JudgedOrdered (s.callZone target data) :=
  .bind fun _ _ => .bind fun z _ => .bind fun l _ => .ok (finish_ordered (caused_ordered (w := s.begin) h z _ l))

theorem endOrder_ordered (x : StationId) : (s.endOrder x).st.linesOrdered := by
  unfold State.endOrder
  exact push_ordered (ordered_of_same h rfl) _

theorem acknowledge_ordered (z : ZoneId) : (s.acknowledge z).st.linesOrdered := by
  unfold State.acknowledge
  exact recompute_ordered (ordered_of_same h rfl) z

theorem lockStation_ordered : JudgedOrdered (s.lockStation target) := by
  refine .bind fun _ _ => .bind fun x _ => .bind fun _ _ => ?_
  split
  · exact .ok h
  · refine .ok (finish_ordered ?_)
    unfold State.lockWork
    refine push_ordered ?_ _
    split
    · exact (stopCovering_steps (State.begin _) x .locked).ordered (ordered_of_same h rfl)
    · exact ordered_of_same h rfl

/-- A STOPPED line joins the tail of the start queue, and an empty queue is tested at once (R141, R142). -/
theorem joinQueue_ordered {l : LineId} (hm : s.mode = .guarded) (use : s.lines[l].inUse = true)
    (stopped : s.lines[l].state = .stopped) : (s.joinQueue l).linesOrdered := by
  unfold State.joinQueue
  extract_lets t
  have mode : t.mode = .guarded := (lineTo_mode _ l _).trans hm
  have ht : t.linesOrdered := by
    obtain ⟨queued, -⟩ := (linesOrdered_iff s).mp h
    have new : l ∉ s.startQueue := fun waits => by
      rw [(queued.meets l).queued, stopped] at waits
      cases waits
    have queue : t.startQueue = s.startQueue ++ [l] := lineTo_queue _ l _
    have here : t.lines[l] = { s.lines[l] with state := .startWait } := lineTo_here _ l _
    refine (linesOrdered_iff t).mpr ⟨queued.one (l := l) ?_ (fun k e => ⟨?_, ?_⟩) ⟨?_, ?_⟩, fun unguarded => absurd mode unguarded⟩
    · rw [queue]
      exact List.concat_eq_append ▸ queued.once.concat new
    · exact (lineTo_line _ l k _).trans (if_neg e)
    · rw [queue, List.mem_append, List.mem_singleton]
      exact or_iff_left e
    · rw [queue, here]
      exact iff_of_true (List.mem_append_right _ (.head _)) rfl
    · rw [here]
      exact fun off => absurd (use.symm.trans off) Bool.noConfusion
  clear_value t
  split
  · exact (testStarts_steps t mode).ordered ht
  · exact ht

theorem restartLine_ordered : JudgedOrdered (s.restartLine target) := by
  refine .bind fun _ hm => .bind fun l _ => .bind fun _ use => .bind fun _ stopped => .bind fun _ _ => .bind fun _ _ =>
    .bind fun _ _ => .ok (joinQueue_ordered h (takenInGuard_ok.mp hm) ?_ ?_)
  · simpa using refuseFor_ok.mp use
  · simpa using refuseFor_ok.mp stopped

theorem setPermit_ordered (i : ShutterId) (granted : Bool) : (s.setPermit i granted).linesOrdered := by
  unfold State.setPermit
  extract_lets t
  have ht : t.linesOrdered := ordered_of_same h rfl
  exact ite_ordered ht ((judgeShutter_steps t i).ordered ht)

theorem permitAll_ordered (granted : Bool) : JudgedOrdered (s.permitAll granted) :=
  .bind fun _ _ => .ok (foldl_keeps (P := State.linesOrdered) (fun _ i h => setPermit_ordered h i granted) _ s h)

end

/-! ## Every command -/

/-- Every command, in every state, keeps the accord. -/
theorem exec_ordered (c : Instr) {s : State} (h : s.linesOrdered) : ∃ t, exec c s = .next t ∧ t.linesOrdered := by
  cases c with
  -- loads and part modes
  | loadLimits t d => exact ⟨_, rfl, request_ordered h (.bind fun _ _ => .same h rfl)⟩
  | loadSegment t d =>
    exact ⟨_, rfl, request_ordered h (.bind fun _ _ => .bind fun _ _ => .bind fun _ _ => .bind fun _ _ => .bind fun _ _ =>
      .bind fun _ _ => .bind fun _ _ => .bind fun _ _ => .bind fun _ _ => .same h rfl)⟩
  | loadPoint t d => exact ⟨_, rfl, request_ordered h (loadPoint_ordered h t d)⟩
  | loadGate t d => exact ⟨_, rfl, request_ordered h (loadGate_ordered h t d)⟩
  | loadLine t d => exact ⟨_, rfl, request_ordered h (loadLine_ordered h t d)⟩
  | loadStation t d =>
    exact ⟨_, rfl, request_ordered h (.bind fun _ _ => .bind fun _ _ => .bind fun _ _ => .bind fun _ _ => .bind fun _ _ =>
      .same h rfl)⟩
  | loadChannel t d | loadTemperature t d | loadPattern t d =>
    exact ⟨_, rfl, request_ordered h (.bind fun _ _ => .bind fun _ _ => .bind fun _ _ => .bind fun _ _ => .same h rfl)⟩
  | loadAirflow t d | loadSiren t d =>
    exact ⟨_, rfl, request_ordered h (.bind fun _ _ => .bind fun _ _ => .bind fun _ _ => .same h rfl)⟩
  | loadShutter t d => exact ⟨_, rfl, request_ordered h (loadShutter_ordered h t d)⟩
  | commit t d =>
    refine ⟨_, rfl, request_ordered h (.bind fun _ hm => .ok (ordered_unguarded h ?_ rfl))⟩
    rw [takenInConfig_ok.mp hm]
    nofun
  | partReset t d => exact ⟨_, rfl, request_ordered h (.bind fun _ _ => .same h rfl)⟩
  | validationWalkEnd => exact execValidationWalkEnd_ordered h
  | releaseGuard t d =>
    exact ⟨_, rfl, request_ordered h (.bind fun _ _ => .bind fun _ _ => .bind fun _ _ =>
      .ok (finish_ordered (releaseWork_ordered h)))⟩
  | linkPartResetTakesPlace => exact ⟨_, rfl, ite_ordered (partReset_ordered s) h⟩
  | resetLineLow => exact ⟨_, rfl, ite_ordered h (partReset_ordered _)⟩
  | resetLineHigh low =>
    exact ⟨_, rfl, ite_ordered h (ordered_of_same (partReset_ordered { s with resetLow := false }) rfl)⟩
  | powerUp => exact ⟨_, rfl, partReset_ordered s⟩
  -- reads and notice commands
  | readStatus t d | readNotices t d => exact ⟨_, rfl, request_ordered h (.ok h)⟩
  | readZone t d | readStation t d | readLine t d | readGate t d | readShutter t d | readSiren t d | readChannel t d
  | readAirflow t d | readTemperature t d | lookupTrack t d =>
    exact ⟨_, rfl, request_ordered h (.bind fun _ _ => .bind fun _ _ => .ok h)⟩
  | listTracks t d => exact ⟨_, rfl, request_ordered h (.bind fun _ _ => .bind fun _ _ => .bind fun _ _ => .ok h)⟩
  | clearNotices t d | setNotices t d | maskNotices t d =>
    exact ⟨_, rfl, request_ordered h (.bind fun _ _ => .same h rfl)⟩
  -- tracks and zones
  | annotateTrack t d =>
    exact ⟨_, rfl, request_ordered h (.bind fun _ _ => .bind fun _ _ => .bind fun _ _ => .bind fun _ _ => .same h rfl)⟩
  | retireTrack t d =>
    exact ⟨_, rfl, request_ordered h (.bind fun _ _ => .bind fun _ _ => .bind fun _ _ =>
      .ok (finish_ordered (ordered_of_same h (retire_lineView s.begin _))))⟩
  | injectTrack t d => exact ⟨_, rfl, request_ordered h (injectTrack_ordered h t d)⟩
  | ackZone t d =>
    exact ⟨_, rfl, request_ordered h (.bind fun _ _ => .bind fun z _ =>
      .ok (finish_ordered (acknowledge_ordered h z)))⟩
  | callZone t d => exact ⟨_, rfl, request_ordered h (callZone_ordered h t d)⟩
  -- stations
  | manualRelease t d =>
    exact ⟨_, rfl, request_ordered h (.bind fun _ _ => .bind fun x _ => .bind fun _ _ => .bind fun _ _ => .bind fun _ _ =>
      .ok (finish_ordered (push_ordered (ordered_of_same h rfl) _)))⟩
  | cancelRelease t d =>
    exact ⟨_, rfl, request_ordered h (.bind fun _ _ => .bind fun x _ => .bind fun _ _ => .bind fun _ _ =>
      .ok (finish_ordered (endOrder_ordered h x)))⟩
  | lockStation t d => exact ⟨_, rfl, request_ordered h (lockStation_ordered h t)⟩
  | unlockStation t d =>
    exact ⟨_, rfl, request_ordered h (.bind fun _ _ => .bind fun x _ => .bind fun _ _ =>
      .ok (finish_ordered (push_ordered (ordered_of_same h rfl) _)))⟩
  | clearStation t d =>
    exact ⟨_, rfl, request_ordered h (.bind fun _ _ => .bind fun x _ => .bind fun _ _ => .bind fun _ _ =>
      .ok (finish_ordered (push_ordered (ordered_of_same h (refreshPlaced_lineView _ _ _)) _)))⟩
  -- lines and gates
  | restartLine t d => exact ⟨_, rfl, request_ordered h (restartLine_ordered h t)⟩
  | stopLine t d =>
    exact ⟨_, rfl, request_ordered h (.bind fun _ _ => .bind fun l _ => .bind fun _ _ =>
      .ok (finish_ordered (shutdown_ordered (w := s.begin) h l .link)))⟩
  | gateNormal t d =>
    exact ⟨_, rfl, request_ordered h (.bind fun _ _ => .bind fun g _ => .bind fun _ _ => .bind fun _ _ =>
      .bind fun _ _ => .bind fun _ _ => .ok (finish_ordered (travelGate_ordered (w := s.begin) h g .toNormal)))⟩
  | clearGate t d =>
    exact ⟨_, rfl, request_ordered h (.bind fun _ _ => .bind fun g _ => .bind fun _ _ => .bind fun _ _ =>
      .ok (finish_ordered (travelGate_ordered (ordered_of_same h rfl) g .toAbort)))⟩
  -- shutters and sirens
  | grantHold t d | revokeHold t d =>
    exact ⟨_, rfl, request_ordered h (.bind fun _ _ => .bind fun i _ => .ok (setPermit_ordered h i _))⟩
  | grantAll t d | revokeAll t d => exact ⟨_, rfl, request_ordered h (permitAll_ordered h _)⟩
  | openShutter t d =>
    exact ⟨_, rfl, request_ordered h (.bind fun _ _ => .bind fun i _ => .bind fun _ _ => .bind fun _ _ =>
      .bind fun _ _ => .same h (moveShutter_lineView s i _))⟩
  | clearShutter t d =>
    exact ⟨_, rfl, request_ordered h (.bind fun _ _ => .bind fun i _ => .bind fun _ _ => .same h (moveShutter_lineView s i _))⟩
  | silenceSiren t d =>
    exact ⟨_, rfl, request_ordered h (.bind fun _ _ => .bind fun _ _ => .bind fun _ _ => .bind fun _ _ => .same h rfl)⟩
  -- the link
  | unknownOp o t d => exact ⟨_, rfl, ite_ordered h (transact_ordered h rfl)⟩
  | headerParityError header => exact ⟨_, rfl, ite_ordered h (transact_ordered h rfl)⟩
  | badCrc header d crc => exact ⟨_, rfl, ite_ordered (transact_ordered h rfl) h⟩
  | alertHoldEnd | holdTransactionIgnored | alertPulseEnd => exact ⟨_, rfl, ite_ordered (ordered_of_same h rfl) h⟩
  | shortTransaction => exact ⟨_, rfl, transact_ordered h rfl⟩
  -- detectors and inputs
  | frameComplete d bit | detectorBitArrival d bit => exact ⟨_, rfl, event_ordered h (bitArrives_ordered h d bit)⟩
  | frameAbandoned d => exact execFrameAbandoned_ordered h d
  | surveyBoundary => exact ⟨_, rfl, event_ordered h (ordered_of_same h rfl)⟩
  | supervisionPulse d | testDriveEnd d => exact ⟨_, rfl, event_ordered h (ordered_of_same h rfl)⟩
  | echoWindowExpiry d => exact execEchoWindowExpiry_ordered h d
  | airflowPulse a => exact ⟨_, rfl, ite_ordered h (ordered_of_same h rfl)⟩
  | temperaturePulse i width => exact ⟨_, rfl, ite_ordered h (ordered_of_same h rfl)⟩
  | sampleGateBoundary => exact ⟨_, rfl, event_ordered h (gateBoundary_ordered h)⟩
  -- track events
  | stallLimitExpiry i => exact ⟨_, rfl, event_ordered h (escapeTrack_ordered (w := s.begin) h i .stall)⟩
  | segmentAdvance i => exact ⟨_, rfl, event_ordered h ((advance_steps s.begin i).ordered h)⟩
  | recentPassExpiry i => exact ⟨_, rfl, event_ordered h (ordered_of_same h rfl)⟩
  | lingerExpiry i => exact execLingerExpiry_ordered h i
  | stationEarlyBound i place =>
    refine ⟨_, rfl, entryEvent_ordered h fun k r => ?_⟩
    cases r.item.station? with
    | none => exact .refl _
    | some x => exact earlyBound_steps s.begin i k x
  | stationLateBound i place =>
    refine ⟨_, rfl, entryEvent_ordered h fun k r => ?_⟩
    cases r.item.station? with
    | none => exact .refl _
    | some x => exact resolveStation_steps s.begin i k x none
  | entryLateBound i place => exact ⟨_, rfl, entryEvent_ordered h fun k r => lateBound_steps s.begin i k r⟩
  -- station events
  | servedEntryOpen x i | deadlinePassed x i | servedEntryClose x i | floodMinimumRun x =>
    exact ⟨_, rfl, event_ordered h (push_ordered (ordered_of_same h rfl) _)⟩
  | pressureConfirmInput x shown =>
    have seen : (s.updStation x fun q => { q with pressure := shown }).linesOrdered := ordered_of_same h rfl
    exact ⟨_, rfl, event_ordered seen (pressureSeen_ordered seen x shown)⟩
  | confirmTimeout x => exact ⟨_, rfl, event_ordered h (faultStation_ordered (w := s.begin) h x .noConfirm)⟩
  | maxReleaseCut x => exact ⟨_, rfl, event_ordered h (cutStation_ordered (w := s.begin) h x)⟩
  | manualOrderEnd x => exact ⟨_, rfl, event_ordered h (endOrder_ordered h x)⟩
  | purgeDue x => exact execPurgeDue_ordered h x
  | purgeEnd x =>
    exact ⟨_, rfl, event_ordered h (push_ordered (ordered_of_same h (refreshPlaced_lineView _ _ _)) _)⟩
  -- gate and line events
  | gateLimitChange g n a =>
    have changed : (s.updGate g fun q => { q with normalLimit := n, abortLimit := a }).linesOrdered := ordered_of_same h rfl
    exact ⟨_, rfl, event_ordered changed (limitsSeen_ordered changed g)⟩
  | gateTravelTimeout g => exact ⟨_, rfl, event_ordered h (faultGate_ordered (w := s.begin) h g .timeout)⟩
  | runDownEnd l => exact execRunDownEnd_ordered h l
  | startListExpiry => exact execStartListExpiry_ordered h
  | fanFeedbackChange m running =>
    have fed : { s with fanFeedback := updAt s.fanFeedback m fun _ => running }.linesOrdered := ordered_of_same h rfl
    exact ⟨_, rfl, event_ordered fed (foldl_ordered (fun _ l h => feedback_ordered h m running l) fed)⟩
  | runUpEnd l => exact ⟨_, rfl, event_ordered h (shutdown_ordered (w := s.begin) h l .fanFault)⟩
  -- zone, shutter and siren events
  | callPointInput z active => exact ⟨_, rfl, ite_ordered h (ordered_of_same h rfl)⟩
  | callPointFilter z => exact ⟨_, rfl, event_ordered h (callFilter_ordered h z)⟩
  | shutterLimitChange i o c =>
    exact ⟨_, rfl, ite_ordered (ordered_of_same h rfl) (ordered_of_same h (moveShutter_lineView s i _))⟩
  | shutterObstruction i active =>
    exact ⟨_, rfl, ite_ordered (ordered_of_same h rfl) (ordered_of_same h (moveShutter_lineView s i _))⟩
  | shutterTravelTimeout i | rearmEnd i | pauseLimit i => exact ⟨_, rfl, shutterEvent_ordered h i _ _⟩
  | sirenPhaseEnd y => exact ⟨_, rfl, sirenPhaseEnd_ordered h y⟩

/-- What time brings by itself touches no line. -/
theorem idle_ordered {s : State} (h : s.linesOrdered) : s.idle.linesOrdered := by
  have ticked : linesOf s.tick = linesOf s := by
    unfold State.tick
    split <;> rfl
  unfold State.idle
  split
  · exact h
  · split
    · exact ordered_of_same h rfl
    · exact ordered_of_same h ticked

/-- Settles O58: the front command keeps the start queue and the line states in accord, and so does an empty queue. -/
theorem linesOrderedKept : Obligations.LinesOrderedKept := by
  intro s t h e
  unfold step at e
  split at e
  · rename_i c rest _
    obtain ⟨u, ran, ordered⟩ := exec_ordered c (s := { s with pending := rest }) (ordered_of_same h rfl)
    obtain rfl : u = t := Host.Outcome.next.inj (ran.symm.trans e)
    exact ordered
  · cases e
    exact idle_ordered h

end Sys2Proof.Laws
end


section
/-! PROOFS. The start queue at work (R141 to R143): a line that joins it, its head that starts, and RESTART LINE. -/
namespace Sys2Proof.Laws
open Sys2Proof.Machine

/-! ## A line enters another state (R134) -/

theorem lineTo_moves {s : State} {l : LineId} {f : Line → Line} (moves : (f s.lines[l]).state ≠ s.lines[l].state) :
    s.lineTo l f = (s.updLine l f).raise .line := by
  unfold State.lineTo
  dsimp only
  rw [if_neg]
  rw [updLine_lines, updAt_same]
  exact moves

theorem raise_twice (s : State) (n : Notice) : (s.raise n).raise n = s.raise n := by
  have flags : s.notices.flags ||| n.flag ||| n.flag = s.notices.flags ||| n.flag := by
    rw [BitVec.or_assoc, BitVec.or_self]
  exact congrArg (fun v => { s with notices := { s.notices with flags := v } }) flags

theorem updLine_twice (s : State) (l : LineId) (f g : Line → Line) :
    (s.updLine l f).updLine l g = s.updLine l fun q => g (f q) :=
  congrArg (fun v => { s with lines := v }) (updAt_twice s.lines l f g)

/-- A line that enters two other states in one event: LINE is raised once. -/
theorem lineTo_twice {s : State} {l : LineId} {f g : Line → Line} (first : (f s.lines[l]).state ≠ s.lines[l].state)
    (second : (g (f s.lines[l])).state ≠ (f s.lines[l]).state) :
    (s.lineTo l f).lineTo l g = (s.updLine l fun q => g (f q)).raise .line := by
  have here : ((s.updLine l f).raise .line).lines[l] = f s.lines[l] := updAt_same _ _ _
  rw [lineTo_moves first, lineTo_moves (by rw [here]; exact second)]
  have raised : ((s.updLine l f).raise .line).updLine l g = ((s.updLine l f).updLine l g).raise .line := rfl
  rw [raised, raise_twice, updLine_twice]

/-! ## Feedback of a line's fans (R143) -/

theorem fansRunning_iff (s : State) (l : LineId) : s.fansRunning l = true ↔
    ∀ m : FanId, s.lines[l].firstFan = m ∨ s.lines[l].secondFan = some m → s.fanFeedback[m] = true := by
  unfold State.fansRunning Line.fans
  rw [List.all_eq_true]
  refine forall_congr' fun m => ?_
  rw [List.mem_cons, Option.mem_toList, eq_comm (a := m)]

theorem fansRunning_congr {s t : State} {l : LineId} (fans : t.lines[l].fans = s.lines[l].fans)
    (feedback : t.fanFeedback = s.fanFeedback) : t.fansRunning l = s.fansRunning l := by
  unfold State.fansRunning
  rw [fans, feedback]

/-! ## The head of the queue starts (R142, R143) -/

/-- A line starts out of a queue that it alone stands in, and the start is entered in the start list. -/
def started (s : State) (l : LineId) (f : Line → Line) : State :=
  { s with
    startQueue := [], startList := s.recentStarts ++ [s.now], lines := updAt s.lines l f,
    notices := { s.notices with flags := s.notices.flags ||| Notice.line.flag } }

/-- A line in STARTING, its run-up end set (R143). -/
def starting (now : Tick) (q : Line) : Line := { q with state := .starting, runUpEnd := some (now + q.runUp * 10000) }

/-- The queue and the list as the start of a line leaves them. -/
def startNoted (s : State) (l : LineId) : State :=
  { s with startQueue := s.startQueue.erase l, startList := s.recentStarts ++ [s.now] }

theorem startLine_eq (s : State) (l : LineId) :
    s.startLine l = ((startNoted s l).lineTo l (starting s.now)).checkRunning l := rfl

/-- A start changes neither the fans of its line nor their feedback. -/
theorem startNoted_fans (s : State) (l : LineId) :
    (((startNoted s l).updLine l (starting s.now)).raise .line).fansRunning l = s.fansRunning l :=
  fansRunning_congr (congrArg Line.fans (updAt_same s.lines l (starting s.now)) :) rfl

section
variable {s : State} {l : LineId} (queue : s.startQueue = [l]) (waits : s.lines[l].state = .startWait)
include queue

theorem startNoted_alone : startNoted s l = { s with startQueue := [], startList := s.recentStarts ++ [s.now] } := by
  unfold startNoted
  rw [queue, List.erase_cons_head]

theorem testStarts_waits (spent : s.limits.budget ≤ s.recentStarts.length) : s.testStarts = s := by
  unfold State.testStarts
  rw [queue]
  change State.startHeads 1 s = s
  unfold State.startHeads
  rw [queue]
  exact if_neg (by omega)

theorem testStarts_starts (budget : s.recentStarts.length < s.limits.budget) : s.testStarts = s.startLine l := by
  unfold State.testStarts
  rw [queue]
  change State.startHeads 1 s = s.startLine l
  unfold State.startHeads
  rw [queue]
  exact if_pos budget

include waits

/-- Without feedback from every fan the line is STARTING. -/
theorem startLine_runsUp (fans : s.fansRunning l = false) : s.startLine l = started s l (starting s.now) := by
  have moves : (starting s.now (startNoted s l).lines[l]).state ≠ (startNoted s l).lines[l].state := by
    change LineState.starting ≠ s.lines[l].state
    rw [waits]
    exact LineState.noConfusion
  have stays : ((startNoted s l).lineTo l (starting s.now)).checkRunning l = (startNoted s l).lineTo l (starting s.now) := by
    refine if_neg fun runs => ?_
    rw [lineTo_moves moves, startNoted_fans, fans] at runs
    exact Bool.noConfusion runs.2
  rw [startLine_eq, stays, lineTo_moves moves, startNoted_alone queue]
  rfl

/-- With feedback from every fan the line is RUNNING at once. -/
theorem startLine_runs (fans : s.fansRunning l = true) : s.startLine l = started s l Line.run := by
  have moves : (starting s.now (startNoted s l).lines[l]).state ≠ (startNoted s l).lines[l].state := by
    change LineState.starting ≠ s.lines[l].state
    rw [waits]
    exact LineState.noConfusion
  have runs : ((startNoted s l).lineTo l (starting s.now)).checkRunning l =
      ((startNoted s l).lineTo l (starting s.now)).lineTo l Line.run := by
    refine if_pos ⟨by rw [lineTo_here]; rfl, ?_⟩
    rwa [lineTo_moves moves, startNoted_fans]
  rw [startLine_eq, runs, lineTo_twice moves LineState.noConfusion, startNoted_alone queue]
  rfl

end

/-! ## A line joins the queue (R141, R142) -/

/-- A line in START_WAIT at the tail of the queue. -/
def waiting (s : State) (l : LineId) : State :=
  { s with
    startQueue := s.startQueue ++ [l],
    lines := updAt s.lines l fun q => { q with state := .startWait },
    notices := { s.notices with flags := s.notices.flags ||| Notice.line.flag } }

section
variable {s : State} {l : LineId} (stopped : s.lines[l].state = .stopped)
include stopped

theorem joinQueue_eq : s.joinQueue l = if s.startQueue.isEmpty then (waiting s l).testStarts else waiting s l := by
  have joined : ({ s with startQueue := s.startQueue ++ [l] }.lineTo l fun q => { q with state := .startWait }) =
      waiting s l := by
    refine lineTo_moves ?_
    change LineState.startWait ≠ s.lines[l].state
    rw [stopped]
    exact LineState.noConfusion
  unfold State.joinQueue
  dsimp only
  rw [joined]

theorem joinQueue_behind (others : s.startQueue ≠ []) : s.joinQueue l = waiting s l := by
  rw [joinQueue_eq stopped, if_neg]
  rwa [List.isEmpty_iff]

theorem joinQueue_head (alone : s.startQueue = []) : s.joinQueue l = (waiting s l).testStarts := by
  rw [joinQueue_eq stopped, alone]
  rfl

/-- At the head of the queue, with the budget spent, the line waits. -/
theorem joinQueue_waits (alone : s.startQueue = []) (spent : s.limits.budget ≤ s.recentStarts.length) :
    s.joinQueue l = { waiting s l with startQueue := [l] } := by
  have queue : (waiting s l).startQueue = [l] := congrArg (· ++ [l]) alone
  rw [joinQueue_head stopped alone, testStarts_waits queue spent, ← queue]

/-- At the head of the queue, within the budget, the line starts. -/
theorem joinQueue_starts (alone : s.startQueue = []) (budget : s.recentStarts.length < s.limits.budget)
    (fans : s.fansRunning l = false) : s.joinQueue l =
      { s with
        startList := s.recentStarts ++ [s.now],
        lines := updAt s.lines l (starting s.now),
        notices := { s.notices with flags := s.notices.flags ||| Notice.line.flag } } := by
  have queue : (waiting s l).startQueue = [l] := congrArg (· ++ [l]) alone
  have here : (waiting s l).lines[l] = { s.lines[l] with state := .startWait } := updAt_same _ _ _
  have still : (waiting s l).fansRunning l = false :=
    (fansRunning_congr (s := s) (congrArg Line.fans here :) rfl).trans fans
  have twice : started (waiting s l) l (starting s.now) = { (s.raise .line).raise .line with
      startQueue := [], startList := s.recentStarts ++ [s.now], lines := updAt s.lines l (starting s.now) } :=
    congrArg (fun v => { (s.raise .line).raise .line with
      startQueue := [], startList := s.recentStarts ++ [s.now], lines := v })
      (updAt_twice s.lines l (fun q => { q with state := .startWait }) (starting s.now))
  rw [joinQueue_head stopped alone, testStarts_starts queue budget,
    startLine_runsUp queue (congrArg Line.state here) still]
  refine twice.trans ?_
  rw [raise_twice, ← alone]
  rfl

end

/-! ## RESTART LINE (R141) -/

theorem lineZone_iff (s : State) (l : LineId) (p : Level → Bool) : s.lineZone l p = true ↔
    ∃ z : ZoneId, inSet s.lines[l].zones z.val = true ∧ p s.zones[z].level = true := by
  unfold State.lineZone
  rw [List.any_eq_true]
  simp only [List.mem_finRange, true_and, Bool.and_eq_true]

theorem trackOnLine_iff (s : State) (l : LineId) : s.trackOnLine l = true ↔
    ∃ (i : SlotId) (k : Track), s.track? i = some k ∧ k.state ≠ .spent ∧ s.segments[k.current].line = l := by
  unfold State.trackOnLine State.lineOfTrack
  rw [List.any_eq_true]
  refine exists_congr fun i => ?_
  cases s.track? i <;> simp

theorem gateAway_iff (s : State) (l : LineId) : s.gateAway l = true ↔
    ∃ g : GateId, s.gates[g].inUse = true ∧ s.segments[s.gates[g].owner].line = l ∧ s.gates[g].state ≠ .normal := by
  unfold State.gateAway State.lineOfGate
  rw [List.any_eq_true]
  simp only [List.mem_finRange, true_and, Bool.and_eq_true, beq_iff_eq, bne_iff_ne, and_assoc]

theorem atLeast_alarm (v : Level) : v.atLeast .alarm = true ↔ ¬v.val < 2 := by cases v <;> decide

section
variable {s : State} {l : LineId}

theorem lineZone_quiet : s.lineZone l (fun v => v.atLeast .alarm) = false ↔
    ∀ z : ZoneId, inSet s.lines[l].zones z.val = true → s.zones[z].level.val < 2 := by
  rw [Bool.eq_false_iff, Ne, lineZone_iff]
  simp only [atLeast_alarm, not_exists, not_and, not_not]

theorem trackOnLine_none : s.trackOnLine l = false ↔ ∀ (i : SlotId) (k : Track), s.track? i = some k →
    k.state ≠ .spent → s.segments[k.current].line ≠ l := by
  rw [Bool.eq_false_iff, Ne, trackOnLine_iff]
  simp only [not_exists, not_and, Ne]

theorem gateAway_none : s.gateAway l = false ↔
    ∀ g : GateId, s.gates[g].inUse = true → s.segments[s.gates[g].owner].line = l → s.gates[g].state = .normal := by
  rw [Bool.eq_false_iff, Ne, gateAway_iff]
  simp only [not_exists, not_and, Ne, not_not]

end

section
variable {s : State} {t : Half} {l : LineId} (h : s.listens) (hm : s.mode = .guarded) (ht : t.toNat = l.val)
include h hm ht

theorem restartLine_notInUse (use : s.lines[l].inUse = false) :
    exec (.restartLine t []) s = .next (s.replyWith (.refused .notInUse)) :=
  request_refused h rfl (fun e => nomatch e) <|
    (bind_of_ok (takenInGuard_of_guarded hm)).trans <| (bind_of_ok (targetOf_ok.mpr ht)).trans <|
    bind_of_error (refuseFor_refused (by rw [use]; rfl))

variable (use : s.lines[l].inUse = true)
include use

theorem restartLine_notStopped (state : s.lines[l].state ≠ .stopped) :
    exec (.restartLine t []) s = .next (s.replyWith (.refused .notStopped)) :=
  request_refused h rfl (fun e => nomatch e) <|
    (bind_of_ok (takenInGuard_of_guarded hm)).trans <| (bind_of_ok (targetOf_ok.mpr ht)).trans <|
    (bind_of_ok (refuseFor_passed (by rw [use]; rfl))).trans <| bind_of_error (refuseFor_refused (bne_iff_ne.mpr state))

variable (state : s.lines[l].state = .stopped)
include state

omit h in
/-- RESTART LINE at a STOPPED line in use is judged by its zones, its tracks and its gates. -/
theorem restartLine_judged : s.restartLine t =
    refuseFor (s.lineZone l fun v => v.atLeast .alarm) .zoneActive >>= fun _ =>
    refuseFor (s.trackOnLine l) .trackActive >>= fun _ =>
    refuseFor (s.gateAway l) .gateNotNormal >>= fun _ => .ok (s.joinQueue l, .ok []) :=
  (bind_of_ok (takenInGuard_of_guarded hm)).trans <| (bind_of_ok (targetOf_ok.mpr ht)).trans <|
    (bind_of_ok (refuseFor_passed (by rw [use]; rfl))).trans <| bind_of_ok (refuseFor_passed (by rw [state]; rfl))

theorem restartLine_zoneActive (active : s.lineZone l (fun v => v.atLeast .alarm) = true) :
    exec (.restartLine t []) s = .next (s.replyWith (.refused .zoneActive)) :=
  request_refused h rfl (fun e => nomatch e) <| (restartLine_judged hm ht use state).trans <|
    bind_of_error (refuseFor_refused active)

variable (quiet : s.lineZone l (fun v => v.atLeast .alarm) = false)
include quiet

theorem restartLine_trackActive (active : s.trackOnLine l = true) :
    exec (.restartLine t []) s = .next (s.replyWith (.refused .trackActive)) :=
  request_refused h rfl (fun e => nomatch e) <| (restartLine_judged hm ht use state).trans <|
    (bind_of_ok (refuseFor_passed quiet)).trans <| bind_of_error (refuseFor_refused active)

variable (free : s.trackOnLine l = false)
include free

theorem restartLine_gateNotNormal (away : s.gateAway l = true) :
    exec (.restartLine t []) s = .next (s.replyWith (.refused .gateNotNormal)) :=
  request_refused h rfl (fun e => nomatch e) <| (restartLine_judged hm ht use state).trans <|
    (bind_of_ok (refuseFor_passed quiet)).trans <| (bind_of_ok (refuseFor_passed free)).trans <|
    bind_of_error (refuseFor_refused away)

theorem restartLine_taken (home : s.gateAway l = false) {u : State} (joined : s.joinQueue l = u) :
    exec (.restartLine t []) s = .next (u.replyWith (.ok [])) :=
  joined ▸ request_answer h rfl (fun e => nomatch e) ((restartLine_judged hm ht use state).trans <|
    (bind_of_ok (refuseFor_passed quiet)).trans <| (bind_of_ok (refuseFor_passed free)).trans <|
    bind_of_ok (refuseFor_passed home))

end

/-- Settles O42: the tests in the order in which they are judged, and what a line does that joins the queue. -/
theorem restartLineJudged : Obligations.RestartLineJudged := by
  intro s t l h hm ht zonesQuiet noTrack gatesNormal
  have quiet_iff : s.lineZone l (fun v => v.atLeast .alarm) = false ↔ zonesQuiet := lineZone_quiet
  have free_iff : s.trackOnLine l = false ↔ noTrack := trackOnLine_none
  have home_iff : s.gateAway l = false ↔ gatesNormal := gateAway_none
  refine ⟨restartLine_notInUse h hm ht, fun use => ⟨restartLine_notStopped h hm ht use, fun state => ?_⟩⟩
  refine ⟨fun active => ?_, fun quiet active => ?_, fun quiet free away => ?_, fun quiet free home => ⟨?_, ?_, ?_⟩⟩
  · exact restartLine_zoneActive h hm ht use state (Bool.not_eq_false _ ▸ mt quiet_iff.mp active)
  · exact restartLine_trackActive h hm ht use state (quiet_iff.mpr quiet) (Bool.not_eq_false _ ▸ mt free_iff.mp active)
  · exact restartLine_gateNotNormal h hm ht use state (quiet_iff.mpr quiet) (free_iff.mpr free)
      (Bool.not_eq_false _ ▸ mt home_iff.mp away)
  · exact fun others => restartLine_taken h hm ht use state (quiet_iff.mpr quiet) (free_iff.mpr free) (home_iff.mpr home)
      (joinQueue_behind state others)
  · exact fun alone spent => restartLine_taken h hm ht use state (quiet_iff.mpr quiet) (free_iff.mpr free)
      (home_iff.mpr home) (joinQueue_waits state alone spent)
  · exact fun alone budget fans => restartLine_taken h hm ht use state (quiet_iff.mpr quiet) (free_iff.mpr free)
      (home_iff.mpr home) (joinQueue_starts state alone budget fans)

end Sys2Proof.Laws
end


section
/-! PROOFS. A line shut down (R138 to R140, R144), its abort-on-shutdown gates, and the ends of its run-up and run-down. -/
namespace Sys2Proof.Laws
open Sys2Proof.Machine

/-! ## A line that is up runs down (R139) -/

/-- A line shut down by a cause other than FIRE while it was up. -/
def coasted (c : StopCause) (now : Tick) (q : Line) : Line :=
  { q with
    cause := c, runUpEnd := none,
    state := if q.runDown = 0 then .stopped else .stopping,
    runDownEnd := if q.runDown = 0 then none else some (now + q.runDown * 10000) }

theorem coast_eq {c : StopCause} (cold : c ≠ .fire) (now : Tick) (q : Line) : q.coast c now = coasted c now q := by
  unfold Line.coast coasted
  dsimp only
  by_cases none : q.runDown = 0
  · rw [if_pos (Or.inr none), if_pos none, if_pos none]
    rfl
  · rw [if_neg (not_or.mpr ⟨cold, none⟩), if_neg none, if_neg none]
    rfl

/-- The state in which a line has been shut down, no gate being driven for it. -/
def shutDown (s : State) (l : LineId) (c : StopCause) : State :=
  { s with
    lines := updAt s.lines l (coasted c s.now),
    notices := { s.notices with flags := s.notices.flags ||| Notice.line.flag } }

/-- No gate of a line is driven to ABORT at its shutdown. -/
def NoGateDriven (s : State) (l : LineId) : Prop :=
  ∀ g : GateId, s.gates[g].inUse = true → s.gates[g].onShutdown = true → s.segments[s.gates[g].owner].line ≠ l

/-- One gate's part in a shutdown. -/
def driveLineGate (l : LineId) (w : Work) (g : GateId) : Work :=
  if w.st.gates[g].inUse && w.st.gates[g].onShutdown && w.st.lineOfGate g == l then w.driveAbort g else w

theorem driveLineGates_eq (w : Work) (l : LineId) :
    w.driveLineGates l = (List.finRange 8).foldl (driveLineGate l) w := rfl

theorem driveLineGates_none {w : Work} {l : LineId} (none : NoGateDriven w.st l) : w.driveLineGates l = w := by
  rw [driveLineGates_eq]
  refine foldl_same _ w fun g _ => if_neg fun driven => ?_
  rw [Bool.and_eq_true, Bool.and_eq_true, beq_iff_eq] at driven
  obtain ⟨⟨use, onShutdown⟩, line⟩ := driven
  exact none g use onShutdown line

section
variable {s : State} {l : LineId} {c : StopCause} (cold : c ≠ .fire)
  (up : s.lines[l].state = .running ∨ s.lines[l].state = .starting)
include cold up

theorem lineTo_coast : (s.lineTo l fun q => q.coast c s.now) = shutDown s l c := by
  have down : LineDown (s.lines[l].coast c s.now) := coast_down _ c s.now
  rw [lineTo_moves fun same => down.not_up (by rwa [same])]
  exact congrArg (fun v => { s.raise .line with lines := v }) 
    (updAt_congr s.lines l (f := fun q => q.coast c s.now) (coast_eq cold s.now s.lines[l]))

variable (use : s.lines[l].inUse = true)
include use

theorem shutdown_coasts : s.begin.shutdown l c = (shutDown s l c).begin.driveLineGates l := by
  rw [shutdown_running (w := s.begin) c use up, ← lineTo_coast cold up]
  rfl

theorem shutdown_coasts_alone (none : NoGateDriven s l) : s.begin.shutdown l c = (shutDown s l c).begin := by
  rw [shutdown_coasts cold up use, driveLineGates_none]
  exact none

end

/-! ## The gates driven at a shutdown (R139) -/

/-- A gate that changes into a travelling state, its timer running in GUARD (R126, R129). -/
def travelling (s : State) (dest : GateState) (q : Gate) : Gate :=
  { q with state := dest, stateChanged := some s.now, timer := if s.mode = .guarded then some (s.now + q.timeout) else none }

theorem travelGate_st (w : Work) (g : GateId) (dest : GateState) :
    (w.travelGate g dest).st = w.st.updGate g (travelling w.st dest) := by
  unfold Work.travelGate
  rw [push_st, push_st]
  rfl

theorem driveAbort_normal {w : Work} {g : GateId} (normal : w.st.gates[g].state = .normal) :
    w.driveAbort g = w.travelGate g .toAbort := by
  unfold Work.driveAbort
  rw [normal]

theorem driveAbort_other (w : Work) {g k : GateId} (other : g ≠ k) : (w.driveAbort k).st.gates[g] = w.st.gates[g] := by
  unfold Work.driveAbort
  split
  · rw [travelGate_st]
    exact updAt_other _ _ _ _ other
  · rw [travelGate_st]
    exact updAt_other _ _ _ _ other
  · rfl

theorem driveLineGate_other (l : LineId) (w : Work) {g k : GateId} (other : g ≠ k) :
    (driveLineGate l w k).st.gates[g] = w.st.gates[g] := by
  unfold driveLineGate
  split
  · exact driveAbort_other w other
  · rfl

theorem driveLineGate_segments (l : LineId) (w : Work) (g : GateId) :
    (driveLineGate l w g).st.segments = w.st.segments := by
  unfold driveLineGate
  split
  · exact (congrArg State.segments (driveAbort_linesOnly w g).rest :)
  · rfl

/-- A gate in NORMAL that its line's shutdown drives is on its way to ABORT. -/
theorem driveLineGates_drives {w : Work} {l : LineId} {g : GateId} (use : w.st.gates[g].inUse = true)
    (onShutdown : w.st.gates[g].onShutdown = true) (line : w.st.segments[w.st.gates[g].owner].line = l)
    (normal : w.st.gates[g].state = .normal) : (w.driveLineGates l).st.gates[g].state = .toAbort := by
  have driven : ∀ v : Work, v.st.gates[g] = w.st.gates[g] ∧ v.st.segments = w.st.segments →
      (driveLineGate l v g).st.gates[g].state = .toAbort := by
    rintro v ⟨gate, segments⟩
    have here : v.st.lineOfGate g = l := by
      simp only [State.lineOfGate, gate, segments, line]
    unfold driveLineGate
    rw [gate, use, onShutdown, here, if_pos (by simp), driveAbort_normal (gate ▸ normal), travelGate_st]
    exact congrArg Gate.state (updAt_same _ _ _)
  obtain ⟨before, after, all⟩ := List.append_of_mem (List.mem_finRange g)
  have apart := List.nodup_middle.mp (all ▸ List.nodup_finRange 8)
  have new : g ∉ before ++ after := (List.nodup_cons.mp apart).1
  rw [driveLineGates_eq, all, List.foldl_append, List.foldl_cons]
  refine foldl_keeps_away (P := fun v : Work => v.st.gates[g].state = .toAbort)
    (fun hg => new (List.mem_append_right _ hg)) (fun v k other kept => ?_) _ (driven _ ?_)
  · rw [driveLineGate_other l v (Ne.symm other)]
    exact kept
  · refine foldl_keeps_away (P := fun v : Work => v.st.gates[g] = w.st.gates[g] ∧ v.st.segments = w.st.segments)
      (fun hg => new (List.mem_append_left _ hg)) (fun v k other kept => ?_) _ ⟨rfl, rfl⟩
    exact ⟨(driveLineGate_other l v (Ne.symm other)).trans kept.1, (driveLineGate_segments l v k).trans kept.2⟩

/-! ## STOP LINE (R144) -/

/-- A shutdown and its deliveries change nothing that the frame holds. -/
theorem shutdown_framed (s : State) (l : LineId) (c : StopCause) : s.Framed (s.begin.shutdown l c).finish :=
  ((shutdown_steps s.begin l c).kept.trans (finish_kept _)).framed

/-- A line that waits leaves the queue, STOPPED, and rests so through the deliveries (R139). -/
theorem shutdown_leaves {s : State} {l : LineId} (c : StopCause) (use : s.lines[l].inUse = true)
    (waits : s.lines[l].state = .startWait) (once : s.startQueue.Nodup) :
    (s.begin.shutdown l c).finish.lines[l].state = .stopped ∧ l ∉ (s.begin.shutdown l c).finish.startQueue := by
  have state : (lineLeft s l c).lines[l].state = .stopped := by
    rw [lineLeft, lineTo_here]
    rfl
  have unqueued : l ∉ (lineLeft s l c).startQueue := by
    rw [lineLeft, lineTo_queue]
    exact once.not_mem_erase
  rw [shutdown_waiting (w := s.begin) c use waits]
  have steps := ((driveLineGates_steps (s.begin.mod fun s => lineLeft s l c) l).trans (headLeft_steps _ _)).trans
    (finish_steps (headLeft ((s.begin.mod fun s => lineLeft s l c).driveLineGates l) (s.startQueue.head? == some l)))
  exact Steps.rests steps state unqueued

section
variable {s : State} {t : Half} {l : LineId} (h : s.listens) (hm : s.mode = .guarded) (ht : t.toNat = l.val)
include h hm ht

theorem stopLine_notInUse (use : s.lines[l].inUse = false) :
    exec (.stopLine t []) s = .next (s.replyWith (.refused .notInUse)) :=
  request_refused h rfl (fun e => nomatch e) <|
    (bind_of_ok (takenInGuard_of_guarded hm)).trans <| (bind_of_ok (targetOf_ok.mpr ht)).trans <|
    bind_of_error (refuseFor_refused (by rw [use]; rfl))

variable (use : s.lines[l].inUse = true)
include use

theorem stopLine_taken :
    exec (.stopLine t []) s = .next ((s.begin.shutdown l .link).finish.replyWith (.ok [])) :=
  request_answer h rfl (fun e => nomatch e) <|
    (bind_of_ok (takenInGuard_of_guarded hm)).trans <| (bind_of_ok (targetOf_ok.mpr ht)).trans <|
    bind_of_ok (refuseFor_passed (by rw [use]; rfl))

theorem stopLine_down (down : s.lines[l].state = .stopped ∨ s.lines[l].state = .stopping) :
    exec (.stopLine t []) s = .next (s.replyWith (.ok [])) := by
  rw [stopLine_taken h hm ht use, shutdown_down s.begin l .link StopCause.noConfusion down, begin_finish]

theorem stopLine_coasts (up : s.lines[l].state = .running ∨ s.lines[l].state = .starting) (none : NoGateDriven s l) :
    exec (.stopLine t []) s = .next ((shutDown s l .link).replyWith (.ok [])) := by
  rw [stopLine_taken h hm ht use, shutdown_coasts_alone StopCause.noConfusion up use none, begin_finish]

theorem stopLine_drives {g : GateId} (up : s.lines[l].state = .running ∨ s.lines[l].state = .starting)
    (inUse : s.gates[g].inUse = true) (onShutdown : s.gates[g].onShutdown = true)
    (line : s.segments[s.gates[g].owner].line = l) (normal : s.gates[g].state = .normal) :
    ∃ u : State, exec (.stopLine t []) s = .next (u.replyWith (.ok [])) ∧
      (u.gates[g].state = .toAbort ∨ u.gates[g].state = .abort) ∧ s.Framed u := by
  refine ⟨_, stopLine_taken h hm ht use, ?_, shutdown_framed s l .link⟩
  refine ((finish_kept _).gates g).toAbort ?_
  rw [shutdown_coasts StopCause.noConfusion up use]
  exact driveLineGates_drives (w := (shutDown s l .link).begin) inUse onShutdown line normal

end

/-! ## The ends of run-up and run-down (R140, R143) -/

theorem runUpDue_of {q : Line} {stop now : Tick} (starting : q.state = .starting) (runUp : q.runUpEnd = some stop)
    (due : stop ≤ now) : q.runUpDue now = true := by
  simp [Line.runUpDue, reached, starting, runUp, due]

theorem runDownDue_of {q : Line} {stop now : Tick} (stopping : q.state = .stopping) (runDown : q.runDownEnd = some stop)
    (due : stop ≤ now) : q.runDownDue now = true := by
  simp [Line.runDownDue, reached, stopping, runDown, due]

theorem runUpEnd_coasts {s : State} {l : LineId} {stop : Tick} (high : s.resetLow = false) (use : s.lines[l].inUse = true)
    (starting : s.lines[l].state = .starting) (runUp : s.lines[l].runUpEnd = some stop) (due : stop ≤ s.now)
    (none : NoGateDriven s l) : exec (.runUpEnd l) s = .next (shutDown s l .fanFault) := by
  refine congrArg Host.Outcome.next ((event_due s _ _ high (runUpDue_of starting runUp due)).trans ?_)
  rw [shutdown_coasts_alone StopCause.noConfusion (.inr starting) use none, begin_finish]

theorem runDownEnd_halts {s : State} {l : LineId} {stop : Tick} (high : s.resetLow = false)
    (stopping : s.lines[l].state = .stopping) (runDown : s.lines[l].runDownEnd = some stop) (due : stop ≤ s.now) :
    exec (.runDownEnd l) s = .next ((s.updLine l Line.halt).raise .line) := by
  refine congrArg Host.Outcome.next ((event_due s _ _ high (runDownDue_of stopping runDown due)).trans ?_)
  rw [begin_finish, lineTo_moves]
  rw [stopping]
  exact LineState.noConfusion

/-- Settles O43: what a shutdown does by the state of the line, as STOP LINE and the end of run-up give it, and the end of
run-down. -/
theorem lineShutdown : Obligations.LineShutdown := by
  refine ⟨fun s t l h hm ht => ⟨stopLine_notInUse h hm ht, fun use => ⟨?_, ?_, fun waits once => ?_, fun g => ?_⟩⟩,
    fun s l stop high use starting runUp due none => runUpEnd_coasts high use starting runUp due none,
    fun s l stop high stopping runDown due => runDownEnd_halts high stopping runDown due⟩
  · exact stopLine_down h hm ht use
  · exact stopLine_coasts h hm ht use
  · obtain ⟨stopped, unqueued⟩ := shutdown_leaves .link use waits once
    exact ⟨_, stopLine_taken h hm ht use, stopped, unqueued, shutdown_framed s l .link⟩
  · exact stopLine_drives h hm ht use

end Sys2Proof.Laws
end


section
/-! PROOFS. The start list's expiry (R142) and the feedback of the fans (R134, R143). -/
namespace Sys2Proof.Laws
open Sys2Proof.Machine

/-! ## START_LIST_EXPIRY (R142) -/

/-- The start list without an entry that has left it. -/
def listLeft (s : State) (rest : List Tick) : State := { s with startList := rest }

theorem testStarts_none {s : State} (queue : s.startQueue = []) : s.testStarts = s := by
  unfold State.testStarts
  rw [queue]
  rfl

section
variable {s : State} {t : Tick} {rest : List Tick} (high : s.resetLow = false) (list : s.startList = t :: rest)
  (due : t + 600000 ≤ s.now)
include high list due

/-- The oldest entry leaves the list, and in GUARD the head of the queue is tested. -/
theorem startListExpiry_due : exec .startListExpiry s =
    .next (if s.mode = .guarded then (listLeft s rest).testStarts else listLeft s rest) := by
  have leaves : s.startDue = true := by
    unfold State.startDue
    rw [list]
    exact decide_eq_true due
  have tail : s.startList.tail = rest := by rw [list]; rfl
  refine congrArg Host.Outcome.next ((event_due s _ _ high leaves).trans ?_)
  dsimp only
  rw [begin_finish, tail]
  rfl

theorem startListExpiry_idle (queue : s.startQueue = []) : exec .startListExpiry s = .next (listLeft s rest) := by
  rw [startListExpiry_due high list due, testStarts_none (s := listLeft s rest) queue, ite_self]

theorem startListExpiry_guarded (hm : s.mode = .guarded) :
    exec .startListExpiry s = .next (listLeft s rest).testStarts := by
  rw [startListExpiry_due high list due, if_pos hm]

end

/-! ## FAN_FEEDBACK_CHANGE (R134, R143) -/

/-- The level of a fan's feedback as an event shows it. -/
def fanShown (s : State) (m : FanId) (running : Bool) : State :=
  { s with fanFeedback := updAt s.fanFeedback m fun _ => running }

/-- A line that is neither STARTING nor RUNNING does not read feedback. -/
theorem feedback_deaf {w : Work} {m : FanId} {running : Bool} {l : LineId}
    (deaf : w.st.lines[l].state ≠ .starting ∧ w.st.lines[l].state ≠ .running) : w.feedback m running l = w := by
  unfold Work.feedback
  dsimp only
  split
  · rfl
  · split
    · rename_i starting
      exact absurd starting deaf.1
    · rename_i up
      exact absurd up deaf.2
    · rfl

theorem fans_contains (q : Line) (m : FanId) : q.fans.contains m = true ↔ q.firstFan = m ∨ q.secondFan = some m := by
  unfold Line.fans
  rw [List.contains_iff_mem, List.mem_cons, Option.mem_toList, eq_comm (a := m)]

section
variable {w : Work} {m : FanId} {running : Bool} {l : LineId} (use : w.st.lines[l].inUse = true)
  (fan : w.st.lines[l].firstFan = m ∨ w.st.lines[l].secondFan = some m)
include use fan

theorem feedback_starting (starting : w.st.lines[l].state = .starting) :
    w.feedback m running l = w.mod fun s => s.checkRunning l := by
  unfold Work.feedback
  dsimp only
  rw [use, (fans_contains _ m).mpr fan, starting]
  rfl

theorem feedback_lost (up : w.st.lines[l].state = .running) : w.feedback m false l = w.shutdown l .fanFault := by
  unfold Work.feedback
  dsimp only
  rw [use, (fans_contains _ m).mpr fan, up]
  rfl

end

section
variable {s : State} {m : FanId} {running : Bool} (high : s.resetLow = false)
include high

/-- Feedback that no line reads is only seen. -/
theorem fanFeedbackChange_deaf (deaf : ∀ l : LineId, s.lines[l].state ≠ .starting ∧ s.lines[l].state ≠ .running) :
    exec (.fanFeedbackChange m running) s = .next (fanShown s m running) := by
  have seen : (List.finRange 8).foldl (fun w l => w.feedback m running l) (fanShown s m running).begin =
      (fanShown s m running).begin :=
    foldl_same _ _ fun l _ => feedback_deaf (deaf l)
  refine congrArg Host.Outcome.next ?_
  by_cases changed : (s.fanFeedback[m] != running) = true
  · exact (event_due (fanShown s m running) _ _ high changed).trans ((congrArg Work.finish seen).trans (begin_finish _))
  · exact event_not (fanShown s m running) _ _ (.inr (Bool.eq_false_iff.mpr changed))

variable {l : LineId} (changed : s.fanFeedback[m] ≠ running)
  (deaf : ∀ k : LineId, k ≠ l → s.lines[k].state ≠ .starting ∧ s.lines[k].state ≠ .running)
include changed deaf

/-- Changed feedback that one line at most reads does what it does at that line. -/
theorem fanFeedbackChange_one {u : State} (acts : (fanShown s m running).begin.feedback m running l = u.begin)
    (others : ∀ k : LineId, k ≠ l → u.lines[k] = s.lines[k]) :
    exec (.fanFeedbackChange m running) s = .next u := by
  have seen : (List.finRange 8).foldl (fun w l => w.feedback m running l) (fanShown s m running).begin = u.begin := by
    rw [foldl_one (f := fun (w : Work) l => w.feedback m running l) (List.nodup_finRange 8) (List.mem_finRange l)
      (fun k e => feedback_deaf (deaf k e)), acts]
    rw [acts]
    refine fun k e => feedback_deaf ?_
    rw [begin_st, others k e]
    exact deaf k e
  refine congrArg Host.Outcome.next ((event_due (fanShown s m running) _ _ high (bne_iff_ne.mpr changed)).trans ?_)
  exact (congrArg Work.finish seen).trans (begin_finish u)

variable (use : s.lines[l].inUse = true) (fan : s.lines[l].firstFan = m ∨ s.lines[l].secondFan = some m)
include use fan

/-- A STARTING line of which another fan shows no feedback goes on starting. -/
theorem fanFeedbackChange_waits (starting : s.lines[l].state = .starting)
    (fans : (fanShown s m running).fansRunning l = false) :
    exec (.fanFeedbackChange m running) s = .next (fanShown s m running) := by
  refine fanFeedbackChange_one high changed deaf ?_ fun _ _ => rfl
  have stays : (fanShown s m running).checkRunning l = fanShown s m running := by
    refine if_neg fun runs => ?_
    rw [fans] at runs
    exact Bool.noConfusion runs.2
  rw [feedback_starting (w := (fanShown s m running).begin) use fan starting]
  exact congrArg State.begin stays

/-- A STARTING line all of whose fans show feedback is RUNNING (R143). -/
theorem fanFeedbackChange_runs (starting : s.lines[l].state = .starting)
    (fans : (fanShown s m running).fansRunning l = true) :
    exec (.fanFeedbackChange m running) s = .next (((fanShown s m running).updLine l Line.run).raise .line) := by
  refine fanFeedbackChange_one high changed deaf ?_ fun k e => updAt_other _ _ _ _ e
  have runs : (fanShown s m running).checkRunning l = ((fanShown s m running).updLine l Line.run).raise .line := by
    refine (if_pos ⟨starting, fans⟩).trans (lineTo_moves ?_)
    change LineState.running ≠ s.lines[l].state
    rw [starting]
    exact LineState.noConfusion
  rw [feedback_starting (w := (fanShown s m running).begin) use fan starting]
  exact congrArg State.begin runs

omit running changed in
/-- A RUNNING line that loses a fan's feedback is shut down (R143). -/
theorem fanFeedbackChange_lost (shown : s.fanFeedback[m] = true) (up : s.lines[l].state = .running)
    (none : NoGateDriven s l) :
    exec (.fanFeedbackChange m false) s = .next (shutDown (fanShown s m false) l .fanFault) := by
  refine fanFeedbackChange_one high (by rw [shown]; exact Bool.noConfusion) deaf ?_ fun k e => updAt_other _ _ _ _ e
  rw [feedback_lost (w := (fanShown s m false).begin) use fan up]
  exact shutdown_coasts_alone (s := fanShown s m false) StopCause.noConfusion (.inl up) use none

end

/-- The feedback of a line's fans once one of them has been shown running. -/
theorem fansRunning_shown (s : State) (m : FanId) (l : LineId) : (fanShown s m true).fansRunning l = true ↔
    ∀ o : FanId, o ≠ m → s.lines[l].firstFan = o ∨ s.lines[l].secondFan = some o → s.fanFeedback[o] = true := by
  rw [fansRunning_iff]
  refine forall_congr' fun o => ?_
  change (s.lines[l].firstFan = o ∨ s.lines[l].secondFan = some o → (updAt s.fanFeedback m fun _ => true)[o] = true) ↔ _
  rcases updAt_cases s.fanFeedback m o fun _ => true with ⟨e, r⟩ | ⟨e, r⟩
  · rw [r]
    exact iff_of_true (fun _ => rfl) fun other => absurd e other
  · rw [r]
    exact ⟨fun h _ => h, fun h => h e⟩

/-- The feedback of a line of two fans, one of them shown running, is that of the other. -/
theorem fansRunning_pair {s : State} {m o : FanId} {l : LineId} (other : o ≠ m)
    (pair : (s.lines[l].firstFan = m ∧ s.lines[l].secondFan = some o) ∨
      (s.lines[l].firstFan = o ∧ s.lines[l].secondFan = some m)) :
    (fanShown s m true).fansRunning l = s.fanFeedback[o] := by
  rw [Bool.eq_iff_iff, fansRunning_shown]
  constructor
  · intro all
    refine all o other ?_
    rcases pair with ⟨-, second⟩ | ⟨first, -⟩
    · exact .inr second
    · exact .inl first
  · intro shown k apart fan
    have here : k = o := by
      rcases pair with ⟨first, second⟩ | ⟨first, second⟩ <;> rw [first, second] at fan
      · exact (Option.some.inj (fan.resolve_left (Ne.symm apart))).symm
      · exact (fan.resolve_right fun e => apart (Option.some.inj e).symm).symm
    rwa [here]

/-- Settles O44: what the expiry leaves to the head of the queue, and what changed feedback does at the one line that reads
it. -/
theorem startsAndFans : Obligations.StartsAndFans := by
  refine ⟨fun s t rest high queue list due => startListExpiry_idle high list due queue,
    fun s m running high deaf => fanFeedbackChange_deaf high deaf, ?_, ?_, ?_⟩
  · intro s l m high use starting first second shown deaf
    have fans : (fanShown s m true).fansRunning l = true := by
      rw [fansRunning_shown, first, second]
      rintro o other (e | e)
      · exact absurd e.symm other
      · cases e
    exact fanFeedbackChange_runs high (by rw [shown]; exact Bool.noConfusion) deaf use (.inl first) starting fans
  · intro s t rest l high hm queue waits list due recent fansShow begun
    have expired := startListExpiry_guarded high list due hm
    have shows : (listLeft s rest).fansRunning l = true ↔ fansShow := fansRunning_iff _ l
    refine ⟨fun spent => ?_, fun budget dark => ?_, fun budget fans => ?_⟩
    · rw [expired, testStarts_waits (s := listLeft s rest) queue spent]
      rfl
    · rw [expired, testStarts_starts (s := listLeft s rest) queue budget,
        startLine_runsUp (s := listLeft s rest) queue waits (Bool.eq_false_iff.mpr (mt shows.mp dark))]
      rfl
    · rw [expired, testStarts_starts (s := listLeft s rest) queue budget,
        startLine_runs (s := listLeft s rest) queue waits (shows.mpr fans)]
      rfl
  · intro s l m high use deaf
    refine ⟨fun o other starting dark pair => ?_, fun up shown fan none => ?_⟩
    · have changed : s.fanFeedback[m] ≠ true := by rw [dark]; exact Bool.noConfusion
      have fan : s.lines[l].firstFan = m ∨ s.lines[l].secondFan = some m := pair.imp And.left And.right
      have fans := fansRunning_pair other pair
      exact ⟨fun off => fanFeedbackChange_waits high changed deaf use fan starting (fans.trans off),
        fun on => fanFeedbackChange_runs high changed deaf use fan starting (fans.trans on)⟩
    · exact fanFeedbackChange_lost high deaf use fan shown up none

end Sys2Proof.Laws
end


section
/-! PROOFS. GATE NORMAL and CLEAR GATE (R130, R131). -/
namespace Sys2Proof.Laws
open Sys2Proof.Machine

/-! ## A gate that moves with no track at it (R94, R127) -/

/-- Deliveries of which none changes anything leave the state they find. -/
theorem run_still (n : Nat) {w : Work} (still : ∀ d ∈ w.out, ∀ v : Work, v.st = w.st → v.act d = v) :
    (Work.run n w).st = w.st := by
  induction n generalizing w with
  | zero => rfl
  | succ n ih =>
    unfold Work.run
    split
    · rfl
    · rename_i d ds out
      rw [still d (out ▸ .head _) { w with out := ds } rfl]
      exact ih fun c hc => still c (out ▸ .tail _ hc)

/-- A gate that no route crosses moves without a re-plan. -/
theorem gateMoved_uncrossed {w : Work} {g : GateId}
    (clear : ∀ (i : SlotId) (k : Track), w.st.track? i = some k → crosses g k.route = false) : w.gateMoved g = w := by
  refine foldl_same _ w fun i _ => ?_
  cases track : w.st.track? i with
  | none => rfl
  | some k =>
    refine if_neg fun reaches => ?_
    obtain ⟨r, hr, point⟩ := List.any_eq_true.mp reaches
    refine List.any_eq_false.mp (clear i k track) r hr ?_
    rw [beq_iff_eq.mp point]
    exact beq_self_eq_true g

/-- A gate on its way to NORMAL is not confirmed while its limits stand otherwise (R127). -/
theorem checkGate_travels {w : Work} {g : GateId} (travel : w.st.gates[g].state = .toNormal)
    (apart : ¬(w.st.gates[g].normalLimit = true ∧ w.st.gates[g].abortLimit = false)) : w.checkGate g = w := by
  have open' : w.st.gates[g].pairNormal = false := by
    unfold Gate.pairNormal
    rw [Bool.eq_false_iff, Ne, Bool.and_eq_true, Bool.not_eq_true']
    exact apart
  unfold Work.checkGate
  dsimp only
  rw [travel]
  dsimp only
  rw [open', if_neg Bool.false_ne_true, ite_self]

/-! ## The tests of GATE NORMAL (R130) -/

theorem trackOnGate_iff (s : State) (g : GateId) : s.trackOnGate g = true ↔
    ∃ (i : SlotId) (k : Track), s.track? i = some k ∧ crosses g k.route = true := by
  unfold State.trackOnGate
  rw [List.any_eq_true]
  refine exists_congr fun i => ?_
  cases s.track? i <;> simp

theorem lineZone_burns (s : State) (l : LineId) : s.lineZone l (fun v => v == .fire) = true ↔
    ∃ z : ZoneId, inSet s.lines[l].zones z.val = true ∧ s.zones[z].level = .fire := by
  rw [lineZone_iff]
  simp only [beq_iff_eq]

section
variable {s : State} {t : Half} {g : GateId} (h : s.listens) (hm : s.mode = .guarded) (ht : t.toNat = g.val)
include h hm ht

theorem gateNormal_notInUse (use : s.gates[g].inUse = false) :
    exec (.gateNormal t []) s = .next (s.replyWith (.refused .notInUse)) :=
  request_refused h rfl (fun e => nomatch e) <|
    (bind_of_ok (takenInGuard_of_guarded hm)).trans <| (bind_of_ok (targetOf_ok.mpr ht)).trans <|
    bind_of_error (refuseFor_refused (by rw [use]; rfl))

theorem clearGate_notInUse (use : s.gates[g].inUse = false) :
    exec (.clearGate t []) s = .next (s.replyWith (.refused .notInUse)) :=
  request_refused h rfl (fun e => nomatch e) <|
    (bind_of_ok (takenInGuard_of_guarded hm)).trans <| (bind_of_ok (targetOf_ok.mpr ht)).trans <|
    bind_of_error (refuseFor_refused (by rw [use]; rfl))

variable (use : s.gates[g].inUse = true)
include use

theorem gateNormal_notAbort (state : s.gates[g].state ≠ .abort) :
    exec (.gateNormal t []) s = .next (s.replyWith (.refused .notAbort)) :=
  request_refused h rfl (fun e => nomatch e) <|
    (bind_of_ok (takenInGuard_of_guarded hm)).trans <| (bind_of_ok (targetOf_ok.mpr ht)).trans <|
    (bind_of_ok (refuseFor_passed (by rw [use]; rfl))).trans <| bind_of_error (refuseFor_refused (bne_iff_ne.mpr state))

omit h in
/-- GATE NORMAL at a gate in ABORT is judged by the zones of its line and by the tracks that cross it. -/
theorem gateNormal_judged (state : s.gates[g].state = .abort) : s.gateNormal t =
    refuseFor (s.lineZone (s.lineOfGate g) fun v => v == .fire) .zoneFire >>= fun _ =>
    refuseFor (s.trackOnGate g) .trackOnGate >>= fun _ => .ok ((s.begin.travelGate g .toNormal).finish, .ok []) :=
  (bind_of_ok (takenInGuard_of_guarded hm)).trans <| (bind_of_ok (targetOf_ok.mpr ht)).trans <|
    (bind_of_ok (refuseFor_passed (by rw [use]; rfl))).trans <| bind_of_ok (refuseFor_passed (by rw [state]; rfl))

theorem gateNormal_zoneFire (state : s.gates[g].state = .abort)
    (burns : s.lineZone (s.lineOfGate g) (fun v => v == .fire) = true) :
    exec (.gateNormal t []) s = .next (s.replyWith (.refused .zoneFire)) :=
  request_refused h rfl (fun e => nomatch e) <| (gateNormal_judged hm ht use state).trans <|
    bind_of_error (refuseFor_refused burns)

theorem gateNormal_trackOnGate (state : s.gates[g].state = .abort)
    (cold : s.lineZone (s.lineOfGate g) (fun v => v == .fire) = false) (crossed : s.trackOnGate g = true) :
    exec (.gateNormal t []) s = .next (s.replyWith (.refused .trackOnGate)) :=
  request_refused h rfl (fun e => nomatch e) <| (gateNormal_judged hm ht use state).trans <|
    (bind_of_ok (refuseFor_passed cold)).trans <| bind_of_error (refuseFor_refused crossed)

theorem gateNormal_taken (state : s.gates[g].state = .abort)
    (cold : s.lineZone (s.lineOfGate g) (fun v => v == .fire) = false) (clear : s.trackOnGate g = false) :
    exec (.gateNormal t []) s = .next ((s.begin.travelGate g .toNormal).finish.replyWith (.ok [])) :=
  request_answer h rfl (fun e => nomatch e) <| (gateNormal_judged hm ht use state).trans <|
    (bind_of_ok (refuseFor_passed cold)).trans <| bind_of_ok (refuseFor_passed clear)

theorem clearGate_notFaulted (state : s.gates[g].state ≠ .fault) :
    exec (.clearGate t []) s = .next (s.replyWith (.refused .notFaulted)) :=
  request_refused h rfl (fun e => nomatch e) <|
    (bind_of_ok (takenInGuard_of_guarded hm)).trans <| (bind_of_ok (targetOf_ok.mpr ht)).trans <|
    (bind_of_ok (refuseFor_passed (by rw [use]; rfl))).trans <| bind_of_error (refuseFor_refused (bne_iff_ne.mpr state))

theorem clearGate_taken (state : s.gates[g].state = .fault) : exec (.clearGate t []) s =
    .next (((s.updGate g fun q => { q with faultReason := none }).begin.travelGate g .toAbort).finish.replyWith (.ok [])) :=
  request_answer h rfl (fun e => nomatch e) <|
    (bind_of_ok (takenInGuard_of_guarded hm)).trans <| (bind_of_ok (targetOf_ok.mpr ht)).trans <|
    (bind_of_ok (refuseFor_passed (by rw [use]; rfl))).trans <| bind_of_ok (refuseFor_passed (by rw [state]; rfl))

end

/-! ## What the commands leave (R126, R130, R131) -/

theorem travelGate_out (w : Work) (g : GateId) (dest : GateState) :
    (w.travelGate g dest).out = w.out ++ [.gateMoved g] ++ [.gateCheck g] := rfl

/-- A gate driven to NORMAL that no track crosses travels, and nothing else changes. -/
theorem travelGate_finish {s : State} {g : GateId} (clear : s.trackOnGate g = false)
    (apart : ¬(s.gates[g].normalLimit = true ∧ s.gates[g].abortLimit = false)) :
    (s.begin.travelGate g .toNormal).finish = s.updGate g (travelling s .toNormal) := by
  have left : (s.begin.travelGate g .toNormal).st = s.updGate g (travelling s .toNormal) := travelGate_st _ _ _
  have here : (s.updGate g (travelling s .toNormal)).gates[g] = travelling s .toNormal s.gates[g] := updAt_same _ _ _
  refine (run_still Config.deliveryFuel fun d hd v same => ?_).trans left
  rw [left] at same
  rw [travelGate_out, begin_out, List.nil_append, List.mem_append, List.mem_singleton, List.mem_singleton] at hd
  rcases hd with rfl | rfl
  · refine gateMoved_uncrossed fun i k track => ?_
    rw [same] at track
    exact Bool.eq_false_iff.mpr fun crossed => absurd ((trackOnGate_iff s g).mpr ⟨i, k, track, crossed⟩)
      (Bool.eq_false_iff.mp clear)
  · refine checkGate_travels ?_ ?_
    · rw [same, here]
      rfl
    · rw [same, here]
      exact apart

/-- A fault cleared: its reason is gone, and the gate is driven to ABORT, whatever its limits confirm (R131). -/
theorem gateCleared (s : State) (g : GateId) :
    let u := ((s.updGate g fun q => { q with faultReason := none }).begin.travelGate g .toAbort).finish
    u.gates[g].faultReason = none ∧ (u.gates[g].state = .toAbort ∨ u.gates[g].state = .abort) ∧ s.Framed u := by
  let cleared : State := s.updGate g fun q => { q with faultReason := none }
  have left : (cleared.begin.travelGate g .toAbort).st = cleared.updGate g (travelling cleared .toAbort) :=
    travelGate_st _ _ _
  have once : cleared.gates[g] = { s.gates[g] with faultReason := none } := updAt_same _ _ _
  have here : (cleared.updGate g (travelling cleared .toAbort)).gates[g] = travelling cleared .toAbort cleared.gates[g] :=
    updAt_same _ _ _
  have kept := finish_kept (cleared.begin.travelGate g .toAbort)
  rw [left] at kept
  refine ⟨(kept.gates g).faultReason.trans ?_, (kept.gates g).toAbort ?_, framed_trans ?_ kept.framed⟩
  · rw [here, once]
    rfl
  · rw [here]
    rfl
  · refine framed_of_gates rfl fun k => ?_
    rw [updGate_gates, updGate_gates, updAt_twice]
    rcases updAt_cases s.gates g k (fun q => travelling cleared .toAbort { q with faultReason := none }) with
      ⟨-, r⟩ | ⟨-, r⟩ <;> rw [r]
    rfl

/-- Settles O46: the tests in the order in which they are judged, and what each command taken does to its gate. -/
theorem gateCommands : Obligations.GateCommands := by
  intro s t g h hm ht line burning crossed
  have burns_iff : s.lineZone (s.lineOfGate g) (fun v => v == .fire) = true ↔ burning := lineZone_burns s _
  have crossed_iff : s.trackOnGate g = true ↔ crossed := trackOnGate_iff s g
  refine ⟨fun use => ⟨gateNormal_notInUse h hm ht use, clearGate_notInUse h hm ht use⟩, fun use => ?_⟩
  refine ⟨gateNormal_notAbort h hm ht use, fun state burns => ?_, fun state cold onGate => ?_,
    fun state cold clear apart => ?_, clearGate_notFaulted h hm ht use, fun state => ?_⟩
  · exact gateNormal_zoneFire h hm ht use state (burns_iff.mpr burns)
  · exact gateNormal_trackOnGate h hm ht use state (Bool.eq_false_iff.mpr (mt burns_iff.mp cold)) (crossed_iff.mpr onGate)
  · have free : s.trackOnGate g = false := Bool.eq_false_iff.mpr (mt crossed_iff.mp clear)
    have timer : travelling s .toNormal = fun q : Gate =>
        { q with state := .toNormal, stateChanged := some s.now, timer := some (s.now + 2 * q.stroke * 1000) } := by
      funext q
      unfold travelling
      rw [if_pos hm]
      rfl
    rw [gateNormal_taken h hm ht use state (Bool.eq_false_iff.mpr (mt burns_iff.mp cold)) free,
      travelGate_finish free apart, timer]
    rfl
  · exact ⟨_, clearGate_taken h hm ht use state, gateCleared s g⟩

end Sys2Proof.Laws
end
